-- ==== Sys2Proof/Word.lean ====
section
/-! DEFINITION. The words of the part: bytes of the link, wrapping counters, and the plainest arithmetic on them. -/

namespace Sys2Proof

/-- One byte of a telegram (01 section 1.1). -/
abbrev Byte := BitVec 8

/-- A 16-bit wrapping number (a board's serial, 08 R141). -/
abbrev Half := BitVec 16

/-- An encoder position: 24-bit counts that wrap (00 Conventions, 08 R139). -/
abbrev Position := BitVec 24

/-- A 32-bit wrapping number (mill clock R34, minutes since reset R33, pack numbers R165). -/
abbrev Word := BitVec 32

/-- A kiln number 0..15. -/
abbrev KilnId := Fin 16

/-- A station number 0..254 (00 Terms "station"). -/
abbrev StationId := Fin 255

/-- `n` held into `lo..hi` (02 R29's field clamp). -/
def clampNat (lo hi n : Nat) : Nat := max lo (min hi n)

/-- `x` held into `lo..hi` (02 R29's field clamp, signed fields). -/
def clampInt (lo hi x : Int) : Int := max lo (min hi x)

/-- A 16-bit counter that stops at 65535 (R19, R36, R134, R160, R164). -/
def bump16 (n : Nat) : Nat := min 65535 (n + 1)

end Sys2Proof
end

