-- ==== Sys2Proof/Syntax.lean ====
section
/-! DEFINITION. The commands: one constructor for each row of spec/opcode_table.json. -/

namespace Sys2Proof

/-- The two link ports (01 section 1.1). -/
inductive PortId where
  | a
  | b
  deriving DecidableEq, Repr

/-- The commands of the part. The thirteen events carry what the outside world decides. Each request carries the
requesting station, the port of its arrival, its tag and its argument bytes (R3, section 2.1). -/
inductive Instr where
  /-- Power-on or RSTN: the levels of the straps STN0..STN7, of EYE, ENCA and ENCB at that moment (R8, R20, R139, R140). -/
  | deviceReset (straps : Byte) (eye encA encB : Bool)
  /-- A run of bytes without a gap has ended on a port; `idle` whole byte times of idle line came before it (R1, R2). -/
  | telegramReception (port : PortId) (idle : Nat) (run : List Byte)
  /-- The transmitter of a port may start, `idle` byte times after its last telegram (R18). -/
  | transmitStart (port : PortId) (idle : Nat)
  /-- The last byte of the telegram being sent on a port has gone out (R18). -/
  | transmissionComplete (port : PortId)
  /-- The filtered encoder inputs take these levels (R139). -/
  | encoderCount (encA encB : Bool)
  /-- EYE goes high (R140, R142). -/
  | leadingEdge
  /-- EYE goes low (R140, R144). -/
  | trailingEdge
  /-- The kiln-minute timer of a kiln reaches 60 s (R87, R88). -/
  | kilnMinuteExpiry (kiln : KilnId)
  /-- The watchdog interval reaches its upper limit (R32). -/
  | watchdogExpiry
  /-- The edit timer reaches 1800 s (R71). -/
  | editExpiry
  /-- The label timer reaches the timeout in use (R186). -/
  | labelTimeout
  /-- A minute of the mill clock ends (R34). -/
  | millClockMinute
  /-- A minute counted from the reset ends (R33). -/
  | resetMinuteCount
  /-- A request of a kind outside the catalogue (R23, R26). -/
  | unknownRequest (kind : Byte) (station : StationId) (port : PortId) (tag : Byte) (args : List Byte)
  | readKiln (station : StationId) (port : PortId) (tag : Byte) (args : List Byte)
  | readCharge (station : StationId) (port : PortId) (tag : Byte) (args : List Byte)
  | readPackLog (station : StationId) (port : PortId) (tag : Byte) (args : List Byte)
  | readLot (station : StationId) (port : PortId) (tag : Byte) (args : List Byte)
  | readEntry (station : StationId) (port : PortId) (tag : Byte) (args : List Byte)
  | readLine (station : StationId) (port : PortId) (tag : Byte) (args : List Byte)
  | readCounters (station : StationId) (port : PortId) (tag : Byte) (args : List Byte)
  | heartbeat (station : StationId) (port : PortId) (tag : Byte) (args : List Byte)
  | setClock (station : StationId) (port : PortId) (tag : Byte) (args : List Byte)
  | loadCharge (station : StationId) (port : PortId) (tag : Byte) (args : List Byte)
  | startKiln (station : StationId) (port : PortId) (tag : Byte) (args : List Byte)
  | override (station : StationId) (port : PortId) (tag : Byte) (args : List Byte)
  | resume (station : StationId) (port : PortId) (tag : Byte) (args : List Byte)
  | stop (station : StationId) (port : PortId) (tag : Byte) (args : List Byte)
  | restart (station : StationId) (port : PortId) (tag : Byte) (args : List Byte)
  | unload (station : StationId) (port : PortId) (tag : Byte) (args : List Byte)
  | planerFeed (station : StationId) (port : PortId) (tag : Byte) (args : List Byte)
  | releaseCharge (station : StationId) (port : PortId) (tag : Byte) (args : List Byte)
  | closePack (station : StationId) (port : PortId) (tag : Byte) (args : List Byte)
  | lineReset (station : StationId) (port : PortId) (tag : Byte) (args : List Byte)
  | editOpen (station : StationId) (port : PortId) (tag : Byte) (args : List Byte)
  | editHeader (station : StationId) (port : PortId) (tag : Byte) (args : List Byte)
  | editStep (station : StationId) (port : PortId) (tag : Byte) (args : List Byte)
  | editCommit (station : StationId) (port : PortId) (tag : Byte) (args : List Byte)
  | editAbort (station : StationId) (port : PortId) (tag : Byte) (args : List Byte)
  | entryDelete (station : StationId) (port : PortId) (tag : Byte) (args : List Byte)
  | writeStation (station : StationId) (port : PortId) (tag : Byte) (args : List Byte)
  | writeSpecies (station : StationId) (port : PortId) (tag : Byte) (args : List Byte)
  | writeKilnLimits (station : StationId) (port : PortId) (tag : Byte) (args : List Byte)
  | writeFaultActions (station : StationId) (port : PortId) (tag : Byte) (args : List Byte)
  | writeWatchdog (station : StationId) (port : PortId) (tag : Byte) (args : List Byte)
  | writeLine (station : StationId) (port : PortId) (tag : Byte) (args : List Byte)
  | writeMark (station : StationId) (port : PortId) (tag : Byte) (args : List Byte)
  | writeSort (station : StationId) (port : PortId) (tag : Byte) (args : List Byte)
  | writeBin (station : StationId) (port : PortId) (tag : Byte) (args : List Byte)
  | writeLabelField (station : StationId) (port : PortId) (tag : Byte) (args : List Byte)
  | setPackBase (station : StationId) (port : PortId) (tag : Byte) (args : List Byte)
  deriving DecidableEq, Repr

end Sys2Proof
end

