-- ==== Sys2Proof/Config.lean ====
section
/-! DEFINITION. The free values: what the spec leaves open, as constants without a body, and the sizes the spec fixes. -/

namespace Sys2Proof

/-- A free choice among several things whose order the spec leaves open (log 2, 7, 8, 12): applied to the
counter `State.freeCount`. DESIGN CHOICE, safe: nothing can be proved of its value. -/
opaque Config.freeChoice : Nat → Nat

/-- A free byte: a reply byte whose value no rule states (log 6). DESIGN CHOICE, safe. -/
opaque Config.freeByte : Nat → Byte

/-- Whether the two bytes of WRITE_KILN_LIMITS' deviation band are read as a signed number; the spec does not say
(log 9). DESIGN CHOICE, safe. -/
opaque Config.deviationBandSigned : Bool

/-- Telegrams a pass queue holds (R7). -/
def Config.passCapacity : Nat := 8
/-- Telegrams a local queue holds (R15). -/
def Config.localCapacity : Nat := 16
/-- Requests the request queue holds (R21). -/
def Config.requestCapacity : Nat := 4
/-- Entries at which an INFO notice no longer finds room (R38). -/
def Config.infoCapacity : Nat := 24
/-- Notices the notice queue holds (R38). -/
def Config.noticeCapacity : Nat := 32
/-- Boards the tracking queue holds (R141). -/
def Config.trackCapacity : Nat := 64
/-- Labels the label queue holds (R182). -/
def Config.labelCapacity : Nat := 8
/-- Entries the pack log holds (R175). -/
def Config.logCapacity : Nat := 64
/-- Lots the redry collection holds (R173). -/
def Config.lotCapacity : Nat := 32
/-- Entries a hold stack holds (R104). -/
def Config.stackCapacity : Nat := 4
/-- Seconds after which an idle edit expires (R71). -/
def Config.editLimit : Nat := 1800
/-- Bytes a receive buffer holds (R1). -/
def Config.bufferSize : Nat := 64

end Sys2Proof
end

