-- ==== Sys2Proof/Machine/Telegram.lean ====
section
/-! DEFINITION. The byte forms of the link: byte order, the check, and the layout of a telegram (01 R2, R3). -/

namespace Sys2Proof.Machine

/-- One byte holding `n` (its low eight bits). -/
def be8 (n : Nat) : List Byte := [BitVec.ofNat 8 n]

/-- Two bytes, most significant first (00 Conventions "Byte order"). -/
def be16 (n : Nat) : List Byte := [BitVec.ofNat 8 (n / 256), BitVec.ofNat 8 n]

/-- Three bytes, most significant first. -/
def be24 (n : Nat) : List Byte := [BitVec.ofNat 8 (n / 65536), BitVec.ofNat 8 (n / 256), BitVec.ofNat 8 n]

/-- Four bytes, most significant first. -/
def be32 (n : Nat) : List Byte :=
  [BitVec.ofNat 8 (n / 16777216), BitVec.ofNat 8 (n / 65536), BitVec.ofNat 8 (n / 256), BitVec.ofNat 8 n]

/-- A signed value in two bytes, most significant first. -/
def beI16 (x : Int) : List Byte := be16 (BitVec.ofInt 16 x).toNat

/-- A flag as one byte, 0 or 1. -/
def beBool (b : Bool) : List Byte := [if b then 1 else 0]

/-- One bit of the check: polynomial 0x1021, most significant bit first, no reflection (R2). -/
def crcShift (c : BitVec 16) : BitVec 16 := if c.msb then (c <<< 1) ^^^ 0x1021#16 else c <<< 1

/-- The check after one more byte (R2). -/
def crcByte (c : BitVec 16) (b : Byte) : BitVec 16 :=
  crcShift (crcShift (crcShift (crcShift (crcShift (crcShift (crcShift (crcShift
    (c ^^^ ((b.zeroExtend 16) <<< 8)))))))))

/-- The CRC-16 of a run of bytes, initial value 0xFFFF, no final inversion (R2). -/
def crc16 (bytes : List Byte) : BitVec 16 := bytes.foldl crcByte 0xFFFF#16

/-- The check's two bytes, high byte first (R2). -/
def crcBytes (bytes : List Byte) : List Byte := be16 (crc16 bytes).toNat

/-- The start byte of every telegram (R3). -/
def startByte : Byte := 0xA5#8

/-- A whole telegram: start, destination, source, kind, sequence, length, payload and the check over offsets 1..5+n
(R2, R3). -/
def telegram (dest source kind sequence : Byte) (payload : List Byte) : List Byte :=
  let body := [dest, source, kind, sequence, BitVec.ofNat 8 payload.length] ++ payload
  startByte :: body ++ crcBytes body

/-- The kind codes of R3. -/
def kindClimate : Byte := 0x10#8
def kindProbe : Byte := 0x11#8
def kindBoard : Byte := 0x20#8
def kindSetpoint : Byte := 0x30#8
def kindLabelRow : Byte := 0x40#8
def kindPrintDone : Byte := 0x41#8
def kindRequest : Byte := 0x50#8
def kindReply : Byte := 0x51#8
def kindNotice : Byte := 0x52#8

/-- The byte at an offset; 0 beyond the end (no rule reads there). -/
def u8 (bytes : List Byte) (i : Nat) : Nat := (bytes.getD i 0).toNat

/-- Two bytes at an offset, unsigned. -/
def u16 (bytes : List Byte) (i : Nat) : Nat := u8 bytes i * 256 + u8 bytes (i + 1)

/-- Three bytes at an offset, unsigned. -/
def u24 (bytes : List Byte) (i : Nat) : Nat := u8 bytes i * 65536 + u16 bytes (i + 1)

/-- Four bytes at an offset, unsigned. -/
def u32 (bytes : List Byte) (i : Nat) : Nat := u16 bytes i * 65536 + u16 bytes (i + 2)

/-- A 16-bit number read as signed. -/
def signed16 (n : Nat) : Int := if n < 32768 then (n : Int) else (n : Int) - 65536

/-- Two bytes at an offset, signed (00 Conventions "Temperatures"). -/
def i16 (bytes : List Byte) (i : Nat) : Int := signed16 (u16 bytes i)

/-- The STARTED broadcast of a part with this station number: destination 255, class INFO, kind STARTED, drop count 0,
no data, sequence 0 (R20, R37). -/
def startedTelegram (own : StationId) : List Byte :=
  telegram 255#8 (BitVec.ofNat 8 own.val) kindNotice 0#8 [0#8, 1#8, 0#8]

/-- The station number the straps give; 255 is taken as 254 (R8). -/
def stationOfStraps (straps : Byte) : StationId :=
  if h : straps.toNat < 255 then ⟨straps.toNat, h⟩ else ⟨254, by decide⟩

end Sys2Proof.Machine
end

