-- ==== Sys2Proof/Machine/State.lean ====
section
/-! DEFINITION. Everything the spec gives the part, as plain data, and its value right after a device reset. -/

namespace Sys2Proof.Machine

/-- What stops the part: nothing. The spec names no event that does; kiln faults are state and refused requests are
replies, so no meaning raises a fault. -/
inductive Fault where
  deriving DecidableEq, Repr

/-- Why a command has no meaning. -/
inductive Refusal where
  /-- Raised only by an arm of `exec` whose command has no meaning yet; no arm uses it now. Safe. -/
  | notModelled (mnemonic : String)
  deriving DecidableEq, Repr

/-! ## Link unit -/

/-- The two queues of a port's transmitter (R18). -/
inductive QueueName where
  | pass
  | loc
  deriving DecidableEq, Repr

/-- The source classes of a local queue, in their rotation (R15). -/
inductive SourceClass where
  | reply
  | setpoint
  | notice
  | labelRow
  deriving DecidableEq, Repr

/-- The six port counters, 16 bits each (R19). -/
structure PortCounters where
  good : Nat := 0
  checkErrors : Nat := 0
  formatErrors : Nat := 0
  forwarded : Nat := 0
  passDrops : Nat := 0
  loops : Nat := 0
  deriving DecidableEq, Repr

/-- One link port (00 "Link unit", 01). Queues hold whole telegrams, oldest first. -/
structure Port where
  /-- The receive buffer, at most 64 bytes (R1); free again when a reception has been checked. -/
  rxBuffer : List Byte := []
  /-- Telegrams received on the other port and awaiting forwarding, 0..8 (R7). -/
  passQueue : List (List Byte) := []
  /-- Telegrams the part originates, 0..16 (section 1.7). -/
  localQueue : List (List Byte) := []
  /-- The queue whose head is being transmitted; none while the transmitter is idle (R18). -/
  sending : Option QueueName := none
  /-- The arbiter's turn (R18). -/
  turn : QueueName := .pass
  /-- The class last served by an offer (R16). -/
  lastServed : SourceClass := .labelRow
  /-- The SETPOINT class: kilns with a setpoint waiting on this port, oldest first (R15, R17). -/
  setpointWaiting : List KilnId := []
  counters : PortCounters := {}
  deriving DecidableEq, Repr

/-- A station's role (section 1.6). -/
inductive Role where
  | none
  | supervisor
  | climate (k : KilnId)
  | probe (k : KilnId)
  | actuator (k : KilnId)
  | scanner
  | printer
  deriving DecidableEq, Repr

/-- One entry of the station map (section 1.6). Class mask bits: READ 0, OPERATE 1, SCHEDULE 2, CONFIGURE 3 (R12). -/
structure Station where
  role : Role := .none
  side : PortId := .a
  classes : BitVec 4 := 0
  notify : Bool := false
  deriving DecidableEq, Repr

/-! ## Supervision unit -/

/-- An entry of the request queue (section 2.1): the payload's kind, tag and arguments, the source and the port. -/
structure Request where
  kind : Byte
  tag : Byte
  args : List Byte
  station : StationId
  port : PortId
  deriving DecidableEq, Repr

/-- A reply in the pending slot: its port, destination and payload are fixed when it is built (R24). -/
structure PendingReply where
  port : PortId
  dest : StationId
  payload : List Byte
  deriving DecidableEq, Repr

/-- The watchdog's state (section 2.5). -/
inductive WatchdogState where
  | disarmed
  | armed
  | lapsed
  deriving DecidableEq, Repr

/-- The supervisory watchdog (section 2.5); `elapsed` is the time in seconds since the interval was last restarted,
0 while no interval runs (log 23). -/
structure Watchdog where
  state : WatchdogState := .disarmed
  upperWritten : Nat := 60
  lowerWritten : Nat := 0
  upperInUse : Nat := 60
  lowerInUse : Nat := 0
  elapsed : Nat := 0
  deriving DecidableEq, Repr

/-- The mill clock (R34) with the seconds into its present minute. -/
structure MillClock where
  value : Word := 0
  isSet : Bool := false
  phase : Nat := 0
  deriving DecidableEq, Repr

/-- A stamp: the clock's value and state at the moment of an event (R35). -/
structure Stamp where
  value : Word
  isSet : Bool
  deriving DecidableEq, Repr

/-- The notice kinds that pass through the notice queue (R37); STARTED does not. -/
inductive NoticeKind where
  | kilnStatus
  | stepChange
  | chargeDried
  | faultRaised
  | faultCleared
  | kilnStopped
  | supervisorLost
  | supervisorBack
  | editExpired
  | scheduleHeld
  | scheduleFollowed
  | packClosed
  | labelFailed
  | lotLost
  | lineHold
  | boardsLost
  deriving DecidableEq, Repr

/-- An entry of the notice queue (section 2.8). Its class is its kind's (R37). `kiln` is the kiln a KILN_STATUS reports. -/
structure Notice where
  kind : NoticeKind
  kiln : Option KilnId := none
  data : List Byte
  deriving DecidableEq, Repr

/-- The SUPERVISION counter group, 16 bits each (R36). -/
structure SupervisionCounters where
  requestsDropped : Nat := 0
  requestsDiscarded : Nat := 0
  noticesDropped : Nat := 0
  deriving DecidableEq, Repr

/-! ## Moisture unit -/

/-- One species group (section 3.1). -/
structure SpeciesGroup where
  offset : Int := 0
  slope : Nat := 1024
  coefficient : Nat := 0
  deriving DecidableEq, Repr

/-- The correction flag (section 3.2). -/
inductive MoistureFlag where
  | none
  | clamped
  | overRange
  deriving DecidableEq, Repr

/-- A corrected value 0..600 with its flag (section 3.2). -/
structure Corrected where
  value : Nat
  flag : MoistureFlag
  deriving DecidableEq, Repr

/-- A probe channel that holds a value (section 3.3): an absent value has flag NONE and an absent age. -/
structure Channel where
  value : Nat
  flag : MoistureFlag
  age : Nat
  deriving DecidableEq, Repr

/-- The charge estimate with its includes-clamped flag (R52). -/
structure Estimate where
  value : Nat
  clamped : Bool
  deriving DecidableEq, Repr

/-! ## Schedule store -/

/-- The exit basis of a step (section 4.2). -/
inductive ExitBasis where
  | time
  | estimate
  | wettest
  deriving DecidableEq, Repr

/-- A step slot (section 4.2); the default is the blank step of R58. -/
structure Step where
  dry : Int := 0
  depression : Int := 0
  dryRate : Nat := 1
  wetRate : Nat := 1
  basis : ExitBasis := .time
  exitMoisture : Nat := 0
  minDuration : Nat := 0
  maxDuration : Nat := 0
  fanInterval : Nat := 0
  deriving DecidableEq, Repr

/-- A schedule's header (sections 4.1, 4.4): `species` is 0..15, or 255 for any species. -/
structure Header where
  species : Nat := 255
  permit : Byte := 0
  count : Nat := 0
  deriving DecidableEq, Repr

/-- A directory entry with its run of 24 pool slots (section 4.1); the default is the INVALID entry of R58. -/
structure DirEntry where
  valid : Bool := false
  generation : Nat := 0
  header : Header := {}
  inUse : Nat := 0
  steps : Vector Step 24 := Vector.replicate 24 {}
  deriving DecidableEq, Repr

/-- The OPEN staging area with its edit timer in seconds (section 4.4, R71). -/
structure Staging where
  target : Fin 32
  header : Header
  steps : Vector Step 24
  timer : Nat
  deriving DecidableEq, Repr

/-! ## Kiln units -/

/-- A kiln's state (section 5.1). -/
inductive KilnState where
  | idle
  | loaded
  | running
  | held
  | stopped
  | done
  deriving DecidableEq, Repr

/-- A dry and a wet value in tenths of a degree. -/
structure TempPair where
  dry : Int
  wet : Int
  deriving DecidableEq, Repr

/-- A limits record (section 5.2); the defaults are the table's. -/
structure Limits where
  dryMin : Int := 200
  dryMax : Int := 1000
  plausLow : Int := -400
  plausHigh : Int := 1500
  deviationBand : Int := 50
  deviationMinutes : Nat := 30
  silenceMinutes : Nat := 5
  safeDry : Int := 300
  safeWet : Int := 250
  safeRate : Nat := 10
  idleDry : Int := 200
  idleWet : Int := 180
  group : Nat := 0
  tempDeadband : Nat := 10
  moistDeadband : Nat := 5
  deriving DecidableEq, Repr

/-- A fault action (R115). -/
inductive FaultAction where
  | none
  | hold
  | safe
  | shutdown
  deriving DecidableEq, Repr

/-- The four fault kinds (section 6.2). -/
inductive FaultKind where
  | silent
  | range
  | deviation
  | supervisor
  deriving DecidableEq, Repr

/-- One value for each fault kind. -/
structure PerFault (α : Type) where
  silent : α
  range : α
  deviation : α
  supervisor : α
  deriving DecidableEq, Repr

/-- What a hold stack entry holds (section 6.1). -/
inductive HoldKind where
  | override (dry wet : Int) (dryRate wetRate : Nat)
  | fault (kind : FaultKind) (action : FaultAction)
  | schedule
  deriving DecidableEq, Repr

/-- A hold stack entry with its push stamp (section 6.1). -/
structure HoldEntry where
  kind : HoldKind
  stamp : Stamp
  deriving DecidableEq, Repr

/-- The fan direction (section 5.6). -/
inductive Fan where
  | forward
  | reverse
  deriving DecidableEq, Repr

/-- The verdict on a climate arrival (R99). -/
inductive Verdict where
  | good
  | bad
  deriving DecidableEq, Repr

/-- The step index and the elapsed kiln minutes of a schedule context (chapter 5's state table). -/
structure StepPosition where
  index : Nat
  elapsed : Nat
  deriving DecidableEq, Repr

/-- One kiln unit (chapter 5's and chapter 6's state tables); the defaults are those of R77, R78, R49, R104, R109, R110,
R112, R115 and R117 for device reset. -/
structure Kiln where
  state : KilnState := .idle
  written : Limits := {}
  inUse : Limits := {}
  actions : PerFault FaultAction := ⟨.safe, .hold, .none, .hold⟩
  /-- The number of the charge the kiln holds. -/
  charge : Option Nat := none
  stepCopy : Option Step := none
  position : Option StepPosition := none
  targets : Option TempPair := none
  limited : Bool := false
  setpoints : Option TempPair := none
  ramping : Bool := false
  fan : Fan := .forward
  climateStatus : Option Byte := none
  verdict : Option Verdict := none
  lastGood : Option TempPair := none
  mask : BitVec 12 := 0
  channels : Vector (Option Channel) 12 := Vector.replicate 12 none
  estimate : Option Estimate := none
  wettest : Option Nat := none
  /-- The hold stack, top first. -/
  stack : List HoldEntry := []
  entryPending : Bool := false
  /-- A latch is clear (none) or set with the action it was taken with (R109). -/
  latches : PerFault (Option FaultAction) := ⟨none, none, none, none⟩
  reported : PerFault Bool := ⟨false, false, false, false⟩
  silence : Nat := 0
  countdown : Nat := 30
  /-- The kiln-minute timer in seconds; none while it is stopped (R87). -/
  timer : Option Nat := none
  reportedDry : Option Int := none
  reportedWet : Option Int := none
  reportedEstimate : Option Nat := none
  deriving DecidableEq, Repr

/-! ## Charge table -/

/-- The states of a charge record (section 7.1). -/
inductive ChargeState where
  | loaded
  | drying
  | dried
  | stored
  | planing
  | planed
  | closed
  deriving DecidableEq, Repr

/-- The end reason of a charge (R102). -/
inductive EndReason where
  | complete
  | stopped
  | notDried
  deriving DecidableEq, Repr

/-- The exit reason of a step (R94). -/
inductive ExitReason where
  | time
  | moisture
  | timeLimit
  deriving DecidableEq, Repr

/-- A step history entry (R95). -/
structure HistoryEntry where
  index : Nat
  reason : ExitReason
  elapsed : Nat
  estimate : Option Nat
  deriving DecidableEq, Repr

/-- The five moisture classes (section 3.6). -/
inductive MoistureClass where
  | noRead
  | overdry
  | target
  | wet
  | redry
  deriving DecidableEq, Repr

/-- The planer statistics (R134): counts stop at 65535, the sum at 4294967295. -/
structure PlanerStats where
  boards : Nat := 0
  noRead : Nat := 0
  overdry : Nat := 0
  target : Nat := 0
  wet : Nat := 0
  redry : Nat := 0
  mcSum : Nat := 0
  reads : Nat := 0
  deriving DecidableEq, Repr

/-- A charge record (chapter 7's table); the default is the empty record of R124. -/
structure Charge where
  number : Nat := 0
  state : ChargeState := .closed
  kiln : Option KilnId := none
  entry : Fin 32 := 0
  generation : Nat := 0
  follow : Bool := false
  species : Fin 16 := 0
  mask : BitVec 12 := 0
  loadStamp : Option Stamp := none
  startStamp : Option Stamp := none
  dryEndStamp : Option Stamp := none
  endReason : Option EndReason := none
  finalEstimate : Option Nat := none
  finalWettest : Option Nat := none
  history : List HistoryEntry := []
  pushes : Nat := 0
  redry : Bool := false
  origins : List Nat := []
  truncated : Bool := false
  stats : PlanerStats := {}
  refs : Nat := 0
  closedStamp : Option Stamp := some ⟨0, false⟩
  deriving DecidableEq, Repr

/-! ## Line tracker -/

/-- The direction of the outfeed chain (R139). -/
inductive Direction where
  | forward
  | backward
  deriving DecidableEq, Repr

/-- The states of a board (section 8.3). -/
inductive BoardState where
  | inView
  | awaitRead
  | skipped
  | read
  deriving DecidableEq, Repr

/-- What a paired scan leaves on a board (R147). -/
structure ScanData where
  sequence : Byte
  grade : Nat
  length : Nat
  headTemp : Int
  deriving DecidableEq, Repr

/-- A fixed pattern: its index and the copied entry (R150). -/
structure FixedPattern where
  index : Nat
  mask : BitVec 4
  first : Nat
  last : Nat
  deriving DecidableEq, Repr

/-- A board record (section 8.3). `reachedStacker` keeps that the board has reached its stacker point, which R152 needs of a
board that waits behind the head. -/
structure Board where
  serial : Half
  charge : Option Nat
  leading : Position
  state : BoardState := .inView
  scan : Option ScanData := none
  zones : List (Option Corrected) := []
  mc : Option Nat := none
  mean : Option Nat := none
  cls : Option MoistureClass := none
  pattern : Option FixedPattern := none
  split : Bool := false
  lateRead : Bool := false
  long : Bool := false
  clamped : Bool := false
  overRange : Bool := false
  reachedStacker : Bool := false
  deriving DecidableEq, Repr

/-- The early-edge policy (section 8.10). -/
inductive EdgePolicy where
  | split
  | merge
  deriving DecidableEq, Repr

/-- The line settings (section 8.10); the defaults are the table's. -/
structure LineSettings where
  minSpacing : Nat := 200
  policy : EdgePolicy := .split
  markDistance : Nat := 4000
  stackerDistance : Nat := 12000
  defaultSpecies : Fin 16 := 0
  fallThrough : Fin 16 := 15
  overdry : Nat := 80
  wet : Nat := 190
  redry : Nat := 230
  labelTimeout : Nat := 20
  deriving DecidableEq, Repr

/-- An entry of the mark pattern table (R149). -/
structure MarkPattern where
  mask : BitVec 4 := 0
  first : Nat := 0
  last : Nat := 0
  deriving DecidableEq, Repr

/-- The LINE counter group, 16 bits each (R160). -/
structure LineCounters where
  opened : Nat := 0
  departed : Nat := 0
  lost : Nat := 0
  reverseEdges : Nat := 0
  scanStale : Nat := 0
  scanUnmatched : Nat := 0
  latePrint : Nat := 0
  deriving DecidableEq, Repr

/-- The line tracker (chapter 8's state table). -/
structure Line where
  position : Position := 0
  direction : Direction := .forward
  encA : Bool := false
  encB : Bool := false
  /-- The eye state: true while BLOCKED (R140). -/
  eyeBlocked : Bool := false
  lastLeading : Option Position := none
  lastOpened : Option Half := none
  nextSerial : Half := 0
  /-- The tracking queue, head first. -/
  queue : List Board := []
  expected : Option Byte := none
  settings : LineSettings := {}
  patterns : Vector MarkPattern 6 := Vector.replicate 6 {}
  /-- MARK0..MARK3, bit j for MARKj. -/
  marks : BitVec 4 := 0
  /-- The line-hold state: true while ASSERTED; also the LHOLD output (R155). -/
  holdAsserted : Bool := false
  lostNotice : Bool := false
  counters : LineCounters := {}
  infeed : Option Nat := none
  deriving DecidableEq, Repr

/-! ## Pack builder -/

/-- A sort list entry (section 9.1): an empty class mask marks it empty. Mask bits: NO_READ 0 .. REDRY 4 (R162). -/
structure SortEntry where
  mask : BitVec 5 := 0
  gradeLow : Nat := 0
  gradeHigh : Nat := 0
  lengthLow : Nat := 0
  lengthHigh : Nat := 0
  bin : Fin 16 := 0
  deriving DecidableEq, Repr

/-- A bin's or a pack's kind (section 9.2). -/
inductive PackKind where
  | normal
  | redry
  deriving DecidableEq, Repr

/-- An inclusive range of numbers. -/
structure Range where
  low : Nat
  high : Nat
  deriving DecidableEq, Repr

/-- An open pack (section 9.3); its bin is the bin that holds it. -/
structure Pack where
  number : Word
  kind : PackKind
  target : Nat
  countdown : Nat
  count : Nat := 0
  opened : Stamp
  mcSum : Nat := 0
  reads : Nat := 0
  mcMin : Option Nat := none
  mcMax : Option Nat := none
  grades : Option Range := none
  lengths : Option Range := none
  /-- The charge list: a charge number, or none (section 9.3). -/
  charges : List (Option Nat) := []
  deriving DecidableEq, Repr

/-- A bin (section 9.2) with the pack open in it. -/
structure Bin where
  target : Nat := 0
  kind : PackKind := .normal
  counter : Nat := 0
  pack : Option Pack := none
  deriving DecidableEq, Repr

/-- Why a pack closes (section 9.4). -/
inductive CloseReason where
  | countReached
  | chargeMix
  | forced
  | lineReset
  deriving DecidableEq, Repr

/-- The label outcomes (section 9.6). -/
inductive LabelOutcome where
  | pending
  | printed
  | printerFault
  | timeout
  | noLabel
  deriving DecidableEq, Repr

/-- A pack log entry (section 9.6, R175). -/
structure LogEntry where
  pack : Pack
  bin : Fin 16
  reason : CloseReason
  outcome : LabelOutcome
  noLot : Bool
  closed : Stamp
  deriving DecidableEq, Repr

/-- A redry lot (section 9.5). -/
structure Lot where
  id : Word
  species : Fin 16
  count : Nat
  mean : Option Nat
  origins : List Nat
  deriving DecidableEq, Repr

/-! ## Label unit -/

/-- The sixteen field kinds of a label (R179). -/
inductive FieldKind where
  | packNumber
  | bin
  | grade
  | length
  | boardCount
  | mcMean
  | mcMax
  | mcMin
  | species
  | charges
  | kilns
  | dryEnd
  | closeTime
  | kind
  | closeReason
  | text
  deriving DecidableEq, Repr

/-- A layout entry that describes a field (section 10.1). -/
structure LabelField where
  kind : FieldKind
  row : Nat
  column : Nat
  width : Nat
  text : List Byte
  deriving DecidableEq, Repr

/-- A rendered label (chapter 10): eight rows of forty characters. -/
structure Label where
  pack : Word
  bin : Fin 16
  rows : List (List Byte)
  deriving DecidableEq, Repr

/-- The protocol state of the head label (section 10.4). -/
inductive HeadState where
  | waiting
  | sending
  | awaitPrint
  deriving DecidableEq, Repr

/-- The label unit (chapter 10's state table). -/
structure LabelUnit where
  layout : Vector (Option LabelField) 16 := Vector.replicate 16 none
  queue : List Label := []
  /-- The head label's state; none while the queue is empty. -/
  head : Option HeadState := none
  nextRow : Nat := 0
  /-- The label timer: its seconds while it runs, none while it is stopped (R182, R186). -/
  timer : Option Nat := none
  /-- The timeout in use, taken from the line settings as the timer starts (R184). Its value at reset, the label timeout that
  the line settings hold there, and its standing while the timer is stopped are the model's choices (log 30). -/
  timeoutInUse : Nat := 20
  deriving DecidableEq, Repr

/-! ## The whole part -/

/-- Everything the spec gives the part, the queue of waiting commands, and the model's own counter of free values. -/
structure State where
  /-- The commands that wait, first in, first out (log 1). -/
  pending : List Instr := []
  /-- The model's own: how many free values have been drawn (log 20). -/
  freeCount : Nat := 0
  -- link unit
  own : StationId := 0
  sendCounter : Byte := 0
  portA : Port := {}
  portB : Port := {}
  stations : Vector Station 255 := Vector.replicate 255 {}
  -- supervision unit
  requests : List Request := []
  replySlot : Option PendingReply := none
  watchdog : Watchdog := {}
  clock : MillClock := {}
  minutes : Word := 0
  minutePhase : Nat := 0
  supervision : SupervisionCounters := {}
  notices : List Notice := []
  dropCount : Nat := 0
  -- moisture unit
  species : Vector SpeciesGroup 16 := Vector.replicate 16 {}
  -- schedule store
  directory : Vector DirEntry 32 := Vector.replicate 32 {}
  staging : Option Staging := none
  -- kiln units
  kilns : Vector Kiln 16 := Vector.replicate 16 {}
  -- charge table
  charges : Vector Charge 48 := Vector.replicate 48 {}
  reuse : List (Fin 48) := List.finRange 48
  -- line tracker
  line : Line := {}
  -- pack builder
  sortList : Vector SortEntry 16 := Vector.replicate 16 {}
  bins : Vector Bin 16 := Vector.replicate 16 {}
  nextPack : Word := 1
  packLog : List LogEntry := []
  lots : List Lot := []
  -- label unit
  labels : LabelUnit := {}
  deriving DecidableEq, Repr

/-- The part right after a device reset with these input levels (R8, R20, R22, R30, R34, R43, R44, R49, R76, R77, R124,
R139, R140, R141, R149, R155, R157, R162, R164, R165, R174, R175, R178, R182): every block at its reset value, and one
STARTED telegram in each local queue under sequence 0. -/
def State.afterReset (straps : Byte) (eye encA encB : Bool) : State :=
  let own := stationOfStraps straps
  let port : Port := { localQueue := [startedTelegram own] }
  { own := own
    sendCounter := 1
    portA := port
    portB := port
    line := { eyeBlocked := eye, encA := encA, encB := encB } }

/-- The part right after power-on with all straps, EYE and the encoder inputs low (log 5, DESIGN CHOICE, unsafe). -/
def State.reset : State := State.afterReset 0#8 false false false

end Sys2Proof.Machine
end

