-- ==== Sys2Proof/Machine/Flags.lean ====
section
/-! DEFINITION. Every code, flag byte, mask and absent value of the spec's layouts, in one place. -/

namespace Sys2Proof.Machine

/-! ## Link and supervision codes -/

/-- Role codes and the kiln of a role (R12, R13). -/
def Role.code : Role → Nat
  | .none => 0
  | .supervisor => 1
  | .climate _ => 2
  | .probe _ => 3
  | .actuator _ => 4
  | .scanner => 5
  | .printer => 6

/-- The kiln a role names, 0 for roles without one (R13). -/
def Role.kilnCode : Role → Nat
  | .none => 0
  | .supervisor => 0
  | .climate k => k.val
  | .probe k => k.val
  | .actuator k => k.val
  | .scanner => 0
  | .printer => 0

/-- The kiln whose station a role makes its holder, if it is a kiln role (R12). -/
def Role.kiln? : Role → Option KilnId
  | .none => Option.none
  | .supervisor => Option.none
  | .climate k => some k
  | .probe k => some k
  | .actuator k => some k
  | .scanner => Option.none
  | .printer => Option.none

/-- A unique role: CLIMATE(k), PROBE(k), ACTUATOR(k), SCANNER, PRINTER (section 1.6). -/
def Role.isUnique : Role → Bool
  | .none => false
  | .supervisor => false
  | .climate _ => true
  | .probe _ => true
  | .actuator _ => true
  | .scanner => true
  | .printer => true

/-- Side codes: 0 A, 1 B (R12). -/
def sideCode : PortId → Nat
  | .a => 0
  | .b => 1

/-- The watchdog state's code (R30). -/
def WatchdogState.code : WatchdogState → Nat
  | .disarmed => 0
  | .armed => 1
  | .lapsed => 2

/-- Notice codes (R37). -/
def NoticeKind.code : NoticeKind → Nat
  | .kilnStatus => 0x02
  | .stepChange => 0x03
  | .chargeDried => 0x04
  | .faultRaised => 0x05
  | .faultCleared => 0x06
  | .kilnStopped => 0x07
  | .supervisorLost => 0x08
  | .supervisorBack => 0x09
  | .editExpired => 0x0A
  | .scheduleHeld => 0x0B
  | .scheduleFollowed => 0x0C
  | .packClosed => 0x0D
  | .labelFailed => 0x0E
  | .lotLost => 0x0F
  | .lineHold => 0x10
  | .boardsLost => 0x11

/-- Notice classes: true for ALARM, false for INFO (R37). -/
def NoticeKind.isAlarm : NoticeKind → Bool
  | .kilnStatus => false
  | .stepChange => false
  | .chargeDried => false
  | .faultRaised => true
  | .faultCleared => false
  | .kilnStopped => true
  | .supervisorLost => true
  | .supervisorBack => false
  | .editExpired => false
  | .scheduleHeld => true
  | .scheduleFollowed => false
  | .packClosed => false
  | .labelFailed => true
  | .lotLost => true
  | .lineHold => false
  | .boardsLost => true

/-! ## Absent values and stamps -/

/-- A temperature, −32768 where absent (R101). -/
def beTemp : Option Int → List Byte
  | some x => beI16 x
  | none => beI16 (-32768)

/-- A moisture figure, 65535 where absent (R101, R136). -/
def beMoisture : Option Nat → List Byte
  | some x => be16 x
  | none => be16 65535

/-- A 16-bit number, 65535 where absent (READ_LINE's length, the pack log's lengths: R161, R175). -/
def beLength : Option Nat → List Byte
  | some x => be16 x
  | none => be16 65535

/-- A byte, 255 where absent (R136, R161, R175). -/
def beByteOr255 : Option Nat → List Byte
  | some x => be8 x
  | none => be8 255

/-- A stamp as its value and set byte (R35). -/
def beStamp (t : Stamp) : List Byte := be32 t.value.toNat ++ beBool t.isSet

/-- A stamp that may be absent: value 0 and 255 where absent (R136). -/
def beStamp? : Option Stamp → List Byte
  | some t => beStamp t
  | none => be32 0 ++ be8 255

/-- The ordering of stamps: any unset stamp is older than every set stamp, stamps of one kind compare by value (R35, R125). -/
def Stamp.older (x y : Stamp) : Bool :=
  match x.isSet, y.isSet with
  | false, true => true
  | true, false => false
  | false, false => x.value.toNat < y.value.toNat
  | true, true => x.value.toNat < y.value.toNat

/-! ## Moisture and schedule codes -/

/-- The correction flag's code (R103 page 1, R161 page 2). -/
def MoistureFlag.code : MoistureFlag → Nat
  | .none => 0
  | .clamped => 1
  | .overRange => 2

/-- Exit basis codes (R67). -/
def ExitBasis.code : ExitBasis → Nat
  | .time => 0
  | .estimate => 1
  | .wettest => 2

/-- The exit basis of a code (R67 check 4). -/
def ExitBasis.ofCode? : Nat → Option ExitBasis
  | 0 => some .time
  | 1 => some .estimate
  | 2 => some .wettest
  | _ => none

/-! ## Kiln codes -/

/-- Kiln state codes (R103). -/
def KilnState.code : KilnState → Nat
  | .idle => 0
  | .loaded => 1
  | .running => 2
  | .held => 3
  | .stopped => 4
  | .done => 5

/-- The SETPOINT mode of a kiln state: 0 OFF, 1 IDLE, 2 RUN; an IDLE kiln sends none (R98). -/
def KilnState.setpointMode : KilnState → Option Nat
  | .idle => none
  | .loaded => some 1
  | .running => some 2
  | .held => some 2
  | .stopped => some 0
  | .done => some 1

/-- Fan codes (R98). -/
def Fan.code : Fan → Nat
  | .forward => 0
  | .reverse => 1

/-- The other fan direction (R93). -/
def Fan.flip : Fan → Fan
  | .forward => .reverse
  | .reverse => .forward

/-- Fault action codes (R114, R115). -/
def FaultAction.code : FaultAction → Nat
  | .none => 0
  | .hold => 1
  | .safe => 2
  | .shutdown => 3

/-- The fault action of a code (R115). -/
def FaultAction.ofCode? : Nat → Option FaultAction
  | 0 => some .none
  | 1 => some .hold
  | 2 => some .safe
  | 3 => some .shutdown
  | _ => Option.none

/-- Fault kind codes (section 6.2). -/
def FaultKind.code : FaultKind → Nat
  | .silent => 0
  | .range => 1
  | .deviation => 2
  | .supervisor => 3

/-- Latch bits (section 6.2). -/
def FaultKind.bit : FaultKind → Nat
  | .silent => 1
  | .range => 2
  | .deviation => 4
  | .supervisor => 8

/-- The four fault kinds in code order. -/
def FaultKind.all : List FaultKind := [.silent, .range, .deviation, .supervisor]

/-- The value of a fault kind. -/
def PerFault.get {α : Type} (t : PerFault α) : FaultKind → α
  | .silent => t.silent
  | .range => t.range
  | .deviation => t.deviation
  | .supervisor => t.supervisor

/-- The table with one fault kind's value replaced. -/
def PerFault.set {α : Type} (t : PerFault α) (k : FaultKind) (x : α) : PerFault α :=
  match k with
  | .silent => { t with silent := x }
  | .range => { t with range := x }
  | .deviation => { t with deviation := x }
  | .supervisor => { t with supervisor := x }

/-- The latches byte: the sum of the bits of the kinds set (R109). -/
def Kiln.latchByte (q : Kiln) : Nat :=
  (FaultKind.all.map (fun f => if (q.latches.get f).isSome then f.bit else 0)).sum

/-- The reported kinds as a sum of latch bits (R123). -/
def Kiln.reportedByte (q : Kiln) : Nat :=
  (FaultKind.all.map (fun f => if q.reported.get f then f.bit else 0)).sum

/-- The estimate's includes-clamped flag; an absent estimate carries none (R52). -/
def Kiln.estimateClamped (q : Kiln) : Bool :=
  match q.estimate with
  | some e => e.clamped
  | none => false

/-- The indicators byte: RAMPING 1, LIMITED 2, estimate includes clamped 4, fan REVERSE 8, latest verdict BAD 16 (R101). -/
def Kiln.indicators (q : Kiln) : Nat :=
  (if q.ramping then 1 else 0) + (if q.limited then 2 else 0) + (if q.estimateClamped then 4 else 0)
    + (if q.fan = .reverse then 8 else 0) + (if q.verdict = some .bad then 16 else 0)

/-- Hold kind codes (R107, R123). -/
def HoldKind.code : HoldKind → Nat
  | .override _ _ _ _ => 1
  | .fault _ _ => 2
  | .schedule => 3

/-! ## Charge codes -/

/-- Charge state codes (R137). -/
def ChargeState.code : ChargeState → Nat
  | .loaded => 0
  | .drying => 1
  | .dried => 2
  | .stored => 3
  | .planing => 4
  | .planed => 5
  | .closed => 6

/-- End reason codes (R102). -/
def EndReason.code : EndReason → Nat
  | .complete => 0
  | .stopped => 1
  | .notDried => 2

/-- Exit reason codes (R95). -/
def ExitReason.code : ExitReason → Nat
  | .time => 0
  | .moisture => 1
  | .timeLimit => 2

/-! ## Line codes -/

/-- Moisture class codes, also the class's index in the mark pattern table (section 8.6, R161). -/
def MoistureClass.code : MoistureClass → Nat
  | .noRead => 0
  | .overdry => 1
  | .target => 2
  | .wet => 3
  | .redry => 4

/-- Board state codes (R161). -/
def BoardState.code : BoardState → Nat
  | .inView => 0
  | .awaitRead => 1
  | .skipped => 2
  | .read => 3

/-- Direction codes (R161). -/
def Direction.code : Direction → Nat
  | .forward => 0
  | .backward => 1

/-- Early-edge policy codes (section 8.10). -/
def EdgePolicy.code : EdgePolicy → Nat
  | .split => 0
  | .merge => 1

/-- The policy of a code (R158 check 2). -/
def EdgePolicy.ofCode? : Nat → Option EdgePolicy
  | 0 => some .split
  | 1 => some .merge
  | _ => none

/-- A board's flags byte: SPLIT 1, LATE_READ 2, LONG 4, CLAMPED 8, OVER 16 (R161). -/
def Board.flagByte (b : Board) : Nat :=
  (if b.split then 1 else 0) + (if b.lateRead then 2 else 0) + (if b.long then 4 else 0)
    + (if b.clamped then 8 else 0) + (if b.overRange then 16 else 0)

/-! ## Pack codes -/

/-- Pack kind codes (R164). -/
def PackKind.code : PackKind → Nat
  | .normal => 0
  | .redry => 1

/-- The pack kind of a code (R164). -/
def PackKind.ofCode? : Nat → Option PackKind
  | 0 => some .normal
  | 1 => some .redry
  | _ => none

/-- Close reason codes (section 9.4). -/
def CloseReason.code : CloseReason → Nat
  | .countReached => 0
  | .chargeMix => 1
  | .forced => 2
  | .lineReset => 3

/-- Label outcome codes (section 9.6). -/
def LabelOutcome.code : LabelOutcome → Nat
  | .pending => 0
  | .printed => 1
  | .printerFault => 2
  | .timeout => 3
  | .noLabel => 4

/-! ## Label codes -/

/-- Field kind codes (R179). -/
def FieldKind.code : FieldKind → Nat
  | .packNumber => 0
  | .bin => 1
  | .grade => 2
  | .length => 3
  | .boardCount => 4
  | .mcMean => 5
  | .mcMax => 6
  | .mcMin => 7
  | .species => 8
  | .charges => 9
  | .kilns => 10
  | .dryEnd => 11
  | .closeTime => 12
  | .kind => 13
  | .closeReason => 14
  | .text => 15

/-- The field kind of a code (R178, R179). -/
def FieldKind.ofCode? : Nat → Option FieldKind
  | 0 => some .packNumber
  | 1 => some .bin
  | 2 => some .grade
  | 3 => some .length
  | 4 => some .boardCount
  | 5 => some .mcMean
  | 6 => some .mcMax
  | 7 => some .mcMin
  | 8 => some .species
  | 9 => some .charges
  | 10 => some .kilns
  | 11 => some .dryEnd
  | 12 => some .closeTime
  | 13 => some .kind
  | 14 => some .closeReason
  | 15 => some .text
  | _ => none

end Sys2Proof.Machine
end

