-- ==== Sys2Proof/Machine/Ops.lean ====
section
/-! DEFINITION. The operations every block shares: accessors, the station map's lookups, free orders, the local queues
with their source classes (01 section 1.7), the notice queue (02 section 2.8), and references to charge records. -/

namespace Sys2Proof.Machine

/-! ## Accessors -/

/-- The port opposite to a port (R6). -/
def otherPort : PortId → PortId
  | .a => .b
  | .b => .a

/-- One port of the part. -/
def State.port (s : State) : PortId → Port
  | .a => s.portA
  | .b => s.portB

/-- The part with one port replaced. -/
def State.setPort (p : PortId) (x : Port) (s : State) : State :=
  match p with
  | .a => { s with portA := x }
  | .b => { s with portB := x }

/-- The part with one port changed. -/
def State.modPort (p : PortId) (f : Port → Port) (s : State) : State := s.setPort p (f (s.port p))

/-- One kiln unit. -/
def State.kiln (s : State) (k : KilnId) : Kiln := s.kilns[k]

/-- The part with one kiln unit replaced. -/
def State.setKiln (k : KilnId) (q : Kiln) (s : State) : State := { s with kilns := s.kilns.set k q }

/-- The part with one kiln unit changed. -/
def State.modKiln (k : KilnId) (f : Kiln → Kiln) (s : State) : State := s.setKiln k (f (s.kiln k))

/-- The part with the line tracker changed. -/
def State.modLine (f : Line → Line) (s : State) : State := { s with line := f s.line }

/-- The part with the label unit changed. -/
def State.modLabels (f : LabelUnit → LabelUnit) (s : State) : State := { s with labels := f s.labels }

/-- The part with one bin changed. -/
def State.modBin (b : Fin 16) (f : Bin → Bin) (s : State) : State := { s with bins := s.bins.set b (f s.bins[b]) }

/-- A number below a bound as an index, or none (the range checks of the requests). -/
def index? (n i : Nat) : Option (Fin n) := if h : i < n then some ⟨i, h⟩ else none

/-- The mill clock's present stamp (R35). -/
def State.stamp (s : State) : Stamp := ⟨s.clock.value, s.clock.isSet⟩

/-- The FAULT output: asserted while a latch is set in some kiln (R118). -/
def State.faultOutput (s : State) : Bool := s.kilns.toList.any (fun q => q.latchByte != 0)

/-! ## Free orders -/

/-- `fuel` draws of an element of a list, each drawn element taken out, drawn by free values; a list of one element has
one order. -/
def freeOrderFrom {α : Type} (c : Nat) : Nat → List α → List α
  | 0, l => l
  | _ + 1, [] => []
  | _ + 1, [x] => [x]
  | fuel + 1, x :: y :: l =>
    let i := Config.freeChoice (c + fuel) % (l.length + 2)
    (x :: y :: l).getD i x :: freeOrderFrom c fuel ((x :: y :: l).eraseIdx i)

/-- A list in an order that nothing fixes (log 7, 8). -/
def State.freeOrder {α : Type} (s : State) (l : List α) : List α := freeOrderFrom s.freeCount l.length l

/-- The part after `n` free values have been drawn. -/
def State.drewFree (n : Nat) (s : State) : State := { s with freeCount := s.freeCount + n }

/-! ## The station map (01 section 1.6) -/

/-- The first station whose entry passes a test. -/
def State.findStation (s : State) (f : Station → Bool) : Option StationId :=
  match s.stations.toList.findIdx? f with
  | some i => index? 255 i
  | none => none

/-- The station that holds a role; a unique role has at most one holder. -/
def State.holder (s : State) (r : Role) : Option StationId := s.findStation (fun e => e.role == r)

/-- The station holding the notify flag. -/
def State.notifyStation (s : State) : Option StationId := s.findStation (fun e => e.notify)

/-- The map is open while no entry holds SUPERVISOR (R11). -/
def State.mapOpen (s : State) : Bool := !s.stations.toList.any (fun e => e.role == .supervisor)

/-- A station holds SUPERVISOR. -/
def State.isSupervisor (s : State) (d : StationId) : Bool := s.stations[d].role == .supervisor

/-- The side of a station that may be absent. -/
def State.sideOf? (s : State) (d : Option StationId) : Option PortId := d.map (fun i => s.stations[i].side)

/-- A station number as a telegram byte. -/
def stationByte (d : StationId) : Byte := BitVec.ofNat 8 d.val

/-! ## Local queues and their source classes (R14 to R17) -/

/-- The head label has a row that is not yet placed (R184). -/
def LabelUnit.rowsLeft (u : LabelUnit) : Bool := u.head == some .sending && u.nextRow < 8 && !u.queue.isEmpty

/-- A class is pending on a port while it holds a telegram for that port's queue not yet placed (section 1.7, R15). -/
def State.pendingOn (s : State) (p : PortId) : SourceClass → Bool
  | .reply =>
    match s.replySlot with
    | some r => r.port == p
    | none => false
  | .setpoint => !(s.port p).setpointWaiting.isEmpty
  | .notice => !s.notices.isEmpty && s.sideOf? s.notifyStation == some p
  | .labelRow => s.labels.rowsLeft && s.sideOf? (s.holder .printer) == some p

/-- The four classes in rotation order, beginning with the one that follows a class (R15, R16). -/
def SourceClass.after : SourceClass → List SourceClass
  | .reply => [.setpoint, .notice, .labelRow, .reply]
  | .setpoint => [.notice, .labelRow, .reply, .setpoint]
  | .notice => [.labelRow, .reply, .setpoint, .notice]
  | .labelRow => [.reply, .setpoint, .notice, .labelRow]

/-- A class's head telegram may be placed at once: the queue has room and no other class is pending there (R15). -/
def State.mayPlace (s : State) (p : PortId) (c : SourceClass) : Bool :=
  (s.port p).localQueue.length < Config.localCapacity && c.after.all (fun d => d == c || !s.pendingOn p d)

/-- A telegram is built and placed at the tail of a port's local queue; the send counter advances (R4). -/
def State.place (p : PortId) (dest : StationId) (kind : Byte) (payload : List Byte) (s : State) : State :=
  { s.modPort p (fun q => { q with
      localQueue := q.localQueue ++ [telegram (stationByte dest) (stationByte s.own) kind s.sendCounter payload] }) with
    sendCounter := s.sendCounter + 1 }

/-- The pending reply is placed and the slot empties (R24). -/
def State.placeReply (s : State) : State :=
  match s.replySlot with
  | some r => { s.place r.port r.dest kindReply r.payload with replySlot := none }
  | none => s

/-- The payload of a SETPOINT, built from the kiln's present state (R3, R98); none for an IDLE kiln. -/
def Kiln.setpointPayload (k : KilnId) (q : Kiln) : Option (List Byte) :=
  match q.state.setpointMode, q.setpoints with
  | some mode, some sp => some (be8 k.val ++ be8 mode ++ beI16 sp.dry ++ beI16 sp.wet ++ be8 q.fan.code)
  | _, _ => none

/-- A kiln's SETPOINT is built and placed (R17, R98). -/
def State.placeSetpoint (k : KilnId) (p : PortId) (s : State) : State :=
  match s.holder (.actuator k), (s.kiln k).setpointPayload k with
  | some d, some payload => s.place p d kindSetpoint payload
  | _, _ => s

/-- The payload of a NOTICE (R3, R41, R42). -/
def Notice.payload (n : Notice) (drops : Nat) : List Byte :=
  beBool n.kind.isAlarm ++ be8 n.kind.code ++ be8 drops ++ n.data

/-- The head notice is built with the running drop count, placed, and leaves the queue (R41, R42). -/
def State.placeNotice (p : PortId) (s : State) : State :=
  match s.notices, s.notifyStation with
  | n :: rest, some d => { s.place p d kindNotice (n.payload s.dropCount) with notices := rest, dropCount := 0 }
  | _, _ => s

/-- The payload of a LABEL_ROW (R3, R184). -/
def Label.rowPayload (l : Label) (r : Nat) : List Byte :=
  be32 l.pack.toNat ++ be8 r ++ be8 (if r = 7 then 1 else 0) ++ l.rows.getD r []

/-- The head label's next row is placed and the next row advances (R184). -/
def State.placeRow (p : PortId) (s : State) : State :=
  match s.labels.queue, s.holder .printer with
  | l :: _, some d =>
    (s.place p d kindLabelRow (l.rowPayload s.labels.nextRow)).modLabels (fun u => { u with nextRow := u.nextRow + 1 })
  | _, _ => s

/-- The reply source produces: the reply is placed at once where it may be, and waits in the slot otherwise (R24). -/
def State.produceReply (s : State) : State :=
  match s.replySlot with
  | some r => if s.mayPlace r.port .reply then s.placeReply else s
  | none => s

/-- The port of the actuator station of a kiln (R14). -/
def State.setpointPort (s : State) (k : KilnId) : Option PortId := s.sideOf? (s.holder (.actuator k))

/-- A kiln unit produces a SETPOINT: it keeps its place where it already waits, is placed at once where it may be, and
waits otherwise (R15, R17, R97). -/
def State.produceSetpoint (k : KilnId) (s : State) : State :=
  match s.setpointPort k with
  | none => s
  | some p =>
    if (s.port p).setpointWaiting.contains k then s
    else if (s.port p).setpointWaiting.isEmpty && s.mayPlace p .setpoint then s.placeSetpoint k p
    else s.modPort p (fun q => { q with setpointWaiting := q.setpointWaiting ++ [k] })

/-- A kiln's waiting setpoint is withdrawn from both ports (R17). -/
def State.withdrawSetpoint (k : KilnId) (s : State) : State :=
  let drop (q : Port) : Port := { q with setpointWaiting := q.setpointWaiting.filter (fun j => j != k) }
  (s.modPort .a drop).modPort .b drop

/-- The head notice, and each notice that becomes the head, is produced: placed at once while it may be (R41, R15). -/
def produceNoticesFuel : Nat → State → State
  | 0, s => s
  | fuel + 1, s =>
    match s.sideOf? s.notifyStation with
    | none => s
    | some p =>
      if !s.notices.isEmpty && s.mayPlace p .notice then produceNoticesFuel fuel (s.placeNotice p) else s

/-- The NOTICE source produces (R41). -/
def State.produceNotices (s : State) : State := produceNoticesFuel s.notices.length s

/-- The head label's rows are produced one after the other: each placed at once while it may be (R184, R15). -/
def produceRowsFuel : Nat → State → State
  | 0, s => s
  | fuel + 1, s =>
    match s.sideOf? (s.holder .printer) with
    | none => s
    | some p => if s.labels.rowsLeft && s.mayPlace p .labelRow then produceRowsFuel fuel (s.placeRow p) else s

/-- The LABEL_ROW source produces (R184). -/
def State.produceRows (s : State) : State := produceRowsFuel 8 s

/-- One class, offered the free entry, places one telegram (R16). -/
def State.placeFrom (p : PortId) (c : SourceClass) (s : State) : State :=
  match c with
  | .reply => s.placeReply
  | .setpoint =>
    match (s.port p).setpointWaiting with
    | k :: rest => (s.modPort p (fun q => { q with setpointWaiting := rest })).placeSetpoint k p
    | [] => s
  | .notice => s.placeNotice p
  | .labelRow => s.placeRow p

/-- A freed local queue entry is offered to the pending classes in rotation; the first pending one places one telegram
and becomes the class last served (R16). -/
def State.offer (p : PortId) (s : State) : State :=
  match (s.port p).lastServed.after.find? (s.pendingOn p) with
  | some c => (s.placeFrom p c).modPort p (fun q => { q with lastServed := c })
  | none => s

/-! ## The notice queue (R38 to R42) -/

/-- A notice is dropped: the running drop count and the SUPERVISION counter rise (R38, R42). -/
def State.dropNotice (s : State) : State :=
  { s with
    dropCount := min 255 (s.dropCount + 1)
    supervision := { s.supervision with noticesDropped := bump16 s.supervision.noticesDropped } }

/-- An entry of the queue with which a notice coalesces: KILN_STATUS for the same kiln (R38 test 2). -/
def Notice.sameKiln (n e : Notice) : Bool :=
  n.kind == .kilnStatus && e.kind == .kilnStatus && e.kiln == n.kiln

/-- The queue without its newest INFO entry; none where every entry is an ALARM (R39). -/
def dropNewestInfo (q : List Notice) : Option (List Notice) :=
  if q.any (fun e => !e.kind.isAlarm) then some (q.reverse.eraseP (fun e => !e.kind.isAlarm)).reverse else none

/-- A raised notice is judged for admission (R38, R39, R40). -/
def State.judgeNotice (n : Notice) (s : State) : State :=
  if s.notifyStation = none then s.dropNotice
  else if s.notices.any n.sameKiln then
    { s with notices := s.notices.map (fun e => if n.sameKiln e then { e with data := n.data } else e) }
  else if n.kind.isAlarm then
    if s.notices.length < Config.noticeCapacity then { s with notices := s.notices ++ [n] }
    else
      match dropNewestInfo s.notices with
      | some rest => { s.dropNotice with notices := rest ++ [n] }
      | none => s.dropNotice
  else if s.notices.length < Config.infoCapacity then { s with notices := s.notices ++ [n] }
  else s.dropNotice

/-- A notice is raised: judged for admission, and produced where it is the head (R38, R41). -/
def State.raise (n : Notice) (s : State) : State := (s.judgeNotice n).produceNotices

/-! ## Charge records and references (07 R127, R131, R133) -/

/-- The record that holds a charge number in a state other than CLOSED; there is at most one (R136). -/
def State.findLive (s : State) (n : Nat) : Option (Fin 48) :=
  match s.charges.toList.findIdx? (fun c => c.number == n && c.state != .closed) with
  | some i => index? 48 i
  | none => none

/-- That record's content. -/
def State.charge? (s : State) (n : Nat) : Option Charge := (s.findLive n).map (fun i => s.charges[i])

/-- One record is replaced. -/
def State.setCharge (i : Fin 48) (c : Charge) (s : State) : State := { s with charges := s.charges.set i c }

/-- The live record of a charge number is changed. -/
def State.modCharge (n : Nat) (f : Charge → Charge) (s : State) : State :=
  match s.findLive n with
  | some i => s.setCharge i (f s.charges[i])
  | none => s

/-- A record becomes CLOSED: it takes a closed stamp and joins the tail of the reuse order (R133). -/
def State.closeRecord (i : Fin 48) (s : State) : State :=
  { s.setCharge i { s.charges[i] with state := .closed, closedStamp := some s.stamp } with reuse := s.reuse ++ [i] }

/-- A reference is taken on a charge; an entry none refers to no record (R127). -/
def State.takeRef (c : Option Nat) (s : State) : State :=
  match c with
  | some n => s.modCharge n (fun r => { r with refs := r.refs + 1 })
  | none => s

/-- A reference is released; a PLANED record whose count falls to 0 becomes CLOSED (R127, R131). -/
def State.releaseRef (c : Option Nat) (s : State) : State :=
  match c with
  | none => s
  | some n =>
    match s.findLive n with
    | none => s
    | some i =>
      let r := s.charges[i]
      let s1 := s.setCharge i { r with refs := r.refs - 1 }
      if r.state = .planed ∧ r.refs = 1 then s1.closeRecord i else s1

/-- Several references are released in one step, in an order that nothing fixes (log 8). -/
def State.releaseRefs (cs : List (Option Nat)) (s : State) : State :=
  ((s.freeOrder cs).foldl (fun t c => t.releaseRef c) s).drewFree cs.length

/-- The charge record of the charge that a kiln holds (R77). -/
def State.kilnCharge (s : State) (k : KilnId) : Option Charge :=
  match (s.kiln k).charge with
  | some n => s.charge? n
  | none => none

/-- The charge record of a kiln's charge is changed. -/
def State.modKilnCharge (k : KilnId) (f : Charge → Charge) (s : State) : State :=
  match (s.kiln k).charge with
  | some n => s.modCharge n f
  | none => s

/-! ## The line-hold (08 R155, R156) -/

/-- The line-hold state the two counts give (R155). -/
def holdNext (asserted : Bool) (t l : Nat) : Bool :=
  if asserted then !(t ≤ 48 && l ≤ 4) else (56 ≤ t || 7 ≤ l)

/-- The line-hold is evaluated: a change raises LINE_HOLD, and a release clears the lost-notice flag (R155, R156). -/
def State.evaluateHold (s : State) : State :=
  let t := s.line.queue.length
  let l := s.labels.queue.length
  let h := holdNext s.line.holdAsserted t l
  if h = s.line.holdAsserted then s
  else
    (s.modLine (fun x => { x with holdAsserted := h, lostNotice := h && x.lostNotice })).raise
      { kind := .lineHold, data := beBool h ++ be8 t ++ be8 l }

end Sys2Proof.Machine
end

