-- ==== Sys2Proof/Machine/Operands.lean ====
section
/-! DEFINITION. The operands of requests: result codes, what serving a request gives, counted argument layouts, and the
field clamps of the table-write convention (02 R28, R29). -/

namespace Sys2Proof.Machine

/-- The result codes (R28). -/
inductive Result where
  | ok
  | okClamped
  | notPermitted
  | unknownRequest
  | badArgument
  | wrongState
  | notMapped
  | notFound
  | speciesMismatch
  | inUse
  | tableFull
  | stackFull
  | conditionPresent
  | editBusy
  | noEdit
  | invalidStep
  | tooEarly
  deriving DecidableEq, Repr

/-- Result codes as bytes (R28). -/
def Result.code : Result → Nat
  | .ok => 0
  | .okClamped => 1
  | .notPermitted => 2
  | .unknownRequest => 3
  | .badArgument => 4
  | .wrongState => 5
  | .notMapped => 6
  | .notFound => 7
  | .speciesMismatch => 8
  | .inUse => 9
  | .tableFull => 10
  | .stackFull => 11
  | .conditionPresent => 12
  | .editBusy => 13
  | .noEdit => 14
  | .invalidStep => 15
  | .tooEarly => 16

/-- What serving a request gives: the part after its effect, the result and the reply data (R23, R25). -/
structure Served where
  st : State
  result : Result
  data : List Byte
  deriving DecidableEq, Repr

/-- A refusal: no state changes and no data (R25, R29). -/
def refuse (s : State) (r : Result) : Served := ⟨s, r, []⟩

/-- Served as asked, with reply data. -/
def okWith (s : State) (data : List Byte) : Served := ⟨s, .ok, data⟩

/-- Served: OK_CLAMPED where a field was clamped, OK otherwise (R29). -/
def okClampedIf (clamped : Bool) (s : State) (data : List Byte) : Served := ⟨s, if clamped then .okClamped else .ok, data⟩

/-- A kiln argument 0..15. -/
def kilnArg? (args : List Byte) (i : Nat) : Option KilnId := index? 16 (u8 args i)

/-- An unsigned field with its clamp: the stored value, and whether the clamp changed it (R29). -/
structure NatField where
  value : Nat
  clamped : Bool
  deriving DecidableEq, Repr

/-- A signed field with its clamp. -/
structure IntField where
  value : Int
  clamped : Bool
  deriving DecidableEq, Repr

/-- An unsigned field clamped into `lo..hi` (R29). -/
def natField (lo hi n : Nat) : NatField := ⟨clampNat lo hi n, clampNat lo hi n != n⟩

/-- A signed field clamped into `lo..hi` (R29). -/
def intField (lo hi x : Int) : IntField := ⟨clampInt lo hi x, clampInt lo hi x != x⟩

/-- The two bytes of the deviation band (R79): the spec does not say whether they are signed, which matters from 0x8000
up only (log 9). -/
def bandArg (n : Nat) : Int :=
  if n < 32768 then (n : Int) else if Config.deviationBandSigned then (n : Int) - 65536 else (n : Int)

end Sys2Proof.Machine
end

