-- ==== Sys2Proof/Machine/Moisture.lean ====
section
/-! DEFINITION. Moisture arithmetic (chapter 3): the correction of a raw reading, the charge estimate and wettest value,
board moisture and classes, and the species table's requests. -/

namespace Sys2Proof.Machine

/-! ## Correction of one raw reading (R46 to R48) -/

/-- The fifth stage's temperature term, halves away from zero (R48). -/
def temperatureTerm (t : Int) (k : Nat) : Int :=
  if 200 ≤ t then ((t - 200) * k + 50) / 100 else -(((200 - t) * k + 50) / 100)

/-- Stages two to six on a raw reading of 0..600 with the flag the first stage gave (R47, R48). -/
def correctStages (g : SpeciesGroup) (r : Nat) (t : Int) (flag : MoistureFlag) : Corrected :=
  let d : Int := max 0 ((r : Int) - g.offset)
  let m : Int := (d * g.slope + 512) / 1024
  let c := m - temperatureTerm (clampInt (-300) 1200 t) g.coefficient
  if c < 0 then ⟨0, .clamped⟩ else if 600 < c then ⟨600, .clamped⟩ else ⟨c.toNat, flag⟩

/-- The correction of a raw reading: absent for NO READING, the top of the scale for OVER RANGE (R46). -/
def correct (g : SpeciesGroup) (r : Nat) (t : Int) : Option Corrected :=
  if r = 65535 then none
  else if r = 65534 then some ⟨600, .overRange⟩
  else if 600 < r then some (correctStages g 600 t .clamped)
  else some (correctStages g r t .none)

/-! ## The charge estimate and the wettest value (R52, R53) -/

/-- The mean of a list, rounded to nearest with halves upward (R52, R55). -/
def roundedMean (sum n : Nat) : Nat := (sum + n / 2) / n

/-- A channel's value. -/
def Channel.reading (c : Channel) : Nat := c.value

/-- The highest of a list of channels' values. -/
def highest (l : List Channel) : Nat := l.foldl (fun m c => max m c.value) 0

/-- The lowest of a list of channels' values, at most 600 (R48). -/
def lowest (l : List Channel) : Nat := l.foldl (fun m c => min m c.value) 600

/-- The channels without the first one of a value (the lowest-numbered among those sharing it). -/
def dropFirst (v : Nat) (l : List Channel) : List Channel := l.eraseP (fun c => c.value == v)

/-- The channels without the last one of a value (the highest-numbered among those sharing it). -/
def dropLast (v : Nat) (l : List Channel) : List Channel := (l.reverse.eraseP (fun c => c.value == v)).reverse

/-- The channels that enter the mean: all of 3 or 4; of 5 or more, one highest (the highest-numbered) and one lowest
(the lowest-numbered) are removed (R52). -/
def trimmed (l : List Channel) : List Channel :=
  if l.length ≤ 4 then l else dropFirst (lowest l) (dropLast (highest l) l)

/-- The estimate over the channels that hold a value, in channel order (R52). -/
def estimateOf (l : List Channel) : Option Estimate :=
  if l.length < 3 then none
  else
    let kept := trimmed l
    some ⟨roundedMean ((kept.map Channel.reading).sum) kept.length, kept.any (fun c => c.flag != .none)⟩

/-- The wettest value (R53). -/
def wettestOf (l : List Channel) : Option Nat := if l.length < 3 then none else some (highest l)

/-- The channels of a kiln that hold a value, in channel order. -/
def Kiln.held (q : Kiln) : List Channel := q.channels.toList.filterMap id

/-- The figures are recomputed from the whole channel table (R50, R51). -/
def Kiln.recompute (q : Kiln) : Kiln := { q with estimate := estimateOf q.held, wettest := wettestOf q.held }

/-- The channels emptied, with the figures absent, and a probe mask set (R49). -/
def Kiln.emptyChannels (mask : BitVec 12) (q : Kiln) : Kiln :=
  { q with mask := mask, channels := Vector.replicate 12 none, estimate := none, wettest := none }

/-- One channel aged by a minute: lost at age 30 (R51). -/
def Channel.aged (c : Channel) : Option Channel := if 30 ≤ c.age + 1 then none else some { c with age := c.age + 1 }

/-- Whether a channel loses its value by one more minute (R51). -/
def channelLost (c : Option Channel) : Bool :=
  match c with
  | some x => 30 ≤ x.age + 1
  | none => false

/-- All channels aged by a minute (R51). -/
def Kiln.ageChannels (q : Kiln) : Kiln := { q with channels := q.channels.map (fun c => c.bind Channel.aged) }

/-- One channel after a probe arrival of `c` readings: those below `c` and in the mask take the corrected reading with
age 0, or lose their value; the others are left as they were (R50). -/
def channelAfter (g : SpeciesGroup) (payload : List Byte) (mask : BitVec 12) (c i : Nat) (old : Option Channel) :
    Option Channel :=
  if i < c && mask.getLsbD i then
    (correct g (u16 payload (1 + 4 * i)) (i16 payload (3 + 4 * i))).map (fun x => ⟨x.value, x.flag, 0⟩)
  else old

/-- The channels updated by a PROBE payload, and the figures recomputed once (R50). -/
def Kiln.takeProbe (g : SpeciesGroup) (payload : List Byte) (q : Kiln) : Kiln :=
  { q with channels := q.channels.mapFinIdx (fun i old _ => channelAfter g payload q.mask (u8 payload 0) i old) }.recompute

/-! ## Board moisture and classes (R54 to R57) -/

/-- A board's class from its MC and the class limits (R57). -/
def classify (l : LineSettings) (mc : Option Nat) : MoistureClass :=
  match mc with
  | none => .noRead
  | some m => if m < l.overdry then .overdry else if m ≤ l.wet then .target else if m ≤ l.redry then .wet else .redry

/-- The corrected zones of a BOARD payload (R54). -/
def boardZones (g : SpeciesGroup) (payload : List Byte) : List (Option Corrected) :=
  (List.range (u8 payload 6)).map (fun j => correct g (u16 payload (7 + 2 * j)) (i16 payload 4))

/-- The board with its reading from its corrected zones: flags, MC, mean and class (R54, R55, R57). -/
def Board.withZones (l : LineSettings) (zones : List (Option Corrected)) (b : Board) : Board :=
  let vals := zones.filterMap id
  let mc := if vals.isEmpty then none else some (vals.foldl (fun m c => max m c.value) 0)
  { b with
    zones := zones
    clamped := vals.any (fun c => c.flag == .clamped)
    overRange := vals.any (fun c => c.flag == .overRange)
    mc := mc
    mean := if vals.isEmpty then none else some (roundedMean ((vals.map Corrected.value).sum) vals.length)
    cls := some (classify l mc) }

/-! ## The species table's requests -/

/-- The content of a species group as READ_ENTRY gives it (R44). -/
def SpeciesGroup.bytes (g : SpeciesGroup) : List Byte := beI16 g.offset ++ be16 g.slope ++ be8 g.coefficient

/-- WRITE_SPECIES (R45). The one byte of the temperature coefficient is read unsigned, which the spec does not say (log 9). -/
def serveWriteSpecies (r : Request) (s : State) : Served :=
  if r.args.length ≠ 6 then refuse s .badArgument
  else
    match index? 16 (u8 r.args 0) with
    | none => refuse s .badArgument
    | some g =>
      let o := intField (-100) 100 (i16 r.args 1)
      let m := natField 512 2048 (u16 r.args 3)
      let k := natField 0 40 (u8 r.args 5)
      okClampedIf (o.clamped || m.clamped || k.clamped)
        { s with species := s.species.set g ⟨o.value, m.value, k.value⟩ } []

end Sys2Proof.Machine
end

