-- ==== Sys2Proof/Machine/Schedules.lean ====
section
/-! DEFINITION. The schedule store (chapter 4): reads of the directory and the step pool, the edit protocol, edit expiry
and deletion. -/

namespace Sys2Proof.Machine

/-! ## What READ_ENTRY shows (R59) -/

/-- The edit staging area is open on an entry (R59, R73). -/
def State.editingOn (s : State) (d : Fin 32) : Bool :=
  match s.staging with
  | some e => e.target == d
  | none => false

/-- The eight bytes of a directory entry's header (R59). -/
def State.directoryBytes (s : State) (d : Fin 32) : List Byte :=
  let e := s.directory[d]
  beBool e.valid ++ be16 e.generation ++ be8 e.header.species ++ [e.header.permit] ++ be8 e.header.count
    ++ be8 e.inUse ++ beBool (s.editingOn d)

/-- The fifteen bytes of a step, in the order of EDIT_STEP (R59, R67). -/
def Step.bytes (t : Step) : List Byte :=
  beI16 t.dry ++ beI16 t.depression ++ be8 t.dryRate ++ be8 t.wetRate ++ be8 t.basis.code ++ be16 t.exitMoisture
    ++ be16 t.minDuration ++ be16 t.maxDuration ++ be16 t.fanInterval

/-- The committed step in a pool slot: slot entry × 24 + step (R59). -/
def State.poolSlot (s : State) (d : Fin 32) (j : Nat) : Step := s.directory[d].steps.toList.getD j {}

/-- The content of a pool slot by its number 0..767 (R27, R59). -/
def State.poolBytes (s : State) (i : Nat) : Option (List Byte) :=
  (index? 32 (i / 24)).map (fun d => (s.poolSlot d (i % 24)).bytes)

/-! ## Generations and in-use counts (R62, R64) -/

/-- The generation after a commit: 65535 and 0 both go to 1 (R64). -/
def nextGeneration (g : Nat) : Nat := if g = 65535 then 1 else g + 1

/-- One directory entry is changed. -/
def State.modEntry (d : Fin 32) (f : DirEntry → DirEntry) (s : State) : State :=
  { s with directory := s.directory.set d (f s.directory[d]) }

/-- An entry's in-use count rises by 1 (R62). -/
def State.bindEntry (d : Fin 32) (s : State) : State := s.modEntry d (fun e => { e with inUse := e.inUse + 1 })

/-- An entry's in-use count falls by 1 (R62). -/
def State.unbindEntry (d : Fin 32) (s : State) : State := s.modEntry d (fun e => { e with inUse := e.inUse - 1 })

/-! ## The edit protocol (R65 to R70) -/

/-- EDIT_OPEN (R65). R65 gives its two refusals no order: that an index above 31 is refused with BAD_ARGUMENT also while an
edit is open is the model's choice (log 27). -/
def serveEditOpen (r : Request) (s : State) : Served :=
  if r.args.length ≠ 1 then refuse s .badArgument
  else
    match index? 32 (u8 r.args 0) with
    | none => refuse s .badArgument
    | some d =>
      if s.staging.isSome then refuse s .editBusy
      else
        let e := s.directory[d]
        okWith { s with staging := some ⟨d, e.header, e.steps, 0⟩ } (be8 d.val ++ be16 e.generation ++ be8 e.header.count)

/-- A species byte of a header: 0..15 or 255 (R66 check 3). -/
def speciesAllowed (n : Nat) : Bool := n < 16 || n == 255

/-- EDIT_HEADER (R66). -/
def serveEditHeader (r : Request) (s : State) : Served :=
  if r.args.length ≠ 3 then refuse s .badArgument
  else
    match s.staging with
    | none => refuse s .noEdit
    | some e =>
      if speciesAllowed (u8 r.args 0) then
        let c := natField 0 24 (u8 r.args 2)
        okClampedIf c.clamped
          { s with staging := some { e with
              header := ⟨u8 r.args 0, BitVec.ofNat 8 (u8 r.args 1), c.value⟩, timer := 0 } } []
      else refuse s .badArgument

/-- EDIT_STEP (R67). -/
def serveEditStep (r : Request) (s : State) : Served :=
  if r.args.length ≠ 16 then refuse s .badArgument
  else
    match s.staging with
    | none => refuse s .noEdit
    | some e =>
      match index? 24 (u8 r.args 0), ExitBasis.ofCode? (u8 r.args 7) with
      | some j, some basis =>
        let dry := intField 0 1300 (i16 r.args 1)
        let dep := natField 0 300 (u16 r.args 3)
        let dr := natField 1 50 (u8 r.args 5)
        let wr := natField 1 50 (u8 r.args 6)
        let mc := natField 0 600 (u16 r.args 8)
        let lo := natField 0 10080 (u16 r.args 10)
        let hi := natField 0 10080 (u16 r.args 12)
        let fan := natField 0 720 (u16 r.args 14)
        okClampedIf (dry.clamped || dep.clamped || dr.clamped || wr.clamped || mc.clamped || lo.clamped || hi.clamped
            || fan.clamped)
          { s with staging := some { e with
              steps := e.steps.set j ⟨dry.value, dep.value, dr.value, wr.value, basis, mc.value, lo.value, hi.value,
                fan.value⟩
              timer := 0 } } []
      | _, _ => refuse s .badArgument

/-- EDIT_ABORT (R68). -/
def serveEditAbort (r : Request) (s : State) : Served :=
  if r.args.length ≠ 0 then refuse s .badArgument
  else if s.staging.isSome then okWith { s with staging := none } []
  else refuse s .noEdit

/-- The three conditions that a commit asks of a step below the count (R60, R69). -/
def Step.valid (t : Step) : Bool := t.depression ≤ t.dry && t.minDuration ≤ t.maxDuration && 1 ≤ t.maxDuration

/-- The index of the first staged step below the count that fails, 255 for a count of 0, none where the staged content
passes (R69). -/
def Staging.firstFault (e : Staging) : Option Nat :=
  if e.header.count = 0 then some 255 else (e.steps.toList.take e.header.count).findIdx? (fun t => !t.valid)

/-- EDIT_COMMIT (R69, R70). -/
def serveEditCommit (r : Request) (s : State) : Served :=
  if r.args.length ≠ 0 then refuse s .badArgument
  else
    match s.staging with
    | none => refuse s .noEdit
    | some e =>
      match e.firstFault with
      | some i => ⟨s, .invalidStep, be8 i⟩
      | none =>
        let g := nextGeneration s.directory[e.target].generation
        okWith
          { s.modEntry e.target (fun x => { x with valid := true, generation := g, header := e.header, steps := e.steps })
            with staging := none }
          (be8 e.target.val ++ be16 g)

/-! ## Edit expiry (R71) and deletion (R73, R74) -/

/-- The edit expires: the staged content is discarded and EDIT_EXPIRED is raised (R71). -/
def State.expireEdit (s : State) : State :=
  match s.staging with
  | some e => { s with staging := none }.raise { kind := .editExpired, data := be8 e.target.val }
  | none => s

/-- ENTRY_DELETE (R73, R74). -/
def serveEntryDelete (r : Request) (s : State) : Served :=
  if r.args.length ≠ 1 then refuse s .badArgument
  else
    match index? 32 (u8 r.args 0) with
    | none => refuse s .badArgument
    | some d =>
      let e := s.directory[d]
      if !e.valid then refuse s .notFound
      else if e.inUse ≠ 0 then refuse s .inUse
      else if s.editingOn d then refuse s .editBusy
      else okWith (s.modEntry d (fun _ => {})) []

end Sys2Proof.Machine
end

