-- ==== Sys2Proof/Machine/KilnSteps.lean ====
section
/-! DEFINITION. What a kiln unit does step by step (chapter 5): targets, ramps, starting setpoints, status reports, step
entry and completion. Operations that may fall in a kiln minute take `inMinute`: the minute's one SETPOINT is its last
part's (R97, log 10). -/

namespace Sys2Proof.Machine

/-! ## Targets, ramps and setpoints (R85, R90 to R92) -/

/-- Two temperatures differ by more than a band. -/
def beyond (x y band : Int) : Bool := band < x - y || band < y - x

/-- A value moved toward a target by at most a rate (R92 step 1). -/
def approach (x target : Int) (rate : Nat) : Int :=
  if beyond target x rate then (if x < target then x + rate else x - rate) else target

/-- A dry and wet pair clamped: dry into the setpoint min..max in use, wet into 0..dry (R85, R88 part 1, R92). -/
def Limits.clampPair (l : Limits) (p : TempPair) : TempPair :=
  let dry := clampInt l.dryMin l.dryMax p.dry
  ⟨dry, clampInt 0 dry p.wet⟩

/-- One application of the ramp (R92). -/
def Limits.ramp (l : Limits) (target : TempPair) (dryRate wetRate : Nat) (p : TempPair) : TempPair :=
  l.clampPair ⟨approach p.dry target.dry dryRate, approach p.wet target.wet wetRate⟩

/-- RAMPING recomputed: the current setpoints differ from the step targets (R92). -/
def Kiln.markRamping (q : Kiln) : Kiln :=
  { q with ramping := q.targets.isSome && q.setpoints.isSome && q.targets != q.setpoints }

/-- The current setpoints are set, and RAMPING follows (R91, R92). -/
def Kiln.withSetpoints (p : TempPair) (q : Kiln) : Kiln := { q with setpoints := some p }.markRamping

/-- The idle setpoints in use. -/
def Kiln.idlePair (q : Kiln) : TempPair := ⟨q.inUse.idleDry, q.inUse.idleWet⟩

/-- The starting setpoints (R85). -/
def Kiln.startingPair (q : Kiln) : TempPair := q.inUse.clampPair (q.lastGood.getD q.idlePair)

/-- The targets derived from the step copy and the limits in use, with LIMITED (R90). -/
def Kiln.deriveTargets (q : Kiln) : Kiln :=
  match q.stepCopy with
  | none => q
  | some t =>
    let dry := clampInt q.inUse.dryMin q.inUse.dryMax t.dry
    let wet : Int := dry - t.depression
    { q with targets := some ⟨dry, max 0 wet⟩, limited := dry != t.dry || wet < 0 }

/-- The current setpoints ramped toward a pair (R92). -/
def Kiln.rampTo (target : TempPair) (dryRate wetRate : Nat) (q : Kiln) : Kiln :=
  match q.setpoints with
  | some p => q.withSetpoints (q.inUse.ramp target dryRate wetRate p)
  | none => q

/-- The current setpoints ramped toward the step targets at the step's rates (R92). -/
def Kiln.rampToStep (q : Kiln) : Kiln :=
  match q.stepCopy, q.targets with
  | some t, some target => q.rampTo target t.dryRate t.wetRate
  | _, _ => q

/-! ## Status reports (R100, R101) -/

/-- The step index of a KILN_STATUS: 255 when the kiln holds no step copy (R101). -/
def Kiln.statusIndex (q : Kiln) : Nat :=
  match q.stepCopy, q.position with
  | some _, some p => p.index
  | _, _ => 255

/-- The 22 data bytes of a KILN_STATUS, given the two bytes of the elapsed time (R101). -/
def Kiln.statusData (k : KilnId) (elapsed : List Byte) (q : Kiln) : List Byte :=
  be8 k.val ++ be8 q.state.code ++ be16 (q.charge.getD 0) ++ be8 q.statusIndex ++ elapsed
    ++ beTemp (q.lastGood.map TempPair.dry) ++ beTemp (q.lastGood.map TempPair.wet)
    ++ beMoisture (q.estimate.map Estimate.value) ++ beMoisture q.wettest
    ++ beTemp (q.setpoints.map TempPair.dry) ++ beTemp (q.setpoints.map TempPair.wet)
    ++ be8 q.indicators ++ be8 q.stack.length ++ be8 q.latchByte

/-- The next `n` free bytes (log 6). -/
def State.freeBytes (s : State) (n : Nat) : List Byte := (List.range n).map (fun i => Config.freeByte (s.freeCount + i))

/-- The two bytes of a kiln's elapsed time: free where it is absent, for which no rule gives a code (log 6). -/
def State.elapsedBytes (s : State) (k : KilnId) : List Byte :=
  match (s.kiln k).position with
  | some p => be16 p.elapsed
  | none => s.freeBytes 2

/-- The free values that `elapsedBytes` has drawn. -/
def State.drewElapsed (k : KilnId) (s : State) : State := if (s.kiln k).position.isSome then s else s.drewFree 2

/-- The last-reported values take the figures of the notice (R101). -/
def Kiln.markReported (q : Kiln) : Kiln :=
  { q with
    reportedDry := q.lastGood.map TempPair.dry
    reportedWet := q.lastGood.map TempPair.wet
    reportedEstimate := q.estimate.map Estimate.value }

/-- A KILN_STATUS is raised (R100, R101). -/
def State.raiseStatus (k : KilnId) (s : State) : State :=
  ((s.drewElapsed k).modKiln k Kiln.markReported).raise
    { kind := .kilnStatus, kiln := some k, data := (s.kiln k).statusData k (s.elapsedBytes k) }

/-- A temperature figure has changed against its last-reported value (R100). -/
def tempChanged (now last : Option Int) (band : Nat) : Bool :=
  match now, last with
  | some x, some y => beyond x y band
  | some _, none => true
  | none, some _ => true
  | none, none => false

/-- The estimate has changed against its last-reported value (R100). -/
def moistChanged (now last : Option Nat) (band : Nat) : Bool :=
  tempChanged (now.map (fun n => (n : Int))) (last.map (fun n => (n : Int))) band

/-- One of the three figures has changed (R100). -/
def Kiln.statusDue (q : Kiln) : Bool :=
  tempChanged (q.lastGood.map TempPair.dry) q.reportedDry q.inUse.tempDeadband
    || tempChanged (q.lastGood.map TempPair.wet) q.reportedWet q.inUse.tempDeadband
    || moistChanged (q.estimate.map Estimate.value) q.reportedEstimate q.inUse.moistDeadband

/-- The KILN_STATUS change test (R100). -/
def State.testStatus (k : KilnId) (s : State) : State := if (s.kiln k).statusDue then s.raiseStatus k else s

/-- A SETPOINT for a change of state: produced at once outside a kiln minute, left to the minute's last part inside one
(R97, log 10). -/
def State.setpointOnChange (inMinute : Bool) (k : KilnId) (s : State) : State :=
  if inMinute then s else s.produceSetpoint k

/-- The reports of a change of the kiln's state: a KILN_STATUS (R100), then a SETPOINT (R97); no rule orders the two (log 32). -/
def State.announceState (inMinute : Bool) (k : KilnId) (s : State) : State :=
  (s.raiseStatus k).setpointOnChange inMinute k

/-! ## Step entry and completion (R89, R96) -/

/-- The causes of a step entry (R89). -/
inductive EntryCause where
  | start
  | transition
  | resume
  deriving DecidableEq, Repr

/-- Cause codes (R89). -/
def EntryCause.code : EntryCause → Nat
  | .start => 0
  | .transition => 1
  | .resume => 2

/-- The kiln with a step entered (R89): the copy, the index, the elapsed time, targets and RAMPING; the entry pending
indicator is cleared (R104). -/
def Kiln.enter (t : Step) (index elapsed : Nat) (q : Kiln) : Kiln :=
  { q with stepCopy := some t, position := some ⟨index, elapsed⟩, entryPending := false }.deriveTargets.markRamping

/-- The charge record of a kiln's charge; an empty record where there is none (log 19). -/
def State.chargeOf (s : State) (k : KilnId) : Charge := (s.kilnCharge k).getD {}

/-- A step is entered and STEP_CHANGE raised (R89). -/
def State.enterStep (k : KilnId) (index elapsed : Nat) (cause : EntryCause) (s : State) : State :=
  let c := s.chargeOf k
  (s.modKiln k (Kiln.enter (s.poolSlot c.entry index) index elapsed)).raise
    { kind := .stepChange
      data := be8 k.val ++ be16 c.number ++ be8 index ++ be16 elapsed ++ be16 c.generation ++ be8 cause.code }

/-- The charge's side of completion (R96 part 1). -/
def Charge.complete (stamp : Stamp) (q : Kiln) (c : Charge) : Charge :=
  { c with
    state := .dried
    finalEstimate := q.estimate.map Estimate.value
    finalWettest := q.wettest
    dryEndStamp := some stamp }

/-- The kiln's side of completion (R96 part 3). -/
def Kiln.finish (q : Kiln) : Kiln :=
  { q with
    state := .done
    setpoints := some q.idlePair
    targets := none
    limited := false
    ramping := false
    entryPending := false }

/-- The data of CHARGE_DRIED (R96 part 2). -/
def driedData (k : KilnId) (c : Charge) (q : Kiln) (stamp : Stamp) : List Byte :=
  be8 k.val ++ be16 c.number ++ beMoisture (q.estimate.map Estimate.value) ++ beMoisture q.wettest ++ beStamp stamp

/-- The in-use count of the entry that a kiln's charge is bound to falls by 1 (R62). -/
def State.unbindKiln (k : KilnId) (s : State) : State :=
  match s.kilnCharge k with
  | some c => s.unbindEntry c.entry
  | none => s

/-- A charge is completed (R96). -/
def State.completeCharge (inMinute : Bool) (k : KilnId) (s : State) : State :=
  let q := s.kiln k
  let s1 := (s.modKilnCharge k (Charge.complete s.stamp q)).raise
    { kind := .chargeDried, data := driedData k (s.chargeOf k) q s.stamp }
  ((s1.modKiln k Kiln.finish).unbindKiln k).announceState inMinute k

/-- The charge adopts the present generation of its entry (R86, R95, R108). -/
def State.adoptGeneration (k : KilnId) (s : State) : State :=
  s.modKilnCharge k (fun c => { c with generation := s.directory[c.entry].generation })

/-- The step count of the entry a kiln's charge is bound to (R63). -/
def State.boundCount (s : State) (k : KilnId) : Nat := s.directory[(s.chargeOf k).entry].header.count

/-- The deviation countdown is loaded with the deviation minutes in use (R112). -/
def Kiln.loadCountdown (q : Kiln) : Kiln := { q with countdown := q.inUse.deviationMinutes }

/-- The kiln becomes RUNNING: the countdown is loaded, and the change is announced (R107, R108, R112, R121). -/
def State.becomeRunning (k : KilnId) (s : State) : State :=
  (s.modKiln k (fun q => { q.loadCountdown with state := .running })).announceState false k

/-- The return to the schedule at a pending entry: the generation is adopted; the charge is completed, or the step at the
index is entered with elapsed 0 after the setpoints have been prepared, and the kiln becomes RUNNING (R108, R121). -/
def State.resumeSchedule (prepare : Kiln → Kiln) (k : KilnId) (s : State) : State :=
  let s1 := s.adoptGeneration k
  let index := ((s.kiln k).position.map StepPosition.index).getD 0
  if s1.boundCount k ≤ index then s1.completeCharge false k
  else ((s1.modKiln k prepare).enterStep k index 0 .resume).becomeRunning k

/-- The state, step index and elapsed time of replies: the kiln state's code. -/
def State.stateByte (s : State) (k : KilnId) : List Byte := be8 (s.kiln k).state.code

/-- The kiln's step index as one byte, 255 where it is absent. -/
def Kiln.indexByte (q : Kiln) : List Byte := beByteOr255 (q.position.map StepPosition.index)

/-- The kiln's elapsed time as two bytes, 0 where it is absent (no reply that gives it is sent then, log 19). -/
def Kiln.elapsedReply (q : Kiln) : List Byte := be16 ((q.position.map StepPosition.elapsed).getD 0)

end Sys2Proof.Machine
end

