-- ==== Sys2Proof/Machine/Holds.lean ====
section
/-! DEFINITION. Holds, faults and overrides (chapter 6): the hold stack, fault detections and their actions, stop and
restart, and the requests OVERRIDE, RESUME, STOP, RESTART and WRITE_FAULT_ACTIONS. -/

namespace Sys2Proof.Machine

/-! ## The hold stack (R104, R105) -/

/-- The kiln with an entry on top of its stack: HELD, and the entry pending indicator set by a SCHEDULE entry (R104). -/
def Kiln.pushed (e : HoldEntry) (q : Kiln) : Kiln :=
  { q with state := .held, stack := e :: q.stack, entryPending := q.entryPending || e.kind == .schedule }

/-- The charge with one more push, stopping at 65535 (R104). -/
def Charge.countPush (c : Charge) : Charge := { c with pushes := bump16 c.pushes }

/-- An entry is placed on top of a kiln's stack, without announcement (R104). -/
def State.stackEntry (kind : HoldKind) (k : KilnId) (s : State) : State :=
  (s.modKiln k (Kiln.pushed ⟨kind, s.stamp⟩)).modKilnCharge k Charge.countPush

/-- An entry is pushed; the move from RUNNING to HELD is announced (R104). -/
def State.pushHold (inMinute : Bool) (kind : HoldKind) (k : KilnId) (s : State) : State :=
  let t := s.stackEntry kind k
  if (s.kiln k).state = .running then t.announceState inMinute k else t

/-- The current setpoints as the top entry of the stack governs them (R105). -/
def Kiln.governed (q : Kiln) : Kiln :=
  match q.stack with
  | ⟨.override dry wet dr wr, _⟩ :: _ => q.rampTo (q.inUse.clampPair ⟨dry, wet⟩) dr wr
  | ⟨.fault _ .safe, _⟩ :: _ => q.rampTo ⟨q.inUse.safeDry, q.inUse.safeWet⟩ q.inUse.safeRate q.inUse.safeRate
  | _ => q

/-! ## Conditions (section 6.2, R109 to R113) -/

/-- The last good dry-bulb value differs from the current dry setpoint by more than the band; none where that value is
absent (R112). -/
def Kiln.deviates (q : Kiln) : Option Bool :=
  match q.lastGood, q.setpoints with
  | some g, some p => some (beyond g.dry p.dry q.inUse.deviationBand)
  | _, _ => none

/-- A fault kind's condition is present (section 6.2). -/
def State.condition (s : State) (k : KilnId) : FaultKind → Bool
  | .silent => (s.kiln k).inUse.silenceMinutes ≤ (s.kiln k).silence
  | .range => (s.kiln k).verdict == some .bad
  | .deviation => (s.kiln k).state == .running && (s.kiln k).deviates == some true
  | .supervisor => s.watchdog.state == .lapsed

/-! ## Stops (R119) -/

/-- Why a kiln is stopped (R119). -/
inductive StopCause where
  | request
  | shutdown (f : FaultKind)
  | escalation (f : FaultKind)
  deriving DecidableEq, Repr

/-- The cause and the fault kind of KILN_STOPPED (R119 part 3). -/
def StopCause.bytes : StopCause → List Byte
  | .request => be8 0 ++ be8 255
  | .shutdown f => be8 1 ++ be8 f.code
  | .escalation f => be8 2 ++ be8 f.code

/-- A kiln is stopped: stack emptied, KILN_STOPPED, KILN_STATUS, SETPOINT (R119). -/
def State.stopKiln (inMinute : Bool) (cause : StopCause) (k : KilnId) (s : State) : State :=
  let q := s.kiln k
  ((s.modKiln k (fun q => { q with state := .stopped, stack := [] })).raise
    { kind := .kilnStopped
      data := be8 k.val ++ be16 (q.charge.getD 0) ++ cause.bytes ++ q.indexByte ++ q.elapsedReply }).announceState inMinute k

/-! ## Detections (R114, R116) -/

/-- The data of FAULT_RAISED (R114). -/
def raisedData (k : KilnId) (f : FaultKind) (action : List Byte) (escalated : Bool) (q : Kiln) (depth : Nat) : List Byte :=
  be8 k.val ++ be8 f.code ++ action ++ beBool escalated ++ be8 q.state.code ++ be16 (q.charge.getD 0) ++ be8 depth

/-- A HOLD or SAFE push would meet a full stack (R116). -/
def Kiln.escalates (a : FaultAction) (q : Kiln) : Bool :=
  (a == .hold || a == .safe) && Config.stackCapacity ≤ q.stack.length

/-- The action a detection is latched with: the row's, or SHUTDOWN where it escalates (R114, R116). -/
def Kiln.actionTaken (f : FaultKind) (q : Kiln) : FaultAction :=
  if q.escalates (q.actions.get f) then .shutdown else q.actions.get f

/-- The stack depth after an action (R114). -/
def Kiln.depthAfter (a : FaultAction) (q : Kiln) : Nat :=
  match a with
  | .none => q.stack.length
  | .hold => q.stack.length + 1
  | .safe => q.stack.length + 1
  | .shutdown => 0

/-- An action is applied (R116). -/
def State.applyAction (inMinute : Bool) (f : FaultKind) (a : FaultAction) (escalated : Bool) (k : KilnId) (s : State) :
    State :=
  match a with
  | .none => s
  | .hold => s.pushHold inMinute (.fault f .hold) k
  | .safe => s.pushHold inMinute (.fault f .safe) k
  | .shutdown => s.stopKiln inMinute (if escalated then .escalation f else .shutdown f) k

/-- The kiln with a latch set and the kind no longer among the reported ones (R114). -/
def Kiln.latch (f : FaultKind) (a : FaultAction) (q : Kiln) : Kiln :=
  { q with latches := q.latches.set f (some a), reported := q.reported.set f false }

/-- A detection in RUNNING or HELD with its latch clear (R114, R116). -/
def State.takeFault (inMinute : Bool) (f : FaultKind) (k : KilnId) (s : State) : State :=
  let q := s.kiln k
  let a := q.actionTaken f
  let escalated := q.escalates (q.actions.get f)
  ((s.modKiln k (Kiln.latch f a)).raise
    { kind := .faultRaised, data := raisedData k f (be8 a.code) escalated q (q.depthAfter a) }).applyAction
      inMinute f a escalated k

/-- A detection in LOADED, STOPPED or DONE: announced once, without a latch (R114). -/
def State.announceFault (f : FaultKind) (k : KilnId) (s : State) : State :=
  let q := s.kiln k
  if q.reported.get f then s
  else
    (s.modKiln k (fun q => { q with reported := q.reported.set f true })).raise
      { kind := .faultRaised, data := raisedData k f (be8 255) false q q.stack.length }

/-- A detection of a fault kind in a kiln (R113, R114); an IDLE kiln ignores it. -/
def State.detect (inMinute : Bool) (f : FaultKind) (k : KilnId) (s : State) : State :=
  let q := s.kiln k
  if (q.latches.get f).isSome then s
  else
    match q.state with
    | .idle => s
    | .running => s.takeFault inMinute f k
    | .held => s.takeFault inMinute f k
    | .loaded => s.announceFault f k
    | .stopped => s.announceFault f k
    | .done => s.announceFault f k

/-! ## Clearing of latches (R109, R117) -/

/-- The causes of FAULT_CLEARED (R117). -/
inductive ClearCause where
  | resume
  | selfClear
  | restart
  deriving DecidableEq, Repr

/-- Cause codes (R117). -/
def ClearCause.code : ClearCause → Nat
  | .resume => 0
  | .selfClear => 1
  | .restart => 2

/-- A latch is cleared and FAULT_CLEARED raised (R117). -/
def State.clearLatch (cause : ClearCause) (k : KilnId) (s : State) (f : FaultKind) : State :=
  (s.modKiln k (fun q => { q with latches := q.latches.set f none })).raise
    { kind := .faultCleared
      data := be8 k.val ++ be8 f.code ++ be8 cause.code ++ be16 ((s.kiln k).charge.getD 0) }

/-- Several latches are cleared in one step, in an order that nothing fixes (log 8). -/
def State.clearLatches (cause : ClearCause) (k : KilnId) (fs : List FaultKind) (s : State) : State :=
  ((s.freeOrder fs).foldl (State.clearLatch cause k) s).drewFree fs.length

/-- The reported kinds whose condition is still present (R117). -/
def State.stillReported (s : State) (k : KilnId) : PerFault Bool :=
  let keep (f : FaultKind) : Bool := (s.kiln k).reported.get f && s.condition k f
  ⟨keep .silent, keep .range, keep .deviation, keep .supervisor⟩

/-- Part 5 of a kiln minute: NONE latches whose condition is absent clear themselves, and reported kinds whose condition is
absent are removed (R117). -/
def State.selfClear (k : KilnId) (s : State) : State :=
  let due := FaultKind.all.filter (fun f => (s.kiln k).latches.get f == some .none && !s.condition k f)
  (s.clearLatches .selfClear k due).modKiln k (fun q => { q with reported := s.stillReported k })

/-! ## OVERRIDE (R106) -/

/-- OVERRIDE (R106). -/
def serveOverride (r : Request) (s : State) : Served :=
  if r.args.length ≠ 7 then refuse s .badArgument
  else
    match kilnArg? r.args 0 with
    | none => refuse s .badArgument
    | some k =>
      let q := s.kiln k
      if q.state ≠ .running ∧ q.state ≠ .held then refuse s .wrongState
      else if Config.stackCapacity ≤ q.stack.length then refuse s .stackFull
      else
        let dr := natField 1 50 (u8 r.args 5)
        let wr := natField 1 50 (u8 r.args 6)
        let dry := intField q.inUse.dryMin q.inUse.dryMax (i16 r.args 1)
        let wet := intField 0 dry.value (i16 r.args 3)
        let t := s.pushHold false (.override dry.value wet.value dr.value wr.value) k
        okClampedIf (dry.clamped || wet.clamped || dr.clamped || wr.clamped) t (be8 (t.kiln k).stack.length)

/-! ## RESUME (R107, R108) -/

/-- The kiln after its top entry has been popped. -/
def Kiln.popped (q : Kiln) : Kiln := { q with stack := q.stack.tail }

/-- The kiln becomes RUNNING where its stack is empty (R107). -/
def State.runIfEmpty (k : KilnId) (s : State) : State := if (s.kiln k).stack.isEmpty then s.becomeRunning k else s

/-- The effect of popping an entry (R107, R108). -/
def State.resumeEntry (kind : HoldKind) (k : KilnId) (s : State) : State :=
  let t := s.modKiln k Kiln.popped
  match kind with
  | .override _ _ _ _ => t.runIfEmpty k
  | .fault f _ => (t.clearLatch .resume k f).runIfEmpty k
  | .schedule => t.resumeSchedule id k

/-- The condition that keeps an entry from being popped (R107). -/
def State.resumeBlocked (s : State) (k : KilnId) : HoldKind → Bool
  | .override _ _ _ _ => false
  | .fault f _ => s.condition k f
  | .schedule => false

/-- RESUME (R107). -/
def serveResume (r : Request) (s : State) : Served :=
  if r.args.length ≠ 1 then refuse s .badArgument
  else
    match kilnArg? r.args 0 with
    | none => refuse s .badArgument
    | some k =>
      match (s.kiln k).stack with
      | [] => refuse s .wrongState
      | top :: _ =>
        if s.resumeBlocked k top.kind then refuse s .conditionPresent
        else
          let t := s.resumeEntry top.kind k
          okWith t (t.stateByte k ++ be8 (t.kiln k).stack.length ++ be8 top.kind.code)

/-! ## STOP (R119) -/

/-- STOP (R119). -/
def serveStop (r : Request) (s : State) : Served :=
  if r.args.length ≠ 1 then refuse s .badArgument
  else
    match kilnArg? r.args 0 with
    | none => refuse s .badArgument
    | some k =>
      let q := s.kiln k
      if q.state ≠ .running ∧ q.state ≠ .held then refuse s .wrongState
      else okWith (s.stopKiln false .request k) (q.indexByte ++ q.elapsedReply)

/-! ## RESTART (R120, R121) -/

/-- The fault kinds whose latch is set. -/
def Kiln.latched (q : Kiln) : List FaultKind := FaultKind.all.filter (fun f => (q.latches.get f).isSome)

/-- The current setpoints take the starting setpoints (R85). -/
def Kiln.takeStarting (q : Kiln) : Kiln := q.withSetpoints q.startingPair

/-- The effect of an accepted RESTART (R121). -/
def State.restartKiln (k : KilnId) (s : State) : State :=
  let t := (s.clearLatches .restart k (s.kiln k).latched).modKiln k
    (fun q => { q with reported := ⟨false, false, false, false⟩ })
  if (s.kiln k).entryPending then t.resumeSchedule Kiln.takeStarting k
  else (t.modKiln k Kiln.takeStarting).becomeRunning k

/-- RESTART (R120, R121). -/
def serveRestart (r : Request) (s : State) : Served :=
  if r.args.length ≠ 1 then refuse s .badArgument
  else
    match kilnArg? r.args 0 with
    | none => refuse s .badArgument
    | some k =>
      if (s.kiln k).state ≠ .stopped then refuse s .wrongState
      else if (s.kiln k).latched.any (s.condition k) then refuse s .conditionPresent
      else
        let t := s.restartKiln k
        okWith t (t.stateByte k ++ (t.kiln k).indexByte ++ (t.kiln k).elapsedReply)

/-! ## The fault action row (R115) -/

/-- The four action codes (R115). -/
def Kiln.actionBytes (q : Kiln) : List Byte := FaultKind.all.flatMap (fun f => be8 (q.actions.get f).code)

/-- WRITE_FAULT_ACTIONS (R115). -/
def serveWriteFaultActions (r : Request) (s : State) : Served :=
  if r.args.length ≠ 5 then refuse s .badArgument
  else
    match kilnArg? r.args 0, FaultAction.ofCode? (u8 r.args 1), FaultAction.ofCode? (u8 r.args 2),
        FaultAction.ofCode? (u8 r.args 3), FaultAction.ofCode? (u8 r.args 4) with
    | some k, some a, some b, some c, some d =>
      okWith (s.modKiln k (fun q => { q with actions := ⟨a, b, c, d⟩ })) []
    | _, _, _, _, _ => refuse s .badArgument

/-! ## READ_KILN page 2 (R123) -/

/-- One entry slot of 11 bytes; fields that the kind does not use are 0 (R123). -/
def HoldEntry.slot (e : HoldEntry) : List Byte :=
  (match e.kind with
    | .override dry wet dr wr => be8 1 ++ beI16 dry ++ beI16 wet ++ be8 dr ++ be8 wr
    | .fault f a => be8 2 ++ be16 f.code ++ be16 a.code ++ be8 0 ++ be8 0
    | .schedule => be8 3 ++ be16 0 ++ be16 0 ++ be8 0 ++ be8 0) ++ be32 e.stamp.value.toNat

/-- A slot from the bottom, zeros where it is empty (R123). -/
def slotBytes (bottomFirst : List HoldEntry) (i : Nat) : List Byte :=
  match bottomFirst[i]? with
  | some e => e.slot
  | none => List.replicate 11 0

/-- The bit of a slot whose stamp was taken while the clock was SET (R123). -/
def slotSetBit (bottomFirst : List HoldEntry) (i : Nat) : Nat :=
  match bottomFirst[i]? with
  | some e => if e.stamp.isSet then 2 ^ i else 0
  | none => 0

/-- A recorded latch action, 255 where the latch is clear (R123). -/
def latchActionByte (a : Option FaultAction) : List Byte := beByteOr255 (a.map FaultAction.code)

/-- The 51 bytes of READ_KILN page 2 (R123). -/
def Kiln.holdPage (q : Kiln) : List Byte :=
  let b := q.stack.reverse
  be8 b.length ++ (List.range 4).flatMap (slotBytes b) ++ be8 (((List.range 4).map (slotSetBit b)).sum)
    ++ FaultKind.all.flatMap (fun f => latchActionByte (q.latches.get f))
    ++ be8 (q.reportedByte + (if q.entryPending then 128 else 0))

end Sys2Proof.Machine
end

