-- ==== Sys2Proof/Machine/Kiln.lean ====
section
/-! DEFINITION. Kiln operation (chapter 5): the limits record, loading and starting a charge, the kiln minute, arrivals,
unloading and READ_KILN. -/

namespace Sys2Proof.Machine

/-! ## The limits record (R78 to R80) -/

/-- The 24 bytes of the written limits (R78). -/
def Limits.bytes (l : Limits) : List Byte :=
  beI16 l.dryMin ++ beI16 l.dryMax ++ beI16 l.plausLow ++ beI16 l.plausHigh ++ beI16 l.deviationBand
    ++ be8 l.deviationMinutes ++ be8 l.silenceMinutes ++ beI16 l.safeDry ++ beI16 l.safeWet ++ be8 l.safeRate
    ++ beI16 l.idleDry ++ beI16 l.idleWet ++ be8 l.group ++ be8 l.tempDeadband ++ be8 l.moistDeadband

/-- The written limits are taken into use (R80). -/
def Kiln.takeLimits (q : Kiln) : Kiln := { q with inUse := q.written }

/-- The written record is replaced; an IDLE kiln takes it into use at once (R79, R80). -/
def Kiln.writeLimits (l : Limits) (q : Kiln) : Kiln :=
  if q.state = .idle then { q with written := l }.takeLimits else { q with written := l }

/-- WRITE_KILN_LIMITS (R79). The one byte of the temperature report deadband is read unsigned, which the spec does not say
(log 9). -/
def serveWriteKilnLimits (r : Request) (s : State) : Served :=
  if r.args.length ≠ 25 then refuse s .badArgument
  else
    match kilnArg? r.args 0 with
    | none => refuse s .badArgument
    | some k =>
      let a := r.args
      let dMin := intField 0 1300 (i16 a 1)
      let dMax := intField 0 1300 (i16 a 3)
      let pLow := intField (-400) 1500 (i16 a 5)
      let pHigh := intField (-400) 1500 (i16 a 7)
      let band := intField 5 300 (bandArg (u16 a 9))
      let devMin := natField 1 240 (u8 a 11)
      let silMin := natField 1 60 (u8 a 12)
      let sDry := intField 0 1300 (i16 a 13)
      let rate := natField 1 50 (u8 a 17)
      let iDry := intField 0 1300 (i16 a 18)
      let group := natField 0 7 (u8 a 22)
      let tBand := natField 1 100 (u8 a 23)
      let mBand := natField 1 100 (u8 a 24)
      if dMax.value < dMin.value ∨ pHigh.value < pLow.value then refuse s .badArgument
      else
        let sDry2 := intField dMin.value dMax.value sDry.value
        let sWet := intField 0 sDry2.value (i16 a 15)
        let iDry2 := intField dMin.value dMax.value iDry.value
        let iWet := intField 0 iDry2.value (i16 a 20)
        okClampedIf (dMin.clamped || dMax.clamped || pLow.clamped || pHigh.clamped || band.clamped || devMin.clamped
            || silMin.clamped || sDry.clamped || rate.clamped || iDry.clamped || group.clamped || tBand.clamped
            || mBand.clamped || sDry2.clamped || sWet.clamped || iDry2.clamped || iWet.clamped)
          (s.modKiln k (Kiln.writeLimits
            { dryMin := dMin.value, dryMax := dMax.value, plausLow := pLow.value, plausHigh := pHigh.value
              deviationBand := band.value, deviationMinutes := devMin.value, silenceMinutes := silMin.value
              safeDry := sDry2.value, safeWet := sWet.value, safeRate := rate.value, idleDry := iDry2.value
              idleWet := iWet.value, group := group.value, tempDeadband := tBand.value
              moistDeadband := mBand.value })) []

/-! ## LOAD_CHARGE (R81 to R84, R125, R126) -/

/-- The lot ids a LOAD_CHARGE names (R81). -/
def lotIds (args : List Byte) : List Word :=
  (List.range ((args.length - 11) / 4)).map (fun i => BitVec.ofNat 32 (u32 args (11 + 4 * i)))

/-- The argument layout of LOAD_CHARGE fits: the count, the number, the species group, distinct lot ids (R81). -/
def loadFits (args : List Byte) : Bool :=
  (args.length == 11 || args.length == 15 || args.length == 19 || args.length == 23 || args.length == 27)
    && u16 args 1 != 0 && u8 args 4 < 16 && decide (lotIds args).Nodup

/-- A resume point is given (R81). -/
def resumeGiven (args : List Byte) : Bool := u8 args 7 / 2 % 2 == 1

/-- The redry lot of an id (R82 check 9, R174). -/
def State.findLot (s : State) (id : Word) : Option Lot := s.lots.find? (fun l => l.id == id)

/-- One origin number merged into an origin list of at most eight (R126). -/
def mergeOrigin (acc : List Nat × Bool) (n : Nat) : List Nat × Bool :=
  if acc.1.contains n then acc else if acc.1.length < 8 then (acc.1 ++ [n], acc.2) else (acc.1, true)

/-- The origin list and the truncated flag built from lots in order (R126). -/
def mergeLots (lots : List Lot) : List Nat × Bool := (lots.flatMap Lot.origins).foldl mergeOrigin ([], false)

/-- Of two CLOSED records, the one LOAD_CHARGE takes first: the older stamp, the first of equals (R125). -/
def State.olderRecord (s : State) (best : Option (Fin 48)) (i : Fin 48) : Option (Fin 48) :=
  match best with
  | none => some i
  | some b =>
    match s.charges[i].closedStamp, s.charges[b].closedStamp with
    | some x, some y => if x.older y then some i else best
    | _, _ => best

/-- The CLOSED record to take: the oldest closed stamp, nearest the head of the reuse order among equals (R125). -/
def State.recordToTake (s : State) : Option (Fin 48) := s.reuse.foldl s.olderRecord none

/-- The new charge record (R83, R126). -/
def newCharge (k : KilnId) (d : Fin 32) (g : Fin 16) (args : List Byte) (generation : Nat) (lots : List Lot)
    (stamp : Stamp) : Charge :=
  { number := u16 args 1
    state := .loaded
    kiln := some k
    entry := d
    generation := generation
    follow := u8 args 7 % 2 == 1
    species := g
    mask := BitVec.ofNat 12 (u16 args 5)
    loadStamp := some stamp
    redry := !lots.isEmpty
    origins := (mergeLots lots).1
    truncated := (mergeLots lots).2
    closedStamp := none }

/-- The kiln unit takes a new charge (R84, R87). -/
def Kiln.load (number : Nat) (args : List Byte) (q : Kiln) : Kiln :=
  { q.emptyChannels (BitVec.ofNat 12 (u16 args 5)) with
    state := .loaded
    charge := some number
    stepCopy := none
    position := some (if resumeGiven args then ⟨u8 args 8, u16 args 9⟩ else ⟨0, 0⟩)
    targets := none
    limited := false
    setpoints := some q.idlePair
    ramping := false
    fan := .forward
    climateStatus := none
    verdict := none
    lastGood := none
    stack := []
    entryPending := false
    latches := ⟨none, none, none, none⟩
    reported := ⟨false, false, false, false⟩
    silence := 0
    countdown := q.inUse.deviationMinutes
    timer := some 0 }

/-- The effect of a LOAD_CHARGE that passes every check (R83, R84). -/
def State.loadCharge (k : KilnId) (d : Fin 32) (g : Fin 16) (i : Fin 48) (args : List Byte) (s : State) : State :=
  let lots := (lotIds args).filterMap s.findLot
  let t := s.setCharge i (newCharge k d g args s.directory[d].generation lots s.stamp)
  ((({ t with
      reuse := s.reuse.erase i
      lots := s.lots.filter (fun l => !(lotIds args).contains l.id) }).bindEntry d).modKiln k
        (Kiln.load (u16 args 1) args)).announceState false k

/-- Checks 8 to 12 of LOAD_CHARGE, the first failure, none where all pass (R82). -/
def State.loadRefusal (s : State) (d : Fin 32) (g : Fin 16) (args : List Byte) : Option Result :=
  if (s.findLive (u16 args 1)).isSome then some .inUse
  else if (lotIds args).any (fun x => (s.findLot x).isNone) then some .notFound
  else if ((lotIds args).filterMap s.findLot).any (fun l => l.species != g) then some .speciesMismatch
  else if resumeGiven args && !(u8 args 8 < s.directory[d].header.count && u16 args 9 ≤ 10080) then some .badArgument
  else none

/-- Checks 5 to 7 of LOAD_CHARGE, the first failure, none where all pass (R61, R82). -/
def State.bindRefusal (s : State) (k : KilnId) (d : Fin 32) (g : Fin 16) : Option Result :=
  let e := s.directory[d]
  if !e.valid then some .notFound
  else if !e.header.permit.getLsbD (s.kiln k).inUse.group then some .notPermitted
  else if e.header.species ≠ 255 ∧ e.header.species ≠ g.val then some .speciesMismatch
  else none

/-- LOAD_CHARGE (R81, R82). -/
def serveLoadCharge (r : Request) (s : State) : Served :=
  if !loadFits r.args then refuse s .badArgument
  else
    match index? 16 (u8 r.args 4), kilnArg? r.args 0 with
    | some g, some k =>
      if (s.kiln k).state ≠ .idle then refuse s .wrongState
      else if (s.holder (.climate k)).isNone || (s.holder (.actuator k)).isNone then refuse s .notMapped
      else
        match index? 32 (u8 r.args 3) with
        | none => refuse s .badArgument
        | some d =>
          match s.bindRefusal k d g with
          | some res => refuse s res
          | none =>
            match s.loadRefusal d g r.args with
            | some res => refuse s res
            | none =>
              match s.recordToTake with
              | none => refuse s .tableFull
              | some i => okWith (s.loadCharge k d g i r.args) []
    | _, _ => refuse s .badArgument

/-! ## START_KILN (R86) -/

/-- The start stamp is taken and a changed generation adopted (R86), and the deviation countdown is loaded, whatever the step
index (R112). -/
def State.beginStart (k : KilnId) (s : State) : State :=
  ((s.modKilnCharge k (fun c => { c with startStamp := some s.stamp })).adoptGeneration k).modKiln k Kiln.loadCountdown

/-- The kiln becomes RUNNING and the charge DRYING, after the step entry (R86). -/
def State.startRunning (k : KilnId) (p : StepPosition) (s : State) : State :=
  (((s.modKiln k Kiln.takeStarting).enterStep k p.index p.elapsed .start).modKilnCharge k
    (fun c => { c with state := .drying })).becomeRunning k

/-- The effect of an accepted START_KILN (R86). -/
def State.startKiln (k : KilnId) (p : StepPosition) (s : State) : State :=
  let t := s.beginStart k
  if t.boundCount k ≤ p.index then t.completeCharge false k else t.startRunning k p

/-- The charge's generation, as START_KILN's reply gives it. -/
def State.generationBytes (s : State) (k : KilnId) : List Byte := be16 (s.chargeOf k).generation

/-- START_KILN (R86). -/
def serveStartKiln (r : Request) (s : State) : Served :=
  if r.args.length ≠ 1 then refuse s .badArgument
  else
    match kilnArg? r.args 0 with
    | none => refuse s .badArgument
    | some k =>
      match (s.kiln k).state, (s.kiln k).position with
      | .loaded, some p =>
        let t := s.startKiln k p
        okWith t (t.stateByte k ++ (t.kiln k).indexByte ++ t.generationBytes k)
      | _, _ => refuse s .wrongState

/-! ## The kiln minute (R88) -/

/-- Part 1: the limits taken into use; idle setpoints in LOADED and DONE, the clamp in RUNNING, HELD and STOPPED (R88). -/
def Kiln.minuteLimits (q : Kiln) : Kiln :=
  let q1 := q.takeLimits
  match q.state with
  | .idle => q1
  | .loaded => q1.withSetpoints q1.idlePair
  | .done => q1.withSetpoints q1.idlePair
  | .running => q1.withSetpoints (q1.inUse.clampPair (q.setpoints.getD q1.idlePair))
  | .held => q1.withSetpoints (q1.inUse.clampPair (q.setpoints.getD q1.idlePair))
  | .stopped => q1.withSetpoints (q1.inUse.clampPair (q.setpoints.getD q1.idlePair))

/-- Part 2: the channels aged; figures recomputed and tested where a value was lost (R51). -/
def State.minuteAgeing (k : KilnId) (s : State) : State :=
  if (s.kiln k).channels.toList.any channelLost then
    (s.modKiln k (fun q => q.ageChannels.recompute)).testStatus k
  else s.modKiln k Kiln.ageChannels

/-- Part 3: the silence counter advanced, and SENSOR_SILENT detected at the limit (R110). -/
def State.minuteSilence (k : KilnId) (s : State) : State :=
  let t := s.modKiln k (fun q => { q with silence := min 255 (q.silence + 1) })
  if t.condition k .silent then t.detect true .silent k else t

/-- The fan direction after the reversal (R93). -/
def Kiln.fanStep (q : Kiln) : Kiln :=
  match q.stepCopy, q.position with
  | some t, some p => if t.fanInterval ≠ 0 ∧ p.elapsed % t.fanInterval = 0 then { q with fan := q.fan.flip } else q
  | _, _ => q

/-- A moisture figure that is present and at or below the exit moisture (R94). -/
def figureReached (figure : Option Nat) (limit : Nat) : Bool :=
  match figure with
  | some x => x ≤ limit
  | none => false

/-- The exit on a moisture basis (R94). -/
def Step.moistureExit (t : Step) (elapsed : Nat) (figure : Option Nat) : Option ExitReason :=
  if t.minDuration ≤ elapsed && figureReached figure t.exitMoisture then some .moisture
  else if t.maxDuration ≤ elapsed then some .timeLimit
  else none

/-- The exit of a step, none while it continues (R94). -/
def Kiln.exitReason (q : Kiln) : Option ExitReason :=
  match q.stepCopy, q.position with
  | some t, some p =>
    match t.basis with
    | .time => if t.maxDuration ≤ p.elapsed then some .time else none
    | .estimate => t.moistureExit p.elapsed (q.estimate.map Estimate.value)
    | .wettest => t.moistureExit p.elapsed q.wettest
  | _, _ => none

/-- The elapsed time increased by 1; it is a 16-bit number (R88 part 4). -/
def Kiln.countElapsed (q : Kiln) : Kiln :=
  { q with position := q.position.map (fun p => { p with elapsed := min 65535 (p.elapsed + 1) }) }

/-- A history entry is appended and the step index increases by 1 (R95). -/
def State.recordExit (k : KilnId) (p : StepPosition) (reason : ExitReason) (s : State) : State :=
  (s.modKilnCharge k (fun c => { c with
      history := c.history ++ [⟨p.index, reason, p.elapsed, (s.kiln k).estimate.map Estimate.value⟩] })).modKiln k
    (fun q => { q with position := some ⟨p.index + 1, p.elapsed⟩ })

/-- The next step is entered, or the charge completed (R95, "Equal"). -/
def State.advance (k : KilnId) (index : Nat) (s : State) : State :=
  if s.boundCount k ≤ index then s.completeCharge true k else s.enterStep k index 0 .transition

/-- The charge follows a changed schedule (R95, "Different, follow flag set"). -/
def State.follow (k : KilnId) (c : Charge) (s : State) : State :=
  (s.adoptGeneration k).raise
    { kind := .scheduleFollowed, data := be8 k.val ++ be16 c.number ++ be16 s.directory[c.entry].generation }

/-- The charge is held at a changed schedule (R95, "Different, follow flag clear"). -/
def State.holdSchedule (k : KilnId) (c : Charge) (index : Nat) (s : State) : State :=
  ((s.stackEntry .schedule k).raise
    { kind := .scheduleHeld
      data := be8 k.val ++ be16 c.number ++ be8 index ++ be16 c.generation ++ be16 s.directory[c.entry].generation
      }).announceState true k

/-- A step exits (R95). -/
def State.exitStep (k : KilnId) (reason : ExitReason) (s : State) : State :=
  match (s.kiln k).position, s.kilnCharge k with
  | some p, some c =>
    let t := s.recordExit k p reason
    let index := p.index + 1
    if c.generation = s.directory[c.entry].generation then t.advance k index
    else if c.follow then (t.follow k c).advance k index
    else t.holdSchedule k c index
  | _, _ => s

/-- The exit evaluation (R94). -/
def State.evaluateExit (k : KilnId) (s : State) : State :=
  match (s.kiln k).exitReason with
  | some reason => s.exitStep k reason
  | none => s

/-- The deviation countdown applied, where the kiln is still RUNNING (R112). -/
def State.applyDeviation (k : KilnId) (s : State) : State :=
  let q := s.kiln k
  if q.state ≠ .running then s
  else
    match q.deviates with
    | none => s
    | some false => s.modKiln k Kiln.loadCountdown
    | some true =>
      if q.countdown = 0 then s
      else
        let t := s.modKiln k (fun q => { q with countdown := q.countdown - 1 })
        if q.countdown = 1 then t.detect true .deviation k else t

/-- Part 4: by the kiln's state (R88, R105). -/
def State.minuteRun (k : KilnId) (s : State) : State :=
  match (s.kiln k).state with
  | .running =>
    ((s.modKiln k (fun q => q.countElapsed.deriveTargets.rampToStep.fanStep)).evaluateExit k).applyDeviation k
  | .held => s.modKiln k Kiln.governed
  | .idle => s
  | .loaded => s
  | .stopped => s
  | .done => s

/-- A kiln-minute expiry of a kiln that is not IDLE: the six parts in order (R87, R88). -/
def State.kilnMinute (k : KilnId) (s : State) : State :=
  let s0 := s.modKiln k (fun q => { q with timer := some 0 }.minuteLimits)
  ((((s0.minuteAgeing k).minuteSilence k).minuteRun k).selfClear k).produceSetpoint k

/-! ## Arrivals (R50, R99) -/

/-- The verdict on a CLIMATE payload (R99 part 2). -/
def Kiln.judge (q : Kiln) (payload : List Byte) : Verdict :=
  let l := q.inUse
  if u8 payload 4 = 0 ∧ l.plausLow ≤ i16 payload 0 ∧ i16 payload 0 ≤ l.plausHigh ∧ l.plausLow ≤ i16 payload 2
      ∧ i16 payload 2 ≤ l.plausHigh then .good else .bad

/-- The kiln with a CLIMATE payload stored (R99 parts 1 to 3). -/
def Kiln.takeClimate (payload : List Byte) (q : Kiln) : Kiln :=
  { q with
    climateStatus := some (payload.getD 4 0)
    silence := 0
    verdict := some (q.judge payload)
    lastGood := if q.judge payload = .good then some ⟨i16 payload 0, i16 payload 2⟩ else q.lastGood }

/-- A climate arrival (R99, R111). -/
def State.climateArrival (k : KilnId) (payload : List Byte) (s : State) : State :=
  let q := s.kiln k
  if q.state = .idle then s
  else
    let t := s.modKiln k (Kiln.takeClimate payload)
    (if q.judge payload = .bad then t.detect false .range k else t).testStatus k

/-- The species group of a kiln's charge (R50). -/
def State.kilnGroup (s : State) (k : KilnId) : SpeciesGroup :=
  match s.kilnCharge k with
  | some c => s.species[c.species]
  | none => {}

/-- A probe arrival (R50). -/
def State.probeArrival (k : KilnId) (payload : List Byte) (s : State) : State :=
  if (s.kiln k).state = .idle then s
  else (s.modKiln k (Kiln.takeProbe (s.kilnGroup k) payload)).testStatus k

/-! ## UNLOAD (R102) -/

/-- The end reason of an UNLOAD, none in the states that refuse it (R102). -/
def KilnState.unloadReason : KilnState → Option EndReason
  | .idle => none
  | .loaded => some .notDried
  | .running => none
  | .held => none
  | .stopped => some .stopped
  | .done => some .complete

/-- The kiln unit gives up its charge (R102). -/
def Kiln.unload (q : Kiln) : Kiln :=
  { (q.emptyChannels 0).takeLimits with
    state := .idle
    charge := none
    timer := none
    stepCopy := none
    position := none
    targets := none
    setpoints := none
    limited := false
    ramping := false
    climateStatus := none
    verdict := none
    lastGood := none
    latches := ⟨none, none, none, none⟩
    reported := ⟨false, false, false, false⟩
    stack := []
    entryPending := false }

/-- The entry's in-use count falls where the kiln still counted: from LOADED and STOPPED (R62, R102). -/
def State.releaseEntry (k : KilnId) (s : State) : State :=
  if (s.kiln k).state = .done then s else s.unbindKiln k

/-- The effect of an accepted UNLOAD (R102). -/
def State.unloadKiln (k : KilnId) (reason : EndReason) (s : State) : State :=
  ((((s.releaseEntry k).modKilnCharge k (fun c => { c with state := .stored, endReason := some reason })).modKiln k
    Kiln.unload).withdrawSetpoint k).raiseStatus k

/-- UNLOAD (R102). -/
def serveUnload (r : Request) (s : State) : Served :=
  if r.args.length ≠ 1 then refuse s .badArgument
  else
    match kilnArg? r.args 0 with
    | none => refuse s .badArgument
    | some k =>
      match (s.kiln k).state.unloadReason with
      | none => refuse s .wrongState
      | some reason => okWith (s.unloadKiln k reason) (be16 ((s.kiln k).charge.getD 0) ++ be8 reason.code)

/-! ## READ_KILN (R103, R123) -/

/-- The directory index, the charge's generation and the follow flag, 1 for set and 0 for clear (log 33); for a kiln without a
charge 255, then three free bytes, for which no rule gives a code (R103, log 6). -/
def State.bindingBytes (s : State) (k : KilnId) : List Byte :=
  match s.kilnCharge k with
  | some c => be8 c.entry.val ++ be16 c.generation ++ beBool c.follow
  | none => be8 255 ++ (s.freeBytes 5).drop 2

/-- The 33 bytes of page 0 (R103). -/
def State.kilnPage (s : State) (k : KilnId) : List Byte :=
  let q := s.kiln k
  be8 q.state.code ++ be16 (q.charge.getD 0) ++ s.bindingBytes k ++ q.indexByte ++ s.elapsedBytes k
    ++ beTemp (q.targets.map TempPair.dry) ++ beTemp (q.targets.map TempPair.wet)
    ++ beTemp (q.setpoints.map TempPair.dry) ++ beTemp (q.setpoints.map TempPair.wet)
    ++ be8 q.indicators ++ beTemp (q.lastGood.map TempPair.dry) ++ beTemp (q.lastGood.map TempPair.wet)
    ++ [q.climateStatus.getD 255] ++ beMoisture (q.estimate.map Estimate.value) ++ beMoisture q.wettest
    ++ be8 q.silence ++ be8 q.countdown ++ be8 q.stack.length ++ be8 q.latchByte
    ++ beByteOr255 (q.timer.map (min 59))

/-- A channel's value, flag and age (R103 page 1). -/
def channelBytes (c : Option Channel) : List Byte :=
  match c with
  | some x => be16 x.value ++ be8 x.flag.code ++ be8 x.age
  | none => be16 65535 ++ be8 0 ++ be8 255

/-- The 50 bytes of page 1 (R103). -/
def Kiln.probePage (q : Kiln) : List Byte := be16 q.mask.toNat ++ q.channels.toList.flatMap channelBytes

/-- READ_KILN (R103, R123). A page 0 that drew free values advances their counter. -/
def serveReadKiln (r : Request) (s : State) : Served :=
  if r.args.length ≠ 2 then refuse s .badArgument
  else
    match kilnArg? r.args 0, u8 r.args 1 with
    | some k, 0 => okWith (if (s.kiln k).state = .idle then s.drewFree 5 else s) (s.kilnPage k)
    | some k, 1 => okWith s (s.kiln k).probePage
    | some k, 2 => okWith s (s.kiln k).holdPage
    | _, _ => refuse s .badArgument

end Sys2Proof.Machine
end

