-- ==== Sys2Proof/Machine/Charges.lean ====
section
/-! DEFINITION. Charge records (chapter 7): planer feed and release, planer statistics, and READ_CHARGE. -/

namespace Sys2Proof.Machine

/-! ## PLANER_FEED and RELEASE_CHARGE (R129 to R132) -/

/-- The present infeed charge goes from PLANING to PLANED (R130). -/
def State.leaveInfeed (s : State) : State :=
  match s.line.infeed with
  | some n => s.modCharge n (fun c => { c with state := .planed })
  | none => s

/-- The named charge goes to PLANING and becomes the infeed charge; 0 leaves none (R130). -/
def State.enterInfeed (n : Nat) (s : State) : State :=
  if n = 0 then s.modLine (fun l => { l with infeed := none })
  else (s.modCharge n (fun c => { c with state := .planing })).modLine (fun l => { l with infeed := some n })

/-- The effect of an accepted PLANER_FEED (R130). -/
def State.planerFeed (n : Nat) (s : State) : State := s.leaveInfeed.enterInfeed n

/-- The reference count of a charge that may be none, 0 for none (R130, log 21). -/
def State.refsOf (s : State) (c : Option Nat) : Nat :=
  match c with
  | some n => ((s.charge? n).map Charge.refs).getD 0
  | none => 0

/-- The previous infeed charge and its reference count, as the reply gives them (R130). -/
def State.feedReply (previous : Option Nat) (s : State) : List Byte :=
  be16 (previous.getD 0) ++ be8 (s.refsOf previous)

/-- The states from which a charge is fed or released (R129, R132). -/
def ChargeState.finishing : ChargeState → Bool
  | .loaded => false
  | .drying => false
  | .dried => false
  | .stored => true
  | .planing => false
  | .planed => true
  | .closed => false

/-- PLANER_FEED (R129, R130). -/
def servePlanerFeed (r : Request) (s : State) : Served :=
  if r.args.length ≠ 2 then refuse s .badArgument
  else
    let n := u16 r.args 0
    if n = 0 then okWith (s.planerFeed 0) ((s.planerFeed 0).feedReply s.line.infeed)
    else
      match s.charge? n with
      | none => refuse s .notFound
      | some c =>
        if c.state.finishing then okWith (s.planerFeed n) ((s.planerFeed n).feedReply s.line.infeed)
        else refuse s .wrongState

/-- RELEASE_CHARGE (R132, R133). -/
def serveReleaseCharge (r : Request) (s : State) : Served :=
  if r.args.length ≠ 2 then refuse s .badArgument
  else if u16 r.args 0 = 0 then refuse s .badArgument
  else
    match s.findLive (u16 r.args 0) with
    | none => refuse s .notFound
    | some i =>
      if !s.charges[i].state.finishing then refuse s .wrongState
      else if s.charges[i].refs ≠ 0 then refuse s .inUse
      else okWith (s.closeRecord i) []

/-! ## Planer statistics (R134) -/

/-- The count of one moisture class rises (R134). -/
def PlanerStats.countClass (c : MoistureClass) (t : PlanerStats) : PlanerStats :=
  match c with
  | .noRead => { t with noRead := bump16 t.noRead }
  | .overdry => { t with overdry := bump16 t.overdry }
  | .target => { t with target := bump16 t.target }
  | .wet => { t with wet := bump16 t.wet }
  | .redry => { t with redry := bump16 t.redry }

/-- The MC of a board with a reading is added (R134). -/
def PlanerStats.addReading (mc : Option Nat) (t : PlanerStats) : PlanerStats :=
  match mc with
  | some m => { t with mcSum := min 4294967295 (t.mcSum + m), reads := bump16 t.reads }
  | none => t

/-- A departing board enters its charge's statistics (R134). -/
def PlanerStats.take (cls : MoistureClass) (mc : Option Nat) (t : PlanerStats) : PlanerStats :=
  ({ t with boards := bump16 t.boards }.countClass cls).addReading mc

/-! ## READ_CHARGE (R136 to R138) -/

/-- Of two CLOSED records of a number, the one READ_CHARGE takes: the newest closed stamp, nearest the tail of the reuse
order among equals (R136). -/
def State.newerRecord (s : State) (n : Nat) (best : Option (Fin 48)) (i : Fin 48) : Option (Fin 48) :=
  if s.charges[i].number ≠ n then best
  else
    match best with
    | none => some i
    | some b =>
      match s.charges[i].closedStamp, s.charges[b].closedStamp with
      | some x, some y => if x.older y then best else some i
      | _, _ => best

/-- The record READ_CHARGE shows: the live one, else the newest CLOSED one (R136). -/
def State.readRecord (s : State) (n : Nat) : Option Charge :=
  match s.findLive n with
  | some i => some s.charges[i]
  | none => (s.reuse.foldl (s.newerRecord n) none).map (fun i => s.charges[i])

/-- The 40 bytes of page 0 (R137); the follow flag's byte is 1 for set and 0 for clear (log 33). -/
def Charge.headerPage (c : Charge) : List Byte :=
  be16 c.number ++ be8 c.state.code ++ beByteOr255 (c.kiln.map Fin.val) ++ be8 c.entry.val ++ be16 c.generation
    ++ beBool c.follow ++ be8 c.species.val ++ be16 c.mask.toNat ++ beStamp? c.loadStamp ++ beStamp? c.startStamp
    ++ beStamp? c.dryEndStamp ++ beByteOr255 (c.endReason.map EndReason.code) ++ beMoisture c.finalEstimate
    ++ beMoisture c.finalWettest ++ be16 c.pushes ++ be8 c.refs ++ be8 c.history.length ++ beStamp? c.closedStamp

/-- One slot of the step history (R138). -/
def Charge.historySlot (c : Charge) (i : Nat) : List Byte :=
  match c.history[i]? with
  | some h => be8 h.index ++ be8 h.reason.code ++ be16 h.elapsed ++ beMoisture h.estimate
  | none => be8 255 ++ List.replicate 5 0

/-- The 49 bytes of pages 1 to 3 (R138). -/
def Charge.historyPage (c : Charge) (page : Nat) : List Byte :=
  be8 c.history.length ++ (List.range 8).flatMap (fun j => c.historySlot (8 * (page - 1) + j))

/-- Numbers of two bytes each, 0 beyond the end (R138, R174, R175). -/
def numberSlots (count : Nat) (l : List Nat) : List Byte := (List.range count).flatMap (fun i => be16 (l.getD i 0))

/-- The 36 bytes of page 4 (R138). -/
def Charge.planerPage (c : Charge) : List Byte :=
  be8 ((if c.redry then 1 else 0) + (if c.truncated then 2 else 0)) ++ be8 c.origins.length ++ numberSlots 8 c.origins
    ++ be16 c.stats.boards ++ be16 c.stats.noRead ++ be16 c.stats.overdry ++ be16 c.stats.target ++ be16 c.stats.wet
    ++ be16 c.stats.redry ++ be32 c.stats.mcSum ++ be16 c.stats.reads

/-- A page of a charge record (R137, R138). -/
def Charge.page (c : Charge) (page : Nat) : List Byte :=
  if page = 0 then c.headerPage else if page ≤ 3 then c.historyPage page else c.planerPage

/-- READ_CHARGE (R136). -/
def serveReadCharge (r : Request) (s : State) : Served :=
  if r.args.length ≠ 3 ∨ u16 r.args 0 = 0 ∨ 4 < u8 r.args 2 then refuse s .badArgument
  else
    match s.readRecord (u16 r.args 0) with
    | some c => okWith s (c.page (u8 r.args 2))
    | none => refuse s .notFound

end Sys2Proof.Machine
end

