-- ==== Sys2Proof/Machine/Labels.lean ====
section
/-! DEFINITION. Labels (chapter 10): the layout, rendering, the label queue and the printer protocol. -/

namespace Sys2Proof.Machine

/-! ## The layout (R178) -/

/-- The 21 bytes of a layout entry (R178). -/
def layoutBytes (e : Option LabelField) : List Byte :=
  match e with
  | some f =>
    be8 f.kind.code ++ be8 f.row ++ be8 f.column ++ be8 f.width ++ be8 f.text.length ++ f.text
      ++ List.replicate (16 - f.text.length) 0
  | none => be8 255 ++ List.replicate 20 0

/-- A printable character of label text (R178). -/
def printable (b : Byte) : Bool := 0x20 ≤ b.toNat && b.toNat ≤ 0x7E

/-- The layout entry is replaced. -/
def State.setField (i : Fin 16) (f : Option LabelField) (s : State) : State :=
  s.modLabels (fun u => { u with layout := u.layout.set i f })

/-- A write of a field of kind 0..15 (R178). -/
def writeField (i : Fin 16) (what : FieldKind) (args : List Byte) (s : State) : Served :=
  let row := u8 args 2
  let column := u8 args 3
  let text := args.drop 5
  if 7 < row ∨ 39 < column then refuse s .badArgument
  else if what ≠ .text ∧ args.length ≠ 5 then refuse s .badArgument
  else if !text.all printable then refuse s .badArgument
  else
    let w := natField 1 40 (u8 args 4)
    okClampedIf w.clamped (s.setField i (some ⟨what, row, column, w.value, text⟩)) []

/-- WRITE_LABEL_FIELD (R178). -/
def serveWriteLabelField (r : Request) (s : State) : Served :=
  if r.args.length < 5 ∨ 21 < r.args.length then refuse s .badArgument
  else
    match index? 16 (u8 r.args 0) with
    | none => refuse s .badArgument
    | some i =>
      if u8 r.args 1 = 255 then
        if r.args.length = 5 then okWith (s.setField i none) [] else refuse s .badArgument
      else
        match FieldKind.ofCode? (u8 r.args 1) with
        | none => refuse s .badArgument
        | some what => writeField i what r.args s

/-! ## Values as text (R179) -/

/-- The decimal digits of a number, `fuel` of them at most, in front of a tail. -/
def digitsFrom : Nat → Nat → List Byte → List Byte
  | 0, _, tail => tail
  | fuel + 1, n, tail =>
    let d := BitVec.ofNat 8 (48 + n % 10) :: tail
    if n / 10 = 0 then d else digitsFrom fuel (n / 10) d

/-- A number in decimal without leading zeros (R179); no value shown has more than ten digits. -/
def decimal (n : Nat) : List Byte := digitsFrom 10 n []

/-- The fill character of absent values. -/
def dash : Byte := 45#8
/-- The fill character of values too wide. -/
def hash : Byte := 35#8
/-- The space. -/
def space : Byte := 32#8

/-- A moisture figure: whole tenths, a full stop and the last digit (R179). -/
def moistureText (n : Nat) : List Byte := decimal (n / 10) ++ [46#8] ++ decimal (n % 10)

/-- Two digits. -/
def twoDigits (n : Nat) : List Byte := decimal (n / 10) ++ decimal (n % 10)

/-- A stamp's value: D, the day number, a space, hours, a colon, minutes (R179). -/
def stampText (v : Nat) : List Byte :=
  [68#8] ++ decimal (v / 1440) ++ [space] ++ twoDigits (v % 1440 / 60) ++ [58#8] ++ twoDigits (v % 60)

/-- A range: the low value alone where both agree (R179). -/
def rangeText (x : Range) : List Byte :=
  if x.low = x.high then decimal x.low else decimal x.low ++ [dash] ++ decimal x.high

/-- Texts joined by an oblique stroke (R179). -/
def joinTexts : List (List Byte) → List Byte
  | [] => []
  | [t] => t
  | t :: u :: rest => t ++ [47#8] ++ joinTexts (u :: rest)

/-- "NORMAL" or "REDRY" (R179). -/
def PackKind.text : PackKind → List Byte
  | .normal => [78, 79, 82, 77, 65, 76]
  | .redry => [82, 69, 68, 82, 89]

/-- "COUNT_REACHED", "CHARGE_MIX", "FORCED" or "LINE_RESET" (R179). -/
def CloseReason.text : CloseReason → List Byte
  | .countReached => [67, 79, 85, 78, 84, 95, 82, 69, 65, 67, 72, 69, 68]
  | .chargeMix => [67, 72, 65, 82, 71, 69, 95, 77, 73, 88]
  | .forced => [70, 79, 82, 67, 69, 68]
  | .lineReset => [76, 73, 78, 69, 95, 82, 69, 83, 69, 84]

/-- What a field shows: an absent value, a number or a text (R179). -/
inductive FieldValue where
  | absent
  | number (text : List Byte)
  | text (text : List Byte)
  deriving DecidableEq, Repr

/-- A number that may be absent. -/
def FieldValue.ofNumber (t : Option (List Byte)) : FieldValue :=
  match t with
  | some x => .number x
  | none => .absent

/-- A stamp: one taken while the clock was UNSET shows as fill (R180). -/
def FieldValue.ofStamp (t : Option Stamp) : FieldValue :=
  match t with
  | some x => if x.isSet then .number (stampText x.value.toNat) else .absent
  | none => .absent

/-- A pack's mean MC, absent while its read count is 0 (R168). -/
def Pack.mean (p : Pack) : Option Nat := if p.reads = 0 then none else some ((p.mcSum + p.reads / 2) / p.reads)

/-- The charge records of a pack's charge list, in list order (R180, R181). -/
def State.packRecords (s : State) (p : Pack) : List Charge := (p.charges.filterMap id).filterMap s.charge?

/-- The species group of a pack: that of the first entry that is a charge, else the default species (R173, R179). -/
def State.packSpecies (s : State) (p : Pack) : Fin 16 :=
  match p.charges.find? Option.isSome with
  | some (some n) => ((s.charge? n).map Charge.species).getD s.line.settings.defaultSpecies
  | _ => s.line.settings.defaultSpecies

/-- The later of two stamps (R35, R181). -/
def laterStamp (best : Option Stamp) (t : Stamp) : Option Stamp :=
  match best with
  | none => some t
  | some b => if b.older t then some t else best

/-- The latest dry-end stamp of a pack's charges (R179, R181). -/
def State.packDryEnd (s : State) (p : Pack) : Option Stamp :=
  ((s.packRecords p).filterMap Charge.dryEndStamp).foldl laterStamp none

/-- A charge list entry as text. -/
def chargeText (c : Option Nat) : List Byte :=
  match c with
  | some n => decimal n
  | none => [dash]

/-- The kiln of a charge list entry as text (R179). -/
def State.kilnText (s : State) (c : Option Nat) : List Byte :=
  match c with
  | some n =>
    match (s.charge? n).bind Charge.kiln with
    | some k => decimal k.val
    | none => [dash]
  | none => [dash]

/-- The value of a field for a closing pack (R179). -/
def State.fieldValue (s : State) (p : Pack) (bin : Fin 16) (reason : CloseReason) (f : LabelField) : FieldValue :=
  match f.kind with
  | .packNumber => .number (decimal p.number.toNat)
  | .bin => .number (decimal bin.val)
  | .grade => .ofNumber (p.grades.map rangeText)
  | .length => .ofNumber (p.lengths.map rangeText)
  | .boardCount => .number (decimal p.count)
  | .mcMean => .ofNumber (p.mean.map moistureText)
  | .mcMax => .ofNumber (p.mcMax.map moistureText)
  | .mcMin => .ofNumber (p.mcMin.map moistureText)
  | .species => .number (decimal (s.packSpecies p).val)
  | .charges => .text (joinTexts (p.charges.map chargeText))
  | .kilns => .text (joinTexts (p.charges.map s.kilnText))
  | .dryEnd => .ofStamp (s.packDryEnd p)
  | .closeTime => .ofStamp (some s.stamp)
  | .kind => .text p.kind.text
  | .closeReason => .text reason.text
  | .text => .text f.text

/-! ## Rendering (R180) -/

/-- A value made exactly as long as a width (R180 part 3). -/
def FieldValue.fit (w : Nat) : FieldValue → List Byte
  | .absent => List.replicate w dash
  | .number t => if w < t.length then List.replicate w hash else List.replicate (w - t.length) space ++ t
  | .text t => t.take w ++ List.replicate (w - t.length) space

/-- A field's effective width (R180 part 1). -/
def LabelField.effectiveWidth (f : LabelField) : Nat := min f.width (40 - f.column)

/-- A row with characters replaced from a column onward (R180 part 4). -/
def overwrite (row : List Byte) (column : Nat) (t : List Byte) : List Byte :=
  row.take column ++ t ++ row.drop (column + t.length)

/-- One layout entry written onto the rows (R180). -/
def State.renderField (s : State) (p : Pack) (bin : Fin 16) (reason : CloseReason) (rows : List (List Byte))
    (e : Option LabelField) : List (List Byte) :=
  match e with
  | none => rows
  | some f =>
    rows.modify f.row (fun row => overwrite row f.column ((s.fieldValue p bin reason f).fit f.effectiveWidth))

/-- Eight rows of forty spaces (R180). -/
def blankRows : List (List Byte) := List.replicate 8 (List.replicate 40 space)

/-- The label of a closing pack (R180). -/
def State.render (s : State) (p : Pack) (bin : Fin 16) (reason : CloseReason) : Label :=
  ⟨p.number, bin, s.labels.layout.toList.foldl (s.renderField p bin reason) blankRows⟩

/-! ## The head label and the printer (R182 to R187) -/

/-- The head label is started: SENDING from row 0 where a station holds PRINTER, else WAITING; no head on an empty queue
(R183, R184). -/
def State.startHead (s : State) : State :=
  if s.labels.queue.isEmpty then s.modLabels (fun u => { u with head := none, nextRow := 0 })
  else if (s.holder .printer).isSome then
    (s.modLabels (fun u => { u with head := some .sending, nextRow := 0 })).produceRows
  else s.modLabels (fun u => { u with head := some .waiting, nextRow := 0 })

/-- A closing pack is handed over: its label joins the queue where that has room (R172, R182). The line-hold is evaluated at
the join, so a LINE_HOLD it raises comes before the close's PACK_CLOSED (log 28). -/
def State.handOff (p : Pack) (bin : Fin 16) (reason : CloseReason) (s : State) : State :=
  if s.labels.queue.length < Config.labelCapacity then
    let t := (s.modLabels (fun u => { u with queue := u.queue ++ [s.render p bin reason] })).evaluateHold
    if s.labels.queue.isEmpty then t.startHead else t
  else s

/-- The label outcome at close (R172). -/
def State.outcomeAtClose (s : State) : LabelOutcome :=
  if s.labels.queue.length < Config.labelCapacity then .pending else .noLabel

/-- The newest PENDING log entry of a pack number takes an outcome (R176). -/
def reportOutcome (number : Word) (o : LabelOutcome) (log : List LogEntry) : List LogEntry :=
  match log.reverse.findIdx? (fun e => e.pack.number == number && e.outcome == .pending) with
  | some i => (log.reverse.modify i (fun e => { e with outcome := o })).reverse
  | none => log

/-- A LABEL_FAILED notice (R172, R187). -/
def labelFailed (number : Word) (o : LabelOutcome) (bin : Fin 16) : Notice :=
  { kind := .labelFailed, data := be32 number.toNat ++ be8 o.code ++ be8 bin.val }

/-- The head label is finished with an outcome (R187). -/
def State.finishHead (o : LabelOutcome) (s : State) : State :=
  match s.labels.queue with
  | [] => s
  | l :: rest =>
    let s1 := s.modLabels (fun u => { u with timer := none })
    let s2 := if o = .printed then s1 else s1.raise (labelFailed l.pack o l.bin)
    let s3 := { s2 with packLog := reportOutcome l.pack o s2.packLog }
    (s3.modLabels (fun u => { u with queue := rest, head := none, nextRow := 0 })).evaluateHold.startHead

/-- The outcome a PRINT_DONE status gives (R185). -/
def printOutcome (status : Nat) : LabelOutcome := if status = 0 then .printed else .printerFault

/-- A PRINT_DONE matches the head (R185). -/
def LabelUnit.accepts (u : LabelUnit) (number : Word) : Bool :=
  match u.queue with
  | l :: _ => u.head == some .awaitPrint && l.pack == number
  | [] => false

/-- A PRINT_DONE is judged against the head (R185). -/
def State.printDone (payload : List Byte) (s : State) : State :=
  if s.labels.accepts (BitVec.ofNat 32 (u32 payload 0)) then s.finishHead (printOutcome (u8 payload 4))
  else s.modLine (fun l => { l with counters := { l.counters with latePrint := bump16 l.counters.latePrint } })

/-- The final row has been transmitted: AWAIT_PRINT, and the timer starts under the timeout of that moment (R184). -/
def State.awaitPrint (s : State) : State :=
  s.modLabels (fun u => { u with
    head := some .awaitPrint, timer := some 0, timeoutInUse := s.line.settings.labelTimeout })

/-- The label timer expires (R186). -/
def State.labelTimeout (s : State) : State :=
  if s.labels.head = some .awaitPrint then s.finishHead .timeout else s

/-- The head follows a change of the station map; `before` and `after` are the stations holding PRINTER (R183). -/
def State.followPrinter (before after : Option StationId) (s : State) : State :=
  match s.labels.head with
  | some .waiting => if after.isSome then s.startHead else s
  | some .sending =>
    if s.labels.nextRow < 8 then (if before = after then s.produceRows else s.startHead) else s
  | _ => s

end Sys2Proof.Machine
end

