-- ==== Sys2Proof/Machine/Packs.lean ====
section
/-! DEFINITION. Sorting and packs (chapter 9): the sort list, bins, open packs, pack closing, redry lots and the pack
log. -/

namespace Sys2Proof.Machine

/-! ## The sort list (R162, R163) -/

/-- The eight bytes of a sort list entry (R162). -/
def SortEntry.bytes (e : SortEntry) : List Byte :=
  be8 e.mask.toNat ++ be8 e.gradeLow ++ be8 e.gradeHigh ++ be16 e.lengthLow ++ be16 e.lengthHigh ++ be8 e.bin.val

/-- WRITE_SORT (R162). -/
def serveWriteSort (r : Request) (s : State) : Served :=
  if r.args.length ≠ 9 then refuse s .badArgument
  else
    match index? 16 (u8 r.args 0) with
    | none => refuse s .badArgument
    | some i =>
      let mask := BitVec.ofNat 5 (u8 r.args 1)
      if mask = 0 then okWith { s with sortList := s.sortList.set i {} } []
      else
        let gl := natField 0 15 (u8 r.args 2)
        let gh := natField 0 15 (u8 r.args 3)
        match index? 16 (u8 r.args 8) with
        | none => refuse s .badArgument
        | some bin =>
          if gh.value < gl.value ∨ u16 r.args 6 < u16 r.args 4 then refuse s .badArgument
          else
            okClampedIf (gl.clamped || gh.clamped)
              { s with sortList := s.sortList.set i ⟨mask, gl.value, gh.value, u16 r.args 4, u16 r.args 6, bin⟩ } []

/-- A board's grade and length lie within an entry's ranges; a board without them matches on its class alone (R163). -/
def SortEntry.takesScan (e : SortEntry) (scan : Option ScanData) : Bool :=
  match scan with
  | some x => e.gradeLow ≤ x.grade && x.grade ≤ e.gradeHigh && e.lengthLow ≤ x.length && x.length ≤ e.lengthHigh
  | none => true

/-- A board matches an entry (R163); an empty entry's mask includes no class. -/
def SortEntry.takes (e : SortEntry) (cls : MoistureClass) (scan : Option ScanData) : Bool :=
  e.mask.getLsbD cls.code && e.takesScan scan

/-- A board's class, NO_READ where it is unsettled (R153 part 1 has settled it at departure). -/
def Board.settled (b : Board) : MoistureClass := b.cls.getD .noRead

/-- The bin a board goes to (R163). -/
def State.chooseBin (s : State) (b : Board) : Fin 16 :=
  if b.long then s.line.settings.fallThrough
  else
    match s.sortList.toList.find? (fun e => e.takes b.settled b.scan) with
    | some e => e.bin
    | none => s.line.settings.fallThrough

/-! ## Bins and pack numbers (R164, R165) -/

/-- The open pack's four fields of READ_ENTRY, after the byte that says whether there is one (R164). -/
def packBytes (p : Option Pack) : List Byte :=
  match p with
  | some x => be8 1 ++ be32 x.number.toNat ++ be16 x.count ++ be16 x.countdown ++ be8 x.charges.length
  | none => List.replicate 10 0

/-- The 15 bytes of a bin (R164). -/
def Bin.bytes (b : Bin) : List Byte := be16 b.target ++ be8 b.kind.code ++ be16 b.counter ++ packBytes b.pack

/-- WRITE_BIN (R164). -/
def serveWriteBin (r : Request) (s : State) : Served :=
  if r.args.length ≠ 4 then refuse s .badArgument
  else
    match index? 16 (u8 r.args 0), PackKind.ofCode? (u8 r.args 3) with
    | some i, some kind =>
      let target := natField 0 500 (u16 r.args 1)
      okClampedIf target.clamped (s.modBin i (fun b => { b with target := target.value, kind := kind })) []
    | _, _ => refuse s .badArgument

/-- The next pack number after one has been given: 4294967295 is followed by 1 (R165). -/
def nextPackNumber (n : Word) : Word := if n + 1 = 0 then 1 else n + 1

/-- SET_PACK_BASE (R165). -/
def serveSetPackBase (r : Request) (s : State) : Served :=
  if r.args.length ≠ 4 then refuse s .badArgument
  else if u32 r.args 0 = 0 then refuse s .badArgument
  else okWith { s with nextPack := BitVec.ofNat 32 (u32 r.args 0) } []

/-! ## Closing a pack (R171, R173, R175) -/

/-- Why no lot can be created for a REDRY pack: 0 at 32 lots, 1 where the id is held (R173). -/
def State.lotRefusal (s : State) (p : Pack) : Option Nat :=
  if Config.lotCapacity ≤ s.lots.length then some 0
  else if s.lots.any (fun l => l.id == p.number) then some 1
  else none

/-- Step 2 of a close: the cause of a refused lot; none for a NORMAL pack or a lot created (R173). -/
def State.lotCause (s : State) (p : Pack) : Option Nat :=
  match p.kind with
  | .normal => none
  | .redry => s.lotRefusal p

/-- The lot of a closing REDRY pack (R173). -/
def State.lotOf (s : State) (p : Pack) : Lot := ⟨p.number, s.packSpecies p, p.count, p.mean, p.charges.filterMap id⟩

/-- A lot is created by a close. -/
def State.createsLot (s : State) (p : Pack) : Bool := p.kind == .redry && (s.lotRefusal p).isNone

/-- Step 2 of a close (R173). -/
def State.makeLot (p : Pack) (s : State) : State :=
  if s.createsLot p then { s with lots := s.lots ++ [s.lotOf p] } else s

/-- Step 3 of a close: an entry joins the log's tail; a full log first loses its oldest (R175). -/
def State.writeLog (e : LogEntry) (s : State) : State :=
  let kept := if Config.logCapacity ≤ s.packLog.length then s.packLog.tail else s.packLog
  { s with packLog := kept ++ [e] }

/-- The data of PACK_CLOSED (R171). -/
def packClosedData (p : Pack) (bin : Fin 16) (reason : CloseReason) (outcome : LabelOutcome) (lot : Bool) : List Byte :=
  be32 p.number.toNat ++ be8 bin.val ++ be8 p.kind.code ++ be8 reason.code ++ be16 p.count ++ be8 outcome.code
    ++ beBool lot

/-- LOT_LOST where a lot was refused (R173). -/
def State.raiseLotLost (p : Pack) (cause : Option Nat) (s : State) : State :=
  match cause with
  | some c => s.raise { kind := .lotLost, data := be32 p.number.toNat ++ be8 c }
  | none => s

/-- LABEL_FAILED where no label was queued (R172). -/
def State.raiseNoLabel (p : Pack) (bin : Fin 16) (outcome : LabelOutcome) (s : State) : State :=
  if outcome = .noLabel then s.raise (labelFailed p.number outcome bin) else s

/-- A pack closes (R171): hand-off, lot, log entry, notices, references. -/
def State.closePack (bin : Fin 16) (p : Pack) (reason : CloseReason) (s : State) : State :=
  let outcome := s.outcomeAtClose
  let s1 := s.handOff p bin reason
  let cause := s1.lotCause p
  let made := s1.createsLot p
  let s2 := (s1.makeLot p).writeLog ⟨p, bin, reason, outcome, cause.isSome, s.stamp⟩
  let s3 := (s2.raise { kind := .packClosed, data := packClosedData p bin reason outcome made }).raiseNoLabel p bin outcome
  ((s3.raiseLotLost p cause).releaseRefs p.charges).modBin bin (fun b => { b with pack := none })

/-! ## Placing a board (R166 to R168) -/

/-- A number widened into a range that may be absent (R168). -/
def widen (x : Option Range) (n : Nat) : Option Range :=
  match x with
  | some y => some ⟨min y.low n, max y.high n⟩
  | none => some ⟨n, n⟩

/-- The grade and length ranges take a scan (R168 part 4). -/
def Pack.takeScan (scan : Option ScanData) (p : Pack) : Pack :=
  match scan with
  | some x => { p with grades := widen p.grades x.grade, lengths := widen p.lengths x.length }
  | none => p

/-- The moisture figures take a reading (R168 part 3). -/
def Pack.takeReading (mc : Option Nat) (p : Pack) : Pack :=
  match mc with
  | some m =>
    { p with
      mcSum := p.mcSum + m
      reads := p.reads + 1
      mcMin := some (min (p.mcMin.getD m) m)
      mcMax := some (max (p.mcMax.getD m) m) }
  | none => p

/-- The charge list takes a board's entry where it is new (R168 part 1). -/
def Pack.takeCharge (c : Option Nat) (p : Pack) : Pack :=
  if p.charges.contains c then p else { p with charges := p.charges ++ [c] }

/-- A pack with a board added (R168 parts 1 to 4). -/
def Pack.add (b : Board) (p : Pack) : Pack :=
  (({ p.takeCharge b.charge with count := p.count + 1, countdown := p.countdown - 1 }).takeReading b.mc).takeScan b.scan

/-- The bin's board counter rises, stopping at 65535 (R164). -/
def Bin.countBoard (b : Bin) : Bin := { b with counter := bump16 b.counter }

/-- A board is added to the pack open in a bin (R168). -/
def State.addBoard (bin : Fin 16) (b : Board) (p : Pack) (s : State) : State :=
  let s1 := if p.charges.contains b.charge then s else s.takeRef b.charge
  let q := p.add b
  let s2 := s1.modBin bin (fun x => { x.countBoard with pack := some q })
  if q.countdown = 0 then s2.closePack bin q .countReached else s2

/-- A pack as it opens in a bin (R166). -/
def State.freshPack (s : State) (bin : Fin 16) : Pack :=
  { number := s.nextPack
    kind := s.bins[bin].kind
    target := s.bins[bin].target
    countdown := s.bins[bin].target
    opened := s.stamp }

/-- A board is placed in a bin that has no open pack (R166). -/
def State.openWith (bin : Fin 16) (b : Board) (s : State) : State :=
  if s.bins[bin].target = 0 then s.modBin bin Bin.countBoard
  else ({ s with nextPack := nextPackNumber s.nextPack }).addBoard bin b (s.freshPack bin)

/-- A board would make a fifth entry of a pack's charge list (R167). -/
def Pack.mixes (p : Pack) (c : Option Nat) : Bool := !p.charges.contains c && 4 ≤ p.charges.length

/-- A board is placed in a bin (R166, R167). -/
def State.placeBoard (bin : Fin 16) (b : Board) (s : State) : State :=
  match s.bins[bin].pack with
  | none => s.openWith bin b
  | some p =>
    if p.mixes b.charge then (s.closePack bin p .chargeMix).openWith bin b
    else s.addBoard bin b p

/-! ## CLOSE_PACK and the closes of LINE_RESET (R169, R170) -/

/-- CLOSE_PACK (R169). -/
def serveClosePack (r : Request) (s : State) : Served :=
  if r.args.length ≠ 1 then refuse s .badArgument
  else
    match index? 16 (u8 r.args 0) with
    | none => refuse s .badArgument
    | some bin =>
      match s.bins[bin].pack with
      | none => refuse s .wrongState
      | some p =>
        okWith (s.closePack bin p .forced) (be32 p.number.toNat ++ be16 p.count ++ be8 s.outcomeAtClose.code)

/-- The pack open in a bin, if any, closes with reason LINE_RESET (R170). -/
def State.resetBin (s : State) (bin : Fin 16) : State :=
  match s.bins[bin].pack with
  | some p => s.closePack bin p .lineReset
  | none => s

/-- The number of open packs. -/
def State.openPacks (s : State) : Nat := s.bins.toList.countP (fun b => b.pack.isSome)

/-- The bins' part of LINE_RESET: every open pack closes in bin order, then the counters are 0 (R170). -/
def State.resetBins (s : State) : State :=
  let t := (List.finRange 16).foldl State.resetBin s
  { t with bins := t.bins.map (fun b => { b with counter := 0 }) }

/-! ## READ_LOT and READ_PACK_LOG (R174, R175) -/

/-- The 19 bytes of a lot (R174). -/
def Lot.bytes (l : Lot) (count : Nat) : List Byte :=
  be8 count ++ be32 l.id.toNat ++ be8 l.species.val ++ be16 l.count ++ beMoisture l.mean ++ be8 l.origins.length
    ++ numberSlots 4 l.origins

/-- READ_LOT by id or by position (R174). -/
def serveReadLot (r : Request) (s : State) : Served :=
  if r.args.length = 4 then
    match s.lots.find? (fun l => l.id == BitVec.ofNat 32 (u32 r.args 0)) with
    | some l => okWith s (l.bytes s.lots.length)
    | none => refuse s .notFound
  else if r.args.length = 1 then
    if 31 < u8 r.args 0 then refuse s .badArgument
    else
      match s.lots[u8 r.args 0]? with
      | some l => okWith s (l.bytes s.lots.length)
      | none => refuse s .notFound
  else refuse s .badArgument

/-- The low and high of a range that may be absent. -/
def gradeBytes (x : Option Range) : List Byte := beByteOr255 (x.map Range.low) ++ beByteOr255 (x.map Range.high)

/-- The low and high lengths, 65535 where absent. -/
def lengthBytes (x : Option Range) : List Byte := beLength (x.map Range.low) ++ beLength (x.map Range.high)

/-- The 47 bytes of a pack log entry (R175). -/
def LogEntry.bytes (e : LogEntry) (entries : Nat) : List Byte :=
  let p := e.pack
  be8 entries ++ be32 p.number.toNat ++ be8 e.bin.val ++ be8 p.kind.code ++ be8 e.reason.code ++ be8 e.outcome.code
    ++ beBool e.noLot ++ be16 p.count ++ be16 p.target ++ beStamp p.opened ++ beStamp e.closed ++ beMoisture p.mean
    ++ beMoisture p.mcMin ++ beMoisture p.mcMax ++ be16 p.reads ++ gradeBytes p.grades ++ lengthBytes p.lengths
    ++ be8 p.charges.length ++ numberSlots 4 (p.charges.map (fun c => c.getD 0))

/-- READ_PACK_LOG (R175). -/
def serveReadPackLog (r : Request) (s : State) : Served :=
  if r.args.length ≠ 1 then refuse s .badArgument
  else if 63 < u8 r.args 0 then refuse s .badArgument
  else
    match s.packLog.reverse[u8 r.args 0]? with
    | some e => okWith s (e.bytes s.packLog.length)
    | none => refuse s .notFound

end Sys2Proof.Machine
end

