-- ==== Sys2Proof/Machine/Line.lean ====
section
/-! DEFINITION. Planer line tracking (chapter 8): encoder, board-eye, scans, marks, departures, line settings, line reset
and READ_LINE. -/

namespace Sys2Proof.Machine

/-! ## Travel and marks (R139, R150, R151) -/

/-- The signed difference between two positions (00 Conventions "Encoder positions"). -/
def signedDistance (origin point : Position) : Int := (point - origin).toInt

/-- A board's travel (section 8.1). -/
def Line.travel (l : Line) (b : Board) : Int := signedDistance b.leading l.position

/-- A board's travel lies within its mark window (R151). -/
def Line.inWindow (l : Line) (b : Board) (x : FixedPattern) : Bool :=
  (l.settings.markDistance : Int) + x.first ≤ l.travel b && l.travel b < (l.settings.markDistance : Int) + x.last

/-- The outputs a board turns on (R151). -/
def Line.boardMarks (l : Line) (b : Board) : BitVec 4 :=
  match b.pattern with
  | some x => if l.inWindow b x then x.mask else 0
  | none => 0

/-- The mark outputs re-evaluated over the queue (R151). -/
def Line.evaluateMarks (l : Line) : Line := { l with marks := (l.queue.map l.boardMarks).foldl (· ||| ·) 0 }

/-- The index of the pattern a board is fixed with: its class's, PENDING while it is unsettled (R150). -/
def Board.patternIndex (b : Board) : Fin 6 :=
  match b.cls with
  | some .noRead => 0
  | some .overdry => 1
  | some .target => 2
  | some .wet => 3
  | some .redry => 4
  | none => 5

/-- The board with its pattern fixed (R150). -/
def Line.fixBoard (l : Line) (b : Board) : Board :=
  let e := l.patterns[b.patternIndex]
  { b with pattern := some ⟨b.patternIndex.val, e.mask, e.first, e.last⟩ }

/-- A board that has reached its mark point is fixed, once (R150). -/
def Line.fixIfReached (l : Line) (b : Board) : Board :=
  if b.pattern.isNone && (l.settings.markDistance : Int) ≤ l.travel b then l.fixBoard b else b

/-- A board that has reached its stacker point keeps it, wherever the chain goes then (R152). -/
def Line.noteStacker (l : Line) (b : Board) : Board :=
  { b with reachedStacker := b.reachedStacker || (l.settings.stackerDistance : Int) ≤ l.travel b }

/-- The points that the boards reach at a count, and the outputs (R150 to R152). -/
def Line.reachPoints (l : Line) : Line :=
  { l with queue := l.queue.map (fun b => l.noteStacker (l.fixIfReached b)) }.evaluateMarks

/-! ## Departure (R152, R153) -/

/-- The class settled at departure, and LONG for a board still IN_VIEW (R153 part 1). -/
def Board.settleAtDeparture (b : Board) : Board :=
  match b.state with
  | .inView => { b with cls := some .noRead, long := true }
  | .awaitRead => { b with cls := some .noRead }
  | .skipped => b
  | .read => b

/-- The scanner's sequence has not yet passed a board. -/
def BoardState.unread : BoardState → Bool
  | .inView => true
  | .awaitRead => true
  | .skipped => false
  | .read => false

/-- The expected sequence rises past an unread departing board (R153 part 1). -/
def Line.passUnread (b : Board) (l : Line) : Line :=
  if b.state.unread then { l with expected := l.expected.map (fun e => e + 1) } else l

/-- The charge's planer statistics take the board (R153 part 2). -/
def State.countInCharge (b : Board) (s : State) : State :=
  match b.charge with
  | some n => s.modCharge n (fun c => { c with stats := c.stats.take b.settled b.mc })
  | none => s

/-- The head leaves the queue: marks re-evaluated, boards departed counted (R153 part 4). -/
def Line.dropHead (l : Line) : Line :=
  { l with
    queue := l.queue.tail
    counters := { l.counters with departed := bump16 l.counters.departed } }.evaluateMarks

/-- The head board departs (R153). -/
def State.depart (s : State) : State :=
  match s.line.queue with
  | [] => s
  | b0 :: _ =>
    let b := b0.settleAtDeparture
    let s1 := (s.modLine (Line.passUnread b0)).countInCharge b
    let s2 := s1.placeBoard (s1.chooseBin b) b
    ((s2.modLine Line.dropHead).releaseRef b.charge).evaluateHold

/-- The head has reached its stacker point. -/
def Line.headReached (l : Line) : Bool :=
  match l.queue with
  | b :: _ => b.reachedStacker
  | [] => false

/-- Boards depart from the head while the head has reached its stacker point (R152). -/
def departuresFuel : Nat → State → State
  | 0, s => s
  | fuel + 1, s => if s.line.headReached then departuresFuel fuel s.depart else s

/-- The departures that a count causes (R152). -/
def State.departures (s : State) : State := departuresFuel s.line.queue.length s

/-! ## The encoder (R139) -/

/-- The place of an input pair along the forward order (R139). -/
def quadrature (a b : Bool) : Nat :=
  match a, b with
  | false, false => 0
  | true, false => 1
  | true, true => 2
  | false, true => 3

/-- The direction of the count that a change of the pair gives; none for no change or a change of both inputs (R139). -/
def countDirection (a0 b0 a1 b1 : Bool) : Option Direction :=
  match (quadrature a1 b1 + 4 - quadrature a0 b0) % 4 with
  | 1 => some .forward
  | 3 => some .backward
  | _ => none

/-- The position after a count (R139). -/
def Direction.move (d : Direction) (p : Position) : Position :=
  match d with
  | .forward => p + 1
  | .backward => p - 1

/-- The encoder inputs take new levels (R139). -/
def State.encoderChange (a b : Bool) (s : State) : State :=
  let t := s.modLine (fun l => { l with encA := a, encB := b })
  match countDirection s.line.encA s.line.encB a b with
  | none => t
  | some d =>
    (t.modLine (fun l => { l with position := d.move l.position, direction := d }.reachPoints)).departures

/-! ## The board-eye (R140 to R144, R148) -/

/-- The reverse edges counter rises (R140). -/
def Line.countReverse (l : Line) : Line :=
  { l with counters := { l.counters with reverseEdges := bump16 l.counters.reverseEdges } }

/-- A leading edge is early (R142). -/
def Line.early (l : Line) : Bool :=
  match l.lastLeading with
  | some p => signedDistance p l.position < l.settings.minSpacing
  | none => false

/-- The board with the SPLIT flag: a READ board loses its reading (R148). -/
def Board.markSplit (b : Board) : Board :=
  match b.state with
  | .inView => { b with split := true }
  | .awaitRead => { b with split := true }
  | .skipped => { b with split := true }
  | .read =>
    { b with
      split := true
      zones := []
      mc := none
      mean := none
      clamped := false
      overRange := false
      cls := some .noRead }

/-- The last opened board, where it is still in the queue, takes the SPLIT flag (R142). -/
def Line.splitLast (l : Line) : Line :=
  match l.lastOpened with
  | none => l
  | some n => { l with queue := l.queue.map (fun b => if b.serial = n then b.markSplit else b) }

/-- The board that a leading edge opens (R142). -/
def Line.newBoard (l : Line) : Board := { serial := l.nextSerial, charge := l.infeed, leading := l.position }

/-- The line tracker with a board opened (R141, R142). -/
def Line.opened (l : Line) : Line :=
  { l with
    queue := l.queue ++ [l.newBoard]
    nextSerial := l.nextSerial + 1
    lastLeading := some l.position
    lastOpened := some l.nextSerial
    counters := { l.counters with opened := bump16 l.counters.opened } }

/-- The line tracker with a board lost (R142). -/
def Line.lostOne (l : Line) : Line :=
  { l with
    lastLeading := some l.position
    lastOpened := none
    counters := { l.counters with lost := bump16 l.counters.lost } }

/-- BOARDS_LOST, once for each period of the line-hold (R143). -/
def State.noteLost (s : State) : State :=
  if s.line.lostNotice then s
  else
    (s.modLine (fun l => { l with lostNotice := true })).raise
      { kind := .boardsLost
        data := be24 s.line.position.toNat ++ be16 (s.line.infeed.getD 0) ++ be8 s.line.queue.length }

/-- A board is opened, or lost at a full queue (R142, R143). -/
def State.openBoard (s : State) : State :=
  if s.line.queue.length < Config.trackCapacity then ((s.modLine Line.opened).takeRef s.line.infeed).evaluateHold
  else (s.modLine Line.lostOne).noteLost

/-- A leading edge taken in FORWARD (R142). -/
def State.takeLeading (s : State) : State :=
  if s.line.early then
    match s.line.settings.policy with
    | .merge => s
    | .split => (s.modLine Line.splitLast).openBoard
  else s.openBoard

/-- A leading edge; impossible while BLOCKED (R140, log 4). -/
def State.leadingEdge (s : State) : State :=
  if s.line.eyeBlocked then s
  else
    let t := s.modLine (fun l => { l with eyeBlocked := true })
    if s.line.direction = .backward then t.modLine Line.countReverse else t.takeLeading

/-- The first board of a list that is IN_VIEW becomes AWAIT_READ. -/
def clearFirst : List Board → List Board
  | [] => []
  | b :: rest => if b.state = .inView then { b with state := .awaitRead } :: rest else b :: clearFirst rest

/-- The newest IN_VIEW board becomes AWAIT_READ (R144), an older board too once the newer ones have left IN_VIEW (log 34). -/
def Line.takeTrailing (l : Line) : Line := { l with queue := (clearFirst l.queue.reverse).reverse }

/-- A trailing edge; impossible while CLEAR (R140, R144, log 4). -/
def State.trailingEdge (s : State) : State :=
  if s.line.eyeBlocked then
    let t := s.modLine (fun l => { l with eyeBlocked := false })
    if s.line.direction = .backward then t.modLine Line.countReverse else t.modLine Line.takeTrailing
  else s

/-! ## Scans (R145 to R147) -/

/-- The species group of a board's charge, or the default species (R54, R147). -/
def State.boardGroup (s : State) (b : Board) : SpeciesGroup :=
  match b.charge with
  | some n =>
    match s.charge? n with
    | some c => s.species[c.species]
    | none => s.species[s.line.settings.defaultSpecies]
  | none => s.species[s.line.settings.defaultSpecies]

/-- The scan's own fields; a grade above 15 is taken as 15 (R5, R147). -/
def scanOf (payload : List Byte) : ScanData :=
  ⟨payload.getD 0 0, min 15 (u8 payload 1), u16 payload 2, i16 payload 4⟩

/-- The board paired with a scan (R147). -/
def State.pairBoard (s : State) (payload : List Byte) (b : Board) : Board :=
  let c := { b with state := .read, scan := some (scanOf payload), lateRead := b.lateRead || b.pattern.isSome }
  if b.split then { c with cls := some .noRead }
  else c.withZones s.line.settings (boardZones (s.boardGroup b) payload)

/-- The board as the scanner's sequence passes over it (R146). -/
def Board.skip (b : Board) : Board := { b with state := .skipped, cls := some .noRead }

/-- `d` waiting boards are skipped, counted from the head, and the next waiting one is paired (R146). -/
def matchBoards (pair : Board → Board) : Nat → List Board → List Board
  | _, [] => []
  | d, b :: rest =>
    if b.state = .awaitRead then
      match d with
      | 0 => pair b :: rest
      | d + 1 => b.skip :: matchBoards pair d rest
    else b :: matchBoards pair d rest

/-- The number of boards that wait for their scan (R146). -/
def Line.waiting (l : Line) : Nat := l.queue.countP (fun b => b.state == .awaitRead)

/-- A scan whose distance lies in 0..15 (R146). -/
def State.matchScan (payload : List Byte) (d : Nat) (s : State) : State :=
  let unmatched := if s.line.waiting ≤ d then bump16 s.line.counters.scanUnmatched else s.line.counters.scanUnmatched
  s.modLine (fun l => { l with
    queue := matchBoards (s.pairBoard payload) d l.queue
    expected := some (payload.getD 0 0 + 1)
    counters := { l.counters with scanUnmatched := unmatched } })

/-- A scan arrival (R145). -/
def State.scanArrival (payload : List Byte) (s : State) : State :=
  let q : Byte := payload.getD 0 0
  let d := (q - s.line.expected.getD q).toNat
  if 16 ≤ d then
    s.modLine (fun l => { l with counters := { l.counters with scanStale := bump16 l.counters.scanStale } })
  else s.matchScan payload d

/-! ## Mark patterns and line settings (R149, R157, R158) -/

/-- The five bytes of a mark pattern (R149). -/
def MarkPattern.bytes (p : MarkPattern) : List Byte := be8 p.mask.toNat ++ be16 p.first ++ be16 p.last

/-- WRITE_MARK (R149). -/
def serveWriteMark (r : Request) (s : State) : Served :=
  if r.args.length ≠ 6 then refuse s .badArgument
  else
    match index? 6 (u8 r.args 0) with
    | none => refuse s .badArgument
    | some i =>
      okWith (s.modLine (fun l => { l with
        patterns := l.patterns.set i ⟨BitVec.ofNat 4 (u8 r.args 1), u16 r.args 2, u16 r.args 4⟩ })) []

/-- The 18 bytes of the line settings (R158, R161). -/
def LineSettings.bytes (l : LineSettings) : List Byte :=
  be16 l.minSpacing ++ be8 l.policy.code ++ be24 l.markDistance ++ be24 l.stackerDistance ++ be8 l.defaultSpecies.val
    ++ be8 l.fallThrough.val ++ be16 l.overdry ++ be16 l.wet ++ be16 l.redry ++ be8 l.labelTimeout

/-- Check 5 of WRITE_LINE: the distances and the policy may change on an empty queue only (R157, R158). -/
def Line.mayTake (l : Line) (x : LineSettings) : Bool :=
  l.queue.isEmpty || (x.markDistance == l.settings.markDistance && x.stackerDistance == l.settings.stackerDistance
    && x.policy == l.settings.policy)

/-- WRITE_LINE (R158). -/
def serveWriteLine (r : Request) (s : State) : Served :=
  if r.args.length ≠ 18 then refuse s .badArgument
  else
    let a := r.args
    match EdgePolicy.ofCode? (u8 a 2), index? 16 (u8 a 9), index? 16 (u8 a 10) with
    | some policy, some species, some bin =>
      let spacing := natField 1 65535 (u16 a 0)
      let mark := natField 1 4194304 (u24 a 3)
      let stacker := natField 1 4194304 (u24 a 6)
      let overdry := natField 0 600 (u16 a 11)
      let wet := natField 0 600 (u16 a 13)
      let redry := natField 0 600 (u16 a 15)
      let timeout := natField 5 120 (u8 a 17)
      let x : LineSettings := ⟨spacing.value, policy, mark.value, stacker.value, species, bin, overdry.value, wet.value,
        redry.value, timeout.value⟩
      if stacker.value ≤ mark.value then refuse s .badArgument
      else if wet.value ≤ overdry.value ∨ redry.value < wet.value then refuse s .badArgument
      else if s.line.mayTake x then
        okClampedIf (spacing.clamped || mark.clamped || stacker.clamped || overdry.clamped || wet.clamped
          || redry.clamped || timeout.clamped) (s.modLine (fun l => { l with settings := x })) []
      else refuse s .wrongState
    | _, _, _ => refuse s .badArgument

/-! ## LINE_RESET (R159, R170) -/

/-- The tracking queue emptied, with the marks off and the expected sequence UNSET (R159 parts 1 to 3). -/
def Line.discard (l : Line) : Line :=
  { l with queue := [], lastLeading := none, lastOpened := none, expected := none }.evaluateMarks

/-- The boards are discarded with their references, the marks go off and the expected sequence is UNSET (R159 parts 1 to 3).
The line-hold is evaluated as the tracking queue becomes empty (R155), which is one change of its count (log 11). -/
def State.discardBoards (s : State) : State :=
  ((s.modLine Line.discard).releaseRefs (s.line.queue.map Board.charge)).evaluateHold

/-- The effect of LINE_RESET (R159). The line-hold is evaluated in part 1 and, as labels join, in part 4 (R155), and in part 6. -/
def State.lineReset (s : State) : State :=
  (s.discardBoards.resetBins.modLine (fun l => { l with counters := {} })).evaluateHold

/-- LINE_RESET (R159). -/
def serveLineReset (r : Request) (s : State) : Served :=
  if r.args.length ≠ 0 then refuse s .badArgument
  else okWith s.lineReset (be8 s.line.queue.length ++ be8 s.openPacks)

/-! ## READ_LINE (R161) -/

/-- The 20 bytes of page 0 (R161). -/
def State.linePage (s : State) : List Byte :=
  let l := s.line
  be24 l.position.toNat ++ be8 l.direction.code ++ beBool l.eyeBlocked ++ be8 l.queue.length ++ beBool l.expected.isSome
    ++ [l.expected.getD 0] ++ be16 (l.infeed.getD 0)
    ++ be8 ((if l.holdAsserted then 1 else 0) + (if l.lostNotice then 2 else 0)) ++ be8 l.marks.toNat
    ++ be8 s.labels.queue.length ++ be32 s.clock.value.toNat ++ beBool s.clock.isSet ++ be16 l.nextSerial.toNat

/-- One zone slot (R161); the flag byte of a zone without a value is 0, the code of NONE (log 29). -/
def zoneBytes (z : Option Corrected) : List Byte :=
  match z with
  | some c => be16 c.value ++ be8 c.flag.code
  | none => be16 65535 ++ be8 0

/-- A zone slot by its number, zeros beyond the count (R161). -/
def Board.zoneSlot (b : Board) (i : Nat) : List Byte :=
  match b.zones[i]? with
  | some z => zoneBytes z
  | none => List.replicate 3 0

/-- The 46 bytes of a board (R161). -/
def Board.bytes (b : Board) : List Byte :=
  be16 b.serial.toNat ++ be16 (b.charge.getD 0) ++ be24 b.leading.toNat ++ be8 b.state.code
    ++ beByteOr255 (b.cls.map MoistureClass.code) ++ beByteOr255 (b.pattern.map FixedPattern.index) ++ be8 b.flagByte
    ++ [(b.scan.map ScanData.sequence).getD 0] ++ beByteOr255 (b.scan.map ScanData.grade)
    ++ beLength (b.scan.map ScanData.length) ++ beTemp (b.scan.map ScanData.headTemp) ++ beMoisture b.mc
    ++ beMoisture b.mean ++ be8 b.zones.length ++ (List.range 8).flatMap b.zoneSlot

/-- READ_LINE (R161). -/
def serveReadLine (r : Request) (s : State) : Served :=
  if r.args.length ≠ 2 then refuse s .badArgument
  else
    match u8 r.args 0 with
    | 0 => okWith s s.linePage
    | 1 => okWith s s.line.settings.bytes
    | 2 =>
      if 63 < u8 r.args 1 then refuse s .badArgument
      else
        match s.line.queue[u8 r.args 1]? with
        | some b => okWith s b.bytes
        | none => refuse s .notFound
    | _ => refuse s .badArgument

/-- The LINE counters in order (R160). -/
def LineCounters.list (c : LineCounters) : List Nat :=
  [c.opened, c.departed, c.lost, c.reverseEdges, c.scanStale, c.scanUnmatched, c.latePrint]

end Sys2Proof.Machine
end

