-- ==== Sys2Proof/Machine/Stations.lean ====
section
/-! DEFINITION. The station map's write (01 R11 to R13) and what follows a change of it (R17, R41, R183). -/

namespace Sys2Proof.Machine

/-- The role a role code and a kiln byte name; none where WRITE_STATION's checks 3 and 4 fail (R12). -/
def Role.ofCode? (code kiln : Nat) : Option Role :=
  match code with
  | 0 => some .none
  | 1 => some .supervisor
  | 2 => (index? 16 kiln).map .climate
  | 3 => (index? 16 kiln).map .probe
  | 4 => (index? 16 kiln).map .actuator
  | 5 => some .scanner
  | 6 => some .printer
  | _ => Option.none

/-- The side of a code (R12 check 5). -/
def sideOfCode? : Nat → Option PortId
  | 0 => some .a
  | 1 => some .b
  | _ => none

/-- The flag of a code (R12 check 5). -/
def flagOfCode? : Nat → Option Bool
  | 0 => some false
  | 1 => some true
  | _ => none

/-- The five bytes of a station map entry (R13). -/
def Station.bytes (e : Station) : List Byte :=
  be8 e.role.code ++ be8 e.role.kilnCode ++ be8 (sideCode e.side) ++ be8 e.classes.toNat ++ beBool e.notify

/-- A kiln that a role names is not IDLE (R12 check 7). -/
def State.roleBusy (s : State) (r : Role) : Bool :=
  match r.kiln? with
  | some k => (s.kiln k).state != .idle
  | none => false

/-- Check 7 of WRITE_STATION fails: a kiln role of a kiln that is not IDLE would change its station (R12). -/
def State.roleBlocked (s : State) (d : StationId) (r : Role) : Bool :=
  s.stations[d].role != r && (s.roleBusy r || s.roleBusy s.stations[d].role)

/-- An entry that has lost its unique role to another station: its side is kept (R13 part 1). -/
def Station.displaced (e : Station) : Station := { e with role := .none, classes := 0, notify := false }

/-- One station's entry is changed. -/
def State.modStation (d : StationId) (f : Station → Station) (s : State) : State :=
  { s with stations := s.stations.set d (f s.stations[d]) }

/-- An entry is changed where a lookup has found one other than the station written. -/
def State.modOther (found : Option StationId) (d : StationId) (f : Station → Station) (s : State) : State :=
  match found with
  | some h => if h = d then s else s.modStation h f
  | none => s

/-- The map after an accepted WRITE_STATION (R13 parts 1 to 3). -/
def State.writeMap (d : StationId) (e : Station) (s : State) : State :=
  let s1 := if e.role.isUnique then s.modOther (s.holder e.role) d Station.displaced else s
  let s2 := if e.notify then s1.modOther s1.notifyStation d (fun x => { x with notify := false }) else s1
  s2.modStation d (fun _ => e)

/-- A kiln waits with a setpoint on a port. -/
def State.waitsOn (s : State) (p : PortId) (k : KilnId) : Bool := (s.port p).setpointWaiting.contains k

/-- A kiln's waiting setpoint follows its actuator station to another side (R17). -/
def State.followActuator (r : Role) (side : PortId) (s : State) : State :=
  match r with
  | .actuator k => if s.waitsOn (otherPort side) k then (s.withdrawSetpoint k).produceSetpoint k else s
  | _ => s

/-- The effect of an accepted WRITE_STATION: the map, then the setpoint, the head notice and the head label that follow it
(R13, R17, R41, R183). -/
def State.writeStation (d : StationId) (e : Station) (s : State) : State :=
  let t := s.writeMap d e
  (t.followActuator e.role e.side).produceNotices.followPrinter (s.holder .printer) (t.holder .printer)

/-- WRITE_STATION (R12, R13). -/
def serveWriteStation (r : Request) (s : State) : Served :=
  if r.args.length ≠ 6 then refuse s .badArgument
  else
    match index? 255 (u8 r.args 0), Role.ofCode? (u8 r.args 1) (u8 r.args 2), sideOfCode? (u8 r.args 3),
        flagOfCode? (u8 r.args 5) with
    | some d, some role, some side, some notify =>
      if d = s.own then refuse s .badArgument
      else if notify && role != .supervisor then refuse s .badArgument
      else if s.roleBlocked d role then refuse s .wrongState
      else
        let classes := if role = .supervisor then BitVec.ofNat 4 (u8 r.args 4) else 0
        okWith (s.writeStation d ⟨role, side, classes, notify⟩) []
    | _, _, _, _ => refuse s .badArgument

end Sys2Proof.Machine
end

