-- ==== Sys2Proof/Machine/Supervision.lean ====
section
/-! DEFINITION. The supervision unit's own requests and timers (chapter 2): READ_ENTRY, the watchdog, the mill clock and
the counter groups. -/

namespace Sys2Proof.Machine

/-! ## READ_ENTRY (R27) -/

/-- The seven bytes of the watchdog settings (R30). -/
def Watchdog.bytes (w : Watchdog) : List Byte :=
  be16 w.upperWritten ++ be8 w.lowerWritten ++ be16 w.upperInUse ++ be8 w.lowerInUse ++ be8 w.state.code

/-- The content of a table entry, none outside the table list or the table's range (R27). -/
def State.entryBytes (s : State) (table i : Nat) : Option (List Byte) :=
  match table with
  | 0 => (index? 255 i).map (fun d => s.stations[d].bytes)
  | 1 => (index? 16 i).map (fun g => s.species[g].bytes)
  | 2 => (index? 16 i).map (fun k => (s.kiln k).written.bytes)
  | 3 => (index? 16 i).map (fun k => (s.kiln k).actionBytes)
  | 4 => (index? 32 i).map (fun d => s.directoryBytes d)
  | 5 => s.poolBytes i
  | 6 => (index? 6 i).map (fun j => s.line.patterns[j].bytes)
  | 7 => (index? 16 i).map (fun j => s.sortList[j].bytes)
  | 8 => (index? 16 i).map (fun j => s.bins[j].bytes)
  | 9 => (index? 16 i).map (fun j => layoutBytes s.labels.layout[j])
  | 10 => if i = 0 then some s.watchdog.bytes else none
  | _ => none

/-- READ_ENTRY (R27). -/
def serveReadEntry (r : Request) (s : State) : Served :=
  if r.args.length ≠ 3 then refuse s .badArgument
  else
    match s.entryBytes (u8 r.args 0) (u16 r.args 1) with
    | some data => okWith s data
    | none => refuse s .badArgument

/-! ## The watchdog (R30 to R32) -/

/-- WRITE_WATCHDOG (R30). -/
def serveWriteWatchdog (r : Request) (s : State) : Served :=
  if r.args.length ≠ 3 then refuse s .badArgument
  else
    let upper := natField 10 600 (u16 r.args 0)
    let lower := natField 0 60 (u8 r.args 2)
    let lower2 := natField 0 (upper.value - 1) lower.value
    okClampedIf (upper.clamped || lower.clamped || lower2.clamped)
      { s with watchdog := { s.watchdog with upperWritten := upper.value, lowerWritten := lower2.value } } []

/-- The kilns that are not IDLE, which take a SUPERVISOR_LOST detection (R113). -/
def State.busyKilns (s : State) : List KilnId := (List.finRange 16).filter (fun k => (s.kiln k).state != .idle)

/-- The watchdog enters LAPSED: SUPERVISOR_LOST, then the detection in every kiln unit, in an order that nothing fixes
(R32, R113, log 7). -/
def State.lapse (cause : Nat) (s : State) : State :=
  let w := s.watchdog
  let t := { s with watchdog := { w with state := .lapsed, elapsed := 0 } }.raise
    { kind := .supervisorLost, data := be16 w.upperInUse ++ be8 cause }
  ((t.freeOrder t.busyKilns).foldl (fun u k => u.detect false .supervisor k) t).drewFree t.busyKilns.length

/-- The interval restarts under the written limits, and the watchdog is ARMED (R31). -/
def Watchdog.restart (w : Watchdog) : Watchdog :=
  { w with state := .armed, upperInUse := w.upperWritten, lowerInUse := w.lowerWritten, elapsed := 0 }

/-- The interval restarts. -/
def State.restartWatchdog (s : State) : State := { s with watchdog := s.watchdog.restart }

/-- A HEARTBEAT comes before the lower limit in use (R31). -/
def Watchdog.early (w : Watchdog) : Bool := w.state == .armed && w.elapsed < w.lowerInUse

/-- The effect of a HEARTBEAT (R31). -/
def State.heartbeat (station : StationId) (s : State) : State :=
  match s.watchdog.state with
  | .disarmed => s.restartWatchdog
  | .lapsed => s.restartWatchdog.raise { kind := .supervisorBack, data := be8 station.val }
  | .armed => if s.watchdog.early then s.lapse 1 else s.restartWatchdog

/-- The data of every reply to a dispatched HEARTBEAT (R33). -/
def State.heartbeatData (s : State) : List Byte := be8 s.watchdog.state.code ++ be32 s.minutes.toNat

/-- HEARTBEAT (R31, R33). -/
def serveHeartbeat (r : Request) (s : State) : Served :=
  if r.args.length ≠ 0 then ⟨s, .badArgument, s.heartbeatData⟩
  else
    let t := s.heartbeat r.station
    ⟨t, if s.watchdog.early then .tooEarly else .ok, t.heartbeatData⟩

/-- The watchdog interval expires; nothing happens outside ARMED (R32). -/
def State.expireWatchdog (s : State) : State := if s.watchdog.state = .armed then s.lapse 0 else s

/-! ## The mill clock and the minutes since reset (R33, R34) -/

/-- SET_CLOCK (R34). -/
def serveSetClock (r : Request) (s : State) : Served :=
  if r.args.length ≠ 4 then refuse s .badArgument
  else okWith { s with clock := ⟨BitVec.ofNat 32 (u32 r.args 0), true, 0⟩ } []

/-- A minute of the mill clock ends (R34). -/
def State.clockMinute (s : State) : State :=
  { s with clock := { s.clock with value := s.clock.value + 1, phase := 0 } }

/-- A minute since the reset ends (R33). -/
def State.resetMinute (s : State) : State := { s with minutes := s.minutes + 1, minutePhase := 0 }

/-! ## READ_COUNTERS (R19, R36, R160) -/

/-- The port counters in order (R19). -/
def PortCounters.list (c : PortCounters) : List Nat :=
  [c.good, c.checkErrors, c.formatErrors, c.forwarded, c.passDrops, c.loops]

/-- The SUPERVISION counters in order (R36). -/
def SupervisionCounters.list (c : SupervisionCounters) : List Nat :=
  [c.requestsDropped, c.requestsDiscarded, c.noticesDropped]

/-- Counters as two bytes each (R36). -/
def counterBytes (l : List Nat) : List Byte := l.flatMap be16

/-- A port's counters set to 0. -/
def State.clearPort (p : PortId) (s : State) : State := s.modPort p (fun q => { q with counters := {} })

/-- READ_COUNTERS (R36): the group's counters, which are set to 0 in the same step. -/
def serveReadCounters (r : Request) (s : State) : Served :=
  if r.args.length ≠ 1 then refuse s .badArgument
  else
    match u8 r.args 0 with
    | 0 => okWith (s.clearPort .a) (counterBytes s.portA.counters.list)
    | 1 => okWith (s.clearPort .b) (counterBytes s.portB.counters.list)
    | 2 => okWith { s with supervision := {} } (counterBytes s.supervision.list)
    | 3 => okWith (s.modLine (fun l => { l with counters := {} })) (counterBytes s.line.counters.list)
    | _ => refuse s .badArgument

end Sys2Proof.Machine
end

