-- ==== Sys2Proof/Machine/Serve.lean ====
section
/-! DEFINITION. The request queue and serving (02 R21 to R26): the catalogue, the permission check, dispatch, the reply, and
admission. -/

namespace Sys2Proof.Machine

/-- The four request classes (R12, R26). -/
inductive ReqClass where
  | read
  | operate
  | schedule
  | configure
  deriving DecidableEq, Repr

/-- A class's bit in a class mask: READ 1, OPERATE 2, SCHEDULE 4, CONFIGURE 8 (R12). -/
def ReqClass.bit : ReqClass → Nat
  | .read => 0
  | .operate => 1
  | .schedule => 2
  | .configure => 3

/-- The requests of the catalogue (R26). -/
inductive ReqKind where
  | readKiln
  | readCharge
  | readPackLog
  | readLot
  | readEntry
  | readLine
  | readCounters
  | heartbeat
  | setClock
  | loadCharge
  | startKiln
  | override
  | resume
  | stop
  | restart
  | unload
  | planerFeed
  | releaseCharge
  | closePack
  | lineReset
  | editOpen
  | editHeader
  | editStep
  | editCommit
  | editAbort
  | entryDelete
  | writeStation
  | writeSpecies
  | writeKilnLimits
  | writeFaultActions
  | writeWatchdog
  | writeLine
  | writeMark
  | writeSort
  | writeBin
  | writeLabelField
  | setPackBase
  deriving DecidableEq, Repr

/-- The kind codes (R26). -/
def ReqKind.code : ReqKind → Byte
  | .readKiln => 0x01#8
  | .readCharge => 0x02#8
  | .readPackLog => 0x03#8
  | .readLot => 0x04#8
  | .readEntry => 0x05#8
  | .readLine => 0x06#8
  | .readCounters => 0x07#8
  | .heartbeat => 0x10#8
  | .setClock => 0x11#8
  | .loadCharge => 0x12#8
  | .startKiln => 0x13#8
  | .override => 0x14#8
  | .resume => 0x15#8
  | .stop => 0x16#8
  | .restart => 0x17#8
  | .unload => 0x18#8
  | .planerFeed => 0x19#8
  | .releaseCharge => 0x1A#8
  | .closePack => 0x1B#8
  | .lineReset => 0x1C#8
  | .editOpen => 0x20#8
  | .editHeader => 0x21#8
  | .editStep => 0x22#8
  | .editCommit => 0x23#8
  | .editAbort => 0x24#8
  | .entryDelete => 0x25#8
  | .writeStation => 0x30#8
  | .writeSpecies => 0x31#8
  | .writeKilnLimits => 0x32#8
  | .writeFaultActions => 0x33#8
  | .writeWatchdog => 0x34#8
  | .writeLine => 0x35#8
  | .writeMark => 0x36#8
  | .writeSort => 0x37#8
  | .writeBin => 0x38#8
  | .writeLabelField => 0x39#8
  | .setPackBase => 0x3A#8

/-- The requests in the order of the catalogue (R26). -/
def ReqKind.all : List ReqKind :=
  [.readKiln, .readCharge, .readPackLog, .readLot, .readEntry, .readLine,
    .readCounters, .heartbeat, .setClock, .loadCharge, .startKiln, .override,
    .resume, .stop, .restart, .unload, .planerFeed, .releaseCharge,
    .closePack, .lineReset, .editOpen, .editHeader, .editStep, .editCommit,
    .editAbort, .entryDelete, .writeStation, .writeSpecies, .writeKilnLimits, .writeFaultActions,
    .writeWatchdog, .writeLine, .writeMark, .writeSort, .writeBin, .writeLabelField,
    .setPackBase]

/-- The request of a kind code; none outside the catalogue (R23 check 1, R26). -/
def ReqKind.ofByte (b : Byte) : Option ReqKind := ReqKind.all.find? (fun k => k.code == b)

/-- The classes of the catalogue (R26). -/
def ReqKind.cls : ReqKind → ReqClass
  | .readKiln => .read
  | .readCharge => .read
  | .readPackLog => .read
  | .readLot => .read
  | .readEntry => .read
  | .readLine => .read
  | .readCounters => .read
  | .heartbeat => .operate
  | .setClock => .operate
  | .loadCharge => .operate
  | .startKiln => .operate
  | .override => .operate
  | .resume => .operate
  | .stop => .operate
  | .restart => .operate
  | .unload => .operate
  | .planerFeed => .operate
  | .releaseCharge => .operate
  | .closePack => .operate
  | .lineReset => .operate
  | .editOpen => .schedule
  | .editHeader => .schedule
  | .editStep => .schedule
  | .editCommit => .schedule
  | .editAbort => .schedule
  | .entryDelete => .schedule
  | .writeStation => .configure
  | .writeSpecies => .configure
  | .writeKilnLimits => .configure
  | .writeFaultActions => .configure
  | .writeWatchdog => .configure
  | .writeLine => .configure
  | .writeMark => .configure
  | .writeSort => .configure
  | .writeBin => .configure
  | .writeLabelField => .configure
  | .setPackBase => .configure

/-- The owner serves a request: its checks, its effect, its result and its reply data (R23, R26). -/
def serve (k : ReqKind) (r : Request) (s : State) : Served :=
  match k with
  | .readKiln => serveReadKiln r s
  | .readCharge => serveReadCharge r s
  | .readPackLog => serveReadPackLog r s
  | .readLot => serveReadLot r s
  | .readEntry => serveReadEntry r s
  | .readLine => serveReadLine r s
  | .readCounters => serveReadCounters r s
  | .heartbeat => serveHeartbeat r s
  | .setClock => serveSetClock r s
  | .loadCharge => serveLoadCharge r s
  | .startKiln => serveStartKiln r s
  | .override => serveOverride r s
  | .resume => serveResume r s
  | .stop => serveStop r s
  | .restart => serveRestart r s
  | .unload => serveUnload r s
  | .planerFeed => servePlanerFeed r s
  | .releaseCharge => serveReleaseCharge r s
  | .closePack => serveClosePack r s
  | .lineReset => serveLineReset r s
  | .editOpen => serveEditOpen r s
  | .editHeader => serveEditHeader r s
  | .editStep => serveEditStep r s
  | .editCommit => serveEditCommit r s
  | .editAbort => serveEditAbort r s
  | .entryDelete => serveEntryDelete r s
  | .writeStation => serveWriteStation r s
  | .writeSpecies => serveWriteSpecies r s
  | .writeKilnLimits => serveWriteKilnLimits r s
  | .writeFaultActions => serveWriteFaultActions r s
  | .writeWatchdog => serveWriteWatchdog r s
  | .writeLine => serveWriteLine r s
  | .writeMark => serveWriteMark r s
  | .writeSort => serveWriteSort r s
  | .writeBin => serveWriteBin r s
  | .writeLabelField => serveWriteLabelField r s
  | .setPackBase => serveSetPackBase r s

/-! ## Serving the head request (R23, R24) -/

/-- The station's classes include a class: all four while the map is open; the station's mask where it holds SUPERVISOR;
none otherwise (R23). -/
def State.permits (s : State) (d : StationId) (c : ReqClass) : Bool :=
  s.mapOpen || (s.isSupervisor d && s.stations[d].classes.getLsbD c.bit)

/-- A request judged by the two checks and served by its owner (R23). -/
def State.judge (s : State) (r : Request) : Served :=
  match ReqKind.ofByte r.kind with
  | none => refuse s .unknownRequest
  | some k => if s.permits r.station k.cls then serve k r s else refuse s .notPermitted

/-- The payload of a REPLY (R3, R24, R25). -/
def replyPayload (r : Request) (v : Served) : List Byte := [r.kind, r.tag] ++ be8 v.result.code ++ v.data

/-- The port of a REPLY: the requester's side where it holds SUPERVISOR, else the port of arrival (R14). -/
def State.replyPort (s : State) (r : Request) : PortId :=
  if s.isSupervisor r.station then s.stations[r.station].side else r.port

/-- The reply is built from the map as the request has left it, goes into the slot, and is produced (R24). -/
def answer (r : Request) (v : Served) : State :=
  { v.st with replySlot := some ⟨v.st.replyPort r, r.station, replyPayload r v⟩ }.produceReply

/-- A request is served and answered (R23, R24). -/
def State.serveRequest (r : Request) (s : State) : State := answer r (s.judge r)

/-- The head request is served while the slot is empty, one after the other (R23, R24). -/
def drainFuel : Nat → State → State
  | 0, s => s
  | fuel + 1, s =>
    match s.replySlot, s.requests with
    | none, r :: rest => drainFuel fuel ({ s with requests := rest }.serveRequest r)
    | _, _ => s

/-- The waiting requests that can be served are served (R24). -/
def State.drain (s : State) : State := drainFuel s.requests.length s

/-! ## Admission (R21) -/

/-- The station's role, or an open map, admits a request (R21). -/
def State.admits (s : State) (d : StationId) : Bool := s.isSupervisor d || s.mapOpen

/-- A request taken in: admitted and served as soon as it can be, dropped at a full queue, or discarded (R21, R23). -/
def State.takeIn (r : Request) (s : State) : State :=
  if s.admits r.station then
    if s.requests.length < Config.requestCapacity then { s with requests := s.requests ++ [r] }.drain
    else { s with supervision := { s.supervision with requestsDropped := bump16 s.supervision.requestsDropped } }
  else { s with supervision := { s.supervision with requestsDiscarded := bump16 s.supervision.requestsDiscarded } }

end Sys2Proof.Machine
end

