-- ==== Sys2Proof/Machine/Link.lean ====
section
/-! DEFINITION. The link unit (chapter 1): reception, frame checks, forwarding, delivery, and the transmit arbiter. -/

namespace Sys2Proof.Machine

/-! ## Frame checks (R2) -/

/-- A received run's payload length byte. -/
def payloadLength (run : List Byte) : Nat := u8 run 5

/-- A received run's payload. -/
def payloadOf (run : List Byte) : List Byte := (run.drop 6).take (payloadLength run)

/-- Check 1: length byte, source byte and byte count (R2). -/
def formatOk (run : List Byte) : Bool :=
  payloadLength run ≤ 56 && u8 run 2 ≤ 254 && run.length == 8 + payloadLength run

/-- Check 2: the two bytes after the payload (R2). -/
def checkOk (run : List Byte) : Bool :=
  u16 run (6 + payloadLength run) == (crc16 ((run.drop 1).take (5 + payloadLength run))).toNat

/-! ## Counters (R19) -/

/-- A port's counters are changed. -/
def State.count (p : PortId) (f : PortCounters → PortCounters) (s : State) : State :=
  s.modPort p (fun q => { q with counters := f q.counters })

/-- A telegram is counted good (R2). -/
def PortCounters.addGood (c : PortCounters) : PortCounters := { c with good := bump16 c.good }
/-- A telegram is counted in the check errors (R2). -/
def PortCounters.addCheck (c : PortCounters) : PortCounters := { c with checkErrors := bump16 c.checkErrors }
/-- A telegram is counted in the format errors (R2, R5). -/
def PortCounters.addFormat (c : PortCounters) : PortCounters := { c with formatErrors := bump16 c.formatErrors }
/-- A telegram is counted in the loops (R2). -/
def PortCounters.addLoop (c : PortCounters) : PortCounters := { c with loops := bump16 c.loops }
/-- A telegram is counted as forwarded (R6). -/
def PortCounters.addForwarded (c : PortCounters) : PortCounters := { c with forwarded := bump16 c.forwarded }
/-- A telegram is counted in the pass drops (R6). -/
def PortCounters.addDrop (c : PortCounters) : PortCounters := { c with passDrops := bump16 c.passDrops }

/-! ## Forwarding (R6) -/

/-- A good telegram is placed in the opposite pass queue, or dropped where that is full; one addressed to the part is
consumed (R6). -/
def State.forward (p : PortId) (run : List Byte) (s : State) : State :=
  if u8 run 1 = s.own.val then s
  else if (s.port (otherPort p)).passQueue.length < Config.passCapacity then
    (s.modPort (otherPort p) (fun q => { q with passQueue := q.passQueue ++ [run] })).count p PortCounters.addForwarded
  else s.count p PortCounters.addDrop

/-! ## Delivery (R5, R9, R10) -/

/-- A telegram is acted on where it fits its payload layout, and counted in the format errors otherwise (R5). -/
def State.actIf (p : PortId) (fits : Bool) (act : State → State) (s : State) : State :=
  if fits then act s else s.count p PortCounters.addFormat

/-- The PROBE layout: c in 1..12 and n = 1 + 4c (R5). -/
def probeFits (x : List Byte) : Bool := 1 ≤ u8 x 0 && u8 x 0 ≤ 12 && x.length == 1 + 4 * u8 x 0

/-- The BOARD layout: z in 1..8 and n = 7 + 2z (R5). -/
def boardFits (x : List Byte) : Bool := 1 ≤ u8 x 6 && u8 x 6 ≤ 8 && x.length == 7 + 2 * u8 x 6

/-- The request of a REQUEST payload (R3, section 2.1). -/
def requestOf (p : PortId) (source : StationId) (x : List Byte) : Request :=
  ⟨x.getD 0 0, x.getD 1 0, x.drop 2, source, p⟩

/-- A REQUEST is taken in: addressed to the part, or broadcast by a supervisor or into an open map (R10). -/
def State.takesRequest (s : State) (source : StationId) (dest : Nat) : Bool :=
  dest == s.own.val || (dest == 255 && s.admits source)

/-- A CLIMATE telegram is delivered to the kiln of its source's role (R9). -/
def State.deliverClimate (p : PortId) (source : StationId) (x : List Byte) (s : State) : State :=
  match s.stations[source].role with
  | .climate k => s.actIf p (x.length == 5) (State.climateArrival k x)
  | _ => s

/-- A PROBE telegram is delivered to the kiln of its source's role (R9). -/
def State.deliverProbe (p : PortId) (source : StationId) (x : List Byte) (s : State) : State :=
  match s.stations[source].role with
  | .probe k => s.actIf p (probeFits x) (State.probeArrival k x)
  | _ => s

/-- A BOARD telegram is delivered to the line tracker where its source holds SCANNER (R9). -/
def State.deliverBoard (p : PortId) (source : StationId) (x : List Byte) (s : State) : State :=
  if s.stations[source].role = .scanner then s.actIf p (boardFits x) (State.scanArrival x) else s

/-- A PRINT_DONE addressed to the part is taken in where its source holds PRINTER (R10). -/
def State.deliverPrintDone (p : PortId) (source : StationId) (dest : Nat) (x : List Byte) (s : State) : State :=
  if dest = s.own.val ∧ s.stations[source].role = .printer then s.actIf p (x.length == 5) (State.printDone x) else s

/-- A REQUEST is handed to the supervision unit (R10). -/
def State.deliverRequest (p : PortId) (source : StationId) (dest : Nat) (x : List Byte) (s : State) : State :=
  if s.takesRequest source dest then s.actIf p (2 ≤ x.length) (State.takeIn (requestOf p source x)) else s

/-- A good telegram is acted on by its kind; other kinds are not acted on (R9, R10). -/
def State.deliver (p : PortId) (source : StationId) (run : List Byte) (s : State) : State :=
  let kind : Byte := run.getD 3 0
  let x := payloadOf run
  if kind = kindClimate then s.deliverClimate p source x
  else if kind = kindProbe then s.deliverProbe p source x
  else if kind = kindBoard then s.deliverBoard p source x
  else if kind = kindPrintDone then s.deliverPrintDone p source (u8 run 1) x
  else if kind = kindRequest then s.deliverRequest p source (u8 run 1) x
  else s

/-- The three frame checks, and what a good telegram brings about (R2, R6). It is forwarded and counted before it is acted on, so
before the read that a broadcast READ_COUNTERS carries (log 31). -/
def State.checkTelegram (p : PortId) (run : List Byte) (s : State) : State :=
  if !formatOk run then s.count p PortCounters.addFormat
  else if !checkOk run then s.count p PortCounters.addCheck
  else
    match index? 255 (u8 run 2) with
    | none => s.count p PortCounters.addFormat
    | some source =>
      if source = s.own then s.count p PortCounters.addLoop
      else ((s.count p PortCounters.addGood).forward p run).deliver p source run

/-! ## Reception (R1) -/

/-- A run starts a telegram: the start byte after at least three idle byte times (R1). -/
def startsTelegram (idle : Nat) (run : List Byte) : Bool := 3 ≤ idle && run.head? == some startByte

/-- A port's receive buffer takes the bytes. -/
def State.setBuffer (p : PortId) (bytes : List Byte) (s : State) : State := s.modPort p (fun q => { q with rxBuffer := bytes })

/-- A run of bytes has ended: ignored where it starts no telegram; else gathered, at most 64 bytes of it stored, checked,
and the buffer freed (R1, log 13). -/
def State.receive (p : PortId) (idle : Nat) (run : List Byte) (s : State) : State :=
  if startsTelegram idle run then ((s.setBuffer p (run.take Config.bufferSize)).checkTelegram p run).setBuffer p []
  else s

/-! ## The transmit arbiter (R18, R16) -/

/-- The queue named by the turn where it is not empty, else the other, else none (R18). -/
def Port.nextQueue (q : Port) : Option QueueName :=
  match q.turn with
  | .pass => if !q.passQueue.isEmpty then some .pass else if !q.localQueue.isEmpty then some .loc else none
  | .loc => if !q.localQueue.isEmpty then some .loc else if !q.passQueue.isEmpty then some .pass else none

/-- An idle transmitter may start, at least three idle byte times after its last telegram (R18). -/
def State.startSending (p : PortId) (idle : Nat) (s : State) : State :=
  if (s.port p).sending.isNone && 3 ≤ idle then s.modPort p (fun q => { q with sending := q.nextQueue }) else s

/-- A telegram is the final row of a label (R184). -/
def isFinalRow (t : List Byte) : Bool := t.getD 3 0 == kindLabelRow && u8 t 11 == 1

/-- The head label waits for its final row's transmission (R184). -/
def LabelUnit.awaitsFinal (u : LabelUnit) : Bool := u.head == some .sending && u.nextRow == 8

/-- The completed telegram is the head label's final row. -/
def State.completesLabel (p : PortId) (s : State) : Bool :=
  match (s.port p).localQueue with
  | t :: _ => isFinalRow t && s.labels.awaitsFinal
  | [] => false

/-- The report of a final row to the label unit (R184). -/
def State.reportRow (final : Bool) (s : State) : State := if final then s.awaitPrint else s

/-- The report of a final row, and the serving of requests that waited behind the reply just placed; where both happen at
one moment nothing fixes their order (R188, log 12). -/
def State.afterOffer (final : Bool) (s : State) : State :=
  if final && !s.requests.isEmpty && s.replySlot.isNone then
    if Config.freeChoice s.freeCount % 2 = 0 then (s.drewFree 1).awaitPrint.drain else (s.drewFree 1).drain.awaitPrint
  else (s.reportRow final).drain

/-- A transmission completes: the entry is freed and offered, and the turn names the other queue (R7, R16, R18). -/
def State.completeSending (p : PortId) (s : State) : State :=
  match (s.port p).sending with
  | none => s
  | some .pass => s.modPort p (fun q => { q with passQueue := q.passQueue.tail, sending := none, turn := .loc })
  | some .loc =>
    ((s.modPort p (fun q => { q with localQueue := q.localQueue.tail, sending := none, turn := .pass })).offer p).afterOffer
      (s.completesLabel p)

end Sys2Proof.Machine
end

