-- ==== Sys2Proof/Machine/Events.lean ====
section
/-! DEFINITION. The meanings of the thirteen events. An event that cannot happen in the present state (a leading edge while
the eye is BLOCKED, the expiry of a timer that is stopped) changes nothing (log 4); an expiry is the moment its count reaches
the limit (log 3). -/

namespace Sys2Proof.Machine

/-- DEVICE_RESET (R20 and the reset rules of every block): the part right after reset with the levels sampled; the commands
that wait outside the part and the free-value counter are kept (log 17). -/
def execDeviceReset (straps : Byte) (eye encA encB : Bool) (s : State) : Host.Outcome State Fault Refusal :=
  .next { State.afterReset straps eye encA encB with pending := s.pending, freeCount := s.freeCount }

/-- TELEGRAM_RECEPTION (R1, R2, R5, R6, R9, R10). -/
def execTelegramReception (port : PortId) (idle : Nat) (run : List Byte) (s : State) : Host.Outcome State Fault Refusal :=
  .next (s.receive port idle run)

/-- TRANSMIT_START (R18). -/
def execTransmitStart (port : PortId) (idle : Nat) (s : State) : Host.Outcome State Fault Refusal :=
  .next (s.startSending port idle)

/-- TRANSMISSION_COMPLETE (R7, R16, R18, R184). -/
def execTransmissionComplete (port : PortId) (s : State) : Host.Outcome State Fault Refusal :=
  .next (s.completeSending port)

/-- ENCODER_COUNT (R139, R150 to R153). -/
def execEncoderCount (encA encB : Bool) (s : State) : Host.Outcome State Fault Refusal := .next (s.encoderChange encA encB)

/-- LEADING_EDGE (R140, R142, R143). -/
def execLeadingEdge (s : State) : Host.Outcome State Fault Refusal := .next s.leadingEdge

/-- TRAILING_EDGE (R140, R144). -/
def execTrailingEdge (s : State) : Host.Outcome State Fault Refusal := .next s.trailingEdge

/-- KILN_MINUTE_EXPIRY (R87, R88). -/
def execKilnMinuteExpiry (kiln : KilnId) (s : State) : Host.Outcome State Fault Refusal :=
  .next (if (s.kiln kiln).state = .idle then s else s.kilnMinute kiln)

/-- WATCHDOG_EXPIRY (R32). -/
def execWatchdogExpiry (s : State) : Host.Outcome State Fault Refusal := .next s.expireWatchdog

/-- EDIT_EXPIRY (R71). -/
def execEditExpiry (s : State) : Host.Outcome State Fault Refusal := .next s.expireEdit

/-- LABEL_TIMEOUT (R186). -/
def execLabelTimeout (s : State) : Host.Outcome State Fault Refusal := .next s.labelTimeout

/-- MILL_CLOCK_MINUTE (R34). -/
def execMillClockMinute (s : State) : Host.Outcome State Fault Refusal := .next s.clockMinute

/-- RESET_MINUTE_COUNT (R33). -/
def execResetMinuteCount (s : State) : Host.Outcome State Fault Refusal := .next s.resetMinute

end Sys2Proof.Machine
end

