-- ==== Sys2Proof/Machine/Requests.lean ====
section
/-! DEFINITION. The meanings of the request rows: the request is taken in by the supervision unit, admitted, and served when
it is the head and the reply slot is empty (R21, R23, R24, log 1). What serving does is in `serve` of Serve.lean. -/

namespace Sys2Proof.Machine

/-- The request of a catalogue kind. -/
def requestFor (k : ReqKind) (station : StationId) (port : PortId) (tag : Byte) (args : List Byte) : Request :=
  ⟨k.code, tag, args, station, port⟩

/-- The request that a request row brings; none for the events (R10, log 1). -/
def requestOfCommand (i : Instr) : Option Request :=
  match i with
  | .deviceReset _ _ _ _ => none
  | .telegramReception _ _ _ => none
  | .transmitStart _ _ => none
  | .transmissionComplete _ => none
  | .encoderCount _ _ => none
  | .leadingEdge => none
  | .trailingEdge => none
  | .kilnMinuteExpiry _ => none
  | .watchdogExpiry => none
  | .editExpiry => none
  | .labelTimeout => none
  | .millClockMinute => none
  | .resetMinuteCount => none
  | .unknownRequest kind station port tag args => some ⟨kind, tag, args, station, port⟩
  | .readKiln station port tag args => some (requestFor .readKiln station port tag args)
  | .readCharge station port tag args => some (requestFor .readCharge station port tag args)
  | .readPackLog station port tag args => some (requestFor .readPackLog station port tag args)
  | .readLot station port tag args => some (requestFor .readLot station port tag args)
  | .readEntry station port tag args => some (requestFor .readEntry station port tag args)
  | .readLine station port tag args => some (requestFor .readLine station port tag args)
  | .readCounters station port tag args => some (requestFor .readCounters station port tag args)
  | .heartbeat station port tag args => some (requestFor .heartbeat station port tag args)
  | .setClock station port tag args => some (requestFor .setClock station port tag args)
  | .loadCharge station port tag args => some (requestFor .loadCharge station port tag args)
  | .startKiln station port tag args => some (requestFor .startKiln station port tag args)
  | .override station port tag args => some (requestFor .override station port tag args)
  | .resume station port tag args => some (requestFor .resume station port tag args)
  | .stop station port tag args => some (requestFor .stop station port tag args)
  | .restart station port tag args => some (requestFor .restart station port tag args)
  | .unload station port tag args => some (requestFor .unload station port tag args)
  | .planerFeed station port tag args => some (requestFor .planerFeed station port tag args)
  | .releaseCharge station port tag args => some (requestFor .releaseCharge station port tag args)
  | .closePack station port tag args => some (requestFor .closePack station port tag args)
  | .lineReset station port tag args => some (requestFor .lineReset station port tag args)
  | .editOpen station port tag args => some (requestFor .editOpen station port tag args)
  | .editHeader station port tag args => some (requestFor .editHeader station port tag args)
  | .editStep station port tag args => some (requestFor .editStep station port tag args)
  | .editCommit station port tag args => some (requestFor .editCommit station port tag args)
  | .editAbort station port tag args => some (requestFor .editAbort station port tag args)
  | .entryDelete station port tag args => some (requestFor .entryDelete station port tag args)
  | .writeStation station port tag args => some (requestFor .writeStation station port tag args)
  | .writeSpecies station port tag args => some (requestFor .writeSpecies station port tag args)
  | .writeKilnLimits station port tag args => some (requestFor .writeKilnLimits station port tag args)
  | .writeFaultActions station port tag args => some (requestFor .writeFaultActions station port tag args)
  | .writeWatchdog station port tag args => some (requestFor .writeWatchdog station port tag args)
  | .writeLine station port tag args => some (requestFor .writeLine station port tag args)
  | .writeMark station port tag args => some (requestFor .writeMark station port tag args)
  | .writeSort station port tag args => some (requestFor .writeSort station port tag args)
  | .writeBin station port tag args => some (requestFor .writeBin station port tag args)
  | .writeLabelField station port tag args => some (requestFor .writeLabelField station port tag args)
  | .setPackBase station port tag args => some (requestFor .setPackBase station port tag args)

/-- UNKNOWN_REQUEST: a request of a kind outside the catalogue (R23 check 1, R25). -/
def execUnknownRequest (kind : Byte) (station : StationId) (port : PortId) (tag : Byte) (args : List Byte) (s : State) :
    Host.Outcome State Fault Refusal :=
  .next (s.takeIn ⟨kind, tag, args, station, port⟩)

/-- READ_KILN (R103). -/
def execReadKiln (station : StationId) (port : PortId) (tag : Byte) (args : List Byte) (s : State) :
    Host.Outcome State Fault Refusal :=
  .next (s.takeIn (requestFor .readKiln station port tag args))

/-- READ_CHARGE (R136). -/
def execReadCharge (station : StationId) (port : PortId) (tag : Byte) (args : List Byte) (s : State) :
    Host.Outcome State Fault Refusal :=
  .next (s.takeIn (requestFor .readCharge station port tag args))

/-- READ_PACK_LOG (R175). -/
def execReadPackLog (station : StationId) (port : PortId) (tag : Byte) (args : List Byte) (s : State) :
    Host.Outcome State Fault Refusal :=
  .next (s.takeIn (requestFor .readPackLog station port tag args))

/-- READ_LOT (R174). -/
def execReadLot (station : StationId) (port : PortId) (tag : Byte) (args : List Byte) (s : State) :
    Host.Outcome State Fault Refusal :=
  .next (s.takeIn (requestFor .readLot station port tag args))

/-- READ_ENTRY (R27). -/
def execReadEntry (station : StationId) (port : PortId) (tag : Byte) (args : List Byte) (s : State) :
    Host.Outcome State Fault Refusal :=
  .next (s.takeIn (requestFor .readEntry station port tag args))

/-- READ_LINE (R161). -/
def execReadLine (station : StationId) (port : PortId) (tag : Byte) (args : List Byte) (s : State) :
    Host.Outcome State Fault Refusal :=
  .next (s.takeIn (requestFor .readLine station port tag args))

/-- READ_COUNTERS (R36). -/
def execReadCounters (station : StationId) (port : PortId) (tag : Byte) (args : List Byte) (s : State) :
    Host.Outcome State Fault Refusal :=
  .next (s.takeIn (requestFor .readCounters station port tag args))

/-- HEARTBEAT (R31). -/
def execHeartbeat (station : StationId) (port : PortId) (tag : Byte) (args : List Byte) (s : State) :
    Host.Outcome State Fault Refusal :=
  .next (s.takeIn (requestFor .heartbeat station port tag args))

/-- SET_CLOCK (R34). -/
def execSetClock (station : StationId) (port : PortId) (tag : Byte) (args : List Byte) (s : State) :
    Host.Outcome State Fault Refusal :=
  .next (s.takeIn (requestFor .setClock station port tag args))

/-- LOAD_CHARGE (R82). -/
def execLoadCharge (station : StationId) (port : PortId) (tag : Byte) (args : List Byte) (s : State) :
    Host.Outcome State Fault Refusal :=
  .next (s.takeIn (requestFor .loadCharge station port tag args))

/-- START_KILN (R86). -/
def execStartKiln (station : StationId) (port : PortId) (tag : Byte) (args : List Byte) (s : State) :
    Host.Outcome State Fault Refusal :=
  .next (s.takeIn (requestFor .startKiln station port tag args))

/-- OVERRIDE (R106). -/
def execOverride (station : StationId) (port : PortId) (tag : Byte) (args : List Byte) (s : State) :
    Host.Outcome State Fault Refusal :=
  .next (s.takeIn (requestFor .override station port tag args))

/-- RESUME (R107). -/
def execResume (station : StationId) (port : PortId) (tag : Byte) (args : List Byte) (s : State) :
    Host.Outcome State Fault Refusal :=
  .next (s.takeIn (requestFor .resume station port tag args))

/-- STOP (R119). -/
def execStop (station : StationId) (port : PortId) (tag : Byte) (args : List Byte) (s : State) :
    Host.Outcome State Fault Refusal :=
  .next (s.takeIn (requestFor .stop station port tag args))

/-- RESTART (R121). -/
def execRestart (station : StationId) (port : PortId) (tag : Byte) (args : List Byte) (s : State) :
    Host.Outcome State Fault Refusal :=
  .next (s.takeIn (requestFor .restart station port tag args))

/-- UNLOAD (R102). -/
def execUnload (station : StationId) (port : PortId) (tag : Byte) (args : List Byte) (s : State) :
    Host.Outcome State Fault Refusal :=
  .next (s.takeIn (requestFor .unload station port tag args))

/-- PLANER_FEED (R130). -/
def execPlanerFeed (station : StationId) (port : PortId) (tag : Byte) (args : List Byte) (s : State) :
    Host.Outcome State Fault Refusal :=
  .next (s.takeIn (requestFor .planerFeed station port tag args))

/-- RELEASE_CHARGE (R132). -/
def execReleaseCharge (station : StationId) (port : PortId) (tag : Byte) (args : List Byte) (s : State) :
    Host.Outcome State Fault Refusal :=
  .next (s.takeIn (requestFor .releaseCharge station port tag args))

/-- CLOSE_PACK (R169). -/
def execClosePack (station : StationId) (port : PortId) (tag : Byte) (args : List Byte) (s : State) :
    Host.Outcome State Fault Refusal :=
  .next (s.takeIn (requestFor .closePack station port tag args))

/-- LINE_RESET (R159). -/
def execLineReset (station : StationId) (port : PortId) (tag : Byte) (args : List Byte) (s : State) :
    Host.Outcome State Fault Refusal :=
  .next (s.takeIn (requestFor .lineReset station port tag args))

/-- EDIT_OPEN (R65). -/
def execEditOpen (station : StationId) (port : PortId) (tag : Byte) (args : List Byte) (s : State) :
    Host.Outcome State Fault Refusal :=
  .next (s.takeIn (requestFor .editOpen station port tag args))

/-- EDIT_HEADER (R66). -/
def execEditHeader (station : StationId) (port : PortId) (tag : Byte) (args : List Byte) (s : State) :
    Host.Outcome State Fault Refusal :=
  .next (s.takeIn (requestFor .editHeader station port tag args))

/-- EDIT_STEP (R67). -/
def execEditStep (station : StationId) (port : PortId) (tag : Byte) (args : List Byte) (s : State) :
    Host.Outcome State Fault Refusal :=
  .next (s.takeIn (requestFor .editStep station port tag args))

/-- EDIT_COMMIT (R69). -/
def execEditCommit (station : StationId) (port : PortId) (tag : Byte) (args : List Byte) (s : State) :
    Host.Outcome State Fault Refusal :=
  .next (s.takeIn (requestFor .editCommit station port tag args))

/-- EDIT_ABORT (R68). -/
def execEditAbort (station : StationId) (port : PortId) (tag : Byte) (args : List Byte) (s : State) :
    Host.Outcome State Fault Refusal :=
  .next (s.takeIn (requestFor .editAbort station port tag args))

/-- ENTRY_DELETE (R73). -/
def execEntryDelete (station : StationId) (port : PortId) (tag : Byte) (args : List Byte) (s : State) :
    Host.Outcome State Fault Refusal :=
  .next (s.takeIn (requestFor .entryDelete station port tag args))

/-- WRITE_STATION (R12). -/
def execWriteStation (station : StationId) (port : PortId) (tag : Byte) (args : List Byte) (s : State) :
    Host.Outcome State Fault Refusal :=
  .next (s.takeIn (requestFor .writeStation station port tag args))

/-- WRITE_SPECIES (R45). -/
def execWriteSpecies (station : StationId) (port : PortId) (tag : Byte) (args : List Byte) (s : State) :
    Host.Outcome State Fault Refusal :=
  .next (s.takeIn (requestFor .writeSpecies station port tag args))

/-- WRITE_KILN_LIMITS (R79). -/
def execWriteKilnLimits (station : StationId) (port : PortId) (tag : Byte) (args : List Byte) (s : State) :
    Host.Outcome State Fault Refusal :=
  .next (s.takeIn (requestFor .writeKilnLimits station port tag args))

/-- WRITE_FAULT_ACTIONS (R115). -/
def execWriteFaultActions (station : StationId) (port : PortId) (tag : Byte) (args : List Byte) (s : State) :
    Host.Outcome State Fault Refusal :=
  .next (s.takeIn (requestFor .writeFaultActions station port tag args))

/-- WRITE_WATCHDOG (R30). -/
def execWriteWatchdog (station : StationId) (port : PortId) (tag : Byte) (args : List Byte) (s : State) :
    Host.Outcome State Fault Refusal :=
  .next (s.takeIn (requestFor .writeWatchdog station port tag args))

/-- WRITE_LINE (R158). -/
def execWriteLine (station : StationId) (port : PortId) (tag : Byte) (args : List Byte) (s : State) :
    Host.Outcome State Fault Refusal :=
  .next (s.takeIn (requestFor .writeLine station port tag args))

/-- WRITE_MARK (R149). -/
def execWriteMark (station : StationId) (port : PortId) (tag : Byte) (args : List Byte) (s : State) :
    Host.Outcome State Fault Refusal :=
  .next (s.takeIn (requestFor .writeMark station port tag args))

/-- WRITE_SORT (R162). -/
def execWriteSort (station : StationId) (port : PortId) (tag : Byte) (args : List Byte) (s : State) :
    Host.Outcome State Fault Refusal :=
  .next (s.takeIn (requestFor .writeSort station port tag args))

/-- WRITE_BIN (R164). -/
def execWriteBin (station : StationId) (port : PortId) (tag : Byte) (args : List Byte) (s : State) :
    Host.Outcome State Fault Refusal :=
  .next (s.takeIn (requestFor .writeBin station port tag args))

/-- WRITE_LABEL_FIELD (R178). -/
def execWriteLabelField (station : StationId) (port : PortId) (tag : Byte) (args : List Byte) (s : State) :
    Host.Outcome State Fault Refusal :=
  .next (s.takeIn (requestFor .writeLabelField station port tag args))

/-- SET_PACK_BASE (R165). -/
def execSetPackBase (station : StationId) (port : PortId) (tag : Byte) (args : List Byte) (s : State) :
    Host.Outcome State Fault Refusal :=
  .next (s.takeIn (requestFor .setPackBase station port tag args))

end Sys2Proof.Machine
end

