-- ==== Sys2Proof/Machine/Dispatch.lean ====
section
/-! DEFINITION. One arm per command, each a direct call of its meaning. -/

namespace Sys2Proof.Machine

/-- The effect of a command on everything but the queue. -/
def exec (i : Instr) (s : State) : Host.Outcome State Fault Refusal :=
  match i with
  | .deviceReset straps eye encA encB => Sys2Proof.Machine.execDeviceReset straps eye encA encB s
  | .telegramReception port idle run => Sys2Proof.Machine.execTelegramReception port idle run s
  | .transmitStart port idle => Sys2Proof.Machine.execTransmitStart port idle s
  | .transmissionComplete port => Sys2Proof.Machine.execTransmissionComplete port s
  | .encoderCount encA encB => Sys2Proof.Machine.execEncoderCount encA encB s
  | .leadingEdge => Sys2Proof.Machine.execLeadingEdge s
  | .trailingEdge => Sys2Proof.Machine.execTrailingEdge s
  | .kilnMinuteExpiry kiln => Sys2Proof.Machine.execKilnMinuteExpiry kiln s
  | .watchdogExpiry => Sys2Proof.Machine.execWatchdogExpiry s
  | .editExpiry => Sys2Proof.Machine.execEditExpiry s
  | .labelTimeout => Sys2Proof.Machine.execLabelTimeout s
  | .millClockMinute => Sys2Proof.Machine.execMillClockMinute s
  | .resetMinuteCount => Sys2Proof.Machine.execResetMinuteCount s
  | .unknownRequest kind station port tag args => Sys2Proof.Machine.execUnknownRequest kind station port tag args s
  | .readKiln station port tag args => Sys2Proof.Machine.execReadKiln station port tag args s
  | .readCharge station port tag args => Sys2Proof.Machine.execReadCharge station port tag args s
  | .readPackLog station port tag args => Sys2Proof.Machine.execReadPackLog station port tag args s
  | .readLot station port tag args => Sys2Proof.Machine.execReadLot station port tag args s
  | .readEntry station port tag args => Sys2Proof.Machine.execReadEntry station port tag args s
  | .readLine station port tag args => Sys2Proof.Machine.execReadLine station port tag args s
  | .readCounters station port tag args => Sys2Proof.Machine.execReadCounters station port tag args s
  | .heartbeat station port tag args => Sys2Proof.Machine.execHeartbeat station port tag args s
  | .setClock station port tag args => Sys2Proof.Machine.execSetClock station port tag args s
  | .loadCharge station port tag args => Sys2Proof.Machine.execLoadCharge station port tag args s
  | .startKiln station port tag args => Sys2Proof.Machine.execStartKiln station port tag args s
  | .override station port tag args => Sys2Proof.Machine.execOverride station port tag args s
  | .resume station port tag args => Sys2Proof.Machine.execResume station port tag args s
  | .stop station port tag args => Sys2Proof.Machine.execStop station port tag args s
  | .restart station port tag args => Sys2Proof.Machine.execRestart station port tag args s
  | .unload station port tag args => Sys2Proof.Machine.execUnload station port tag args s
  | .planerFeed station port tag args => Sys2Proof.Machine.execPlanerFeed station port tag args s
  | .releaseCharge station port tag args => Sys2Proof.Machine.execReleaseCharge station port tag args s
  | .closePack station port tag args => Sys2Proof.Machine.execClosePack station port tag args s
  | .lineReset station port tag args => Sys2Proof.Machine.execLineReset station port tag args s
  | .editOpen station port tag args => Sys2Proof.Machine.execEditOpen station port tag args s
  | .editHeader station port tag args => Sys2Proof.Machine.execEditHeader station port tag args s
  | .editStep station port tag args => Sys2Proof.Machine.execEditStep station port tag args s
  | .editCommit station port tag args => Sys2Proof.Machine.execEditCommit station port tag args s
  | .editAbort station port tag args => Sys2Proof.Machine.execEditAbort station port tag args s
  | .entryDelete station port tag args => Sys2Proof.Machine.execEntryDelete station port tag args s
  | .writeStation station port tag args => Sys2Proof.Machine.execWriteStation station port tag args s
  | .writeSpecies station port tag args => Sys2Proof.Machine.execWriteSpecies station port tag args s
  | .writeKilnLimits station port tag args => Sys2Proof.Machine.execWriteKilnLimits station port tag args s
  | .writeFaultActions station port tag args => Sys2Proof.Machine.execWriteFaultActions station port tag args s
  | .writeWatchdog station port tag args => Sys2Proof.Machine.execWriteWatchdog station port tag args s
  | .writeLine station port tag args => Sys2Proof.Machine.execWriteLine station port tag args s
  | .writeMark station port tag args => Sys2Proof.Machine.execWriteMark station port tag args s
  | .writeSort station port tag args => Sys2Proof.Machine.execWriteSort station port tag args s
  | .writeBin station port tag args => Sys2Proof.Machine.execWriteBin station port tag args s
  | .writeLabelField station port tag args => Sys2Proof.Machine.execWriteLabelField station port tag args s
  | .setPackBase station port tag args => Sys2Proof.Machine.execSetPackBase station port tag args s

end Sys2Proof.Machine
end

