-- ==== Sys2Proof/Machine/Time.lean ====
section
/-! DEFINITION. What happens while no command waits (log 2): the transmitters run, the timers count seconds, and a timer
whose count has reached its limit expires. One thing happens in one idle step; where several could, a free value chooses. -/

namespace Sys2Proof.Machine

/-- A count advanced by a second where it runs. -/
def tickCount (n : Option Nat) : Option Nat := n.map (fun k => k + 1)

/-- A kiln's timer after a second (R87). -/
def Kiln.tick (q : Kiln) : Kiln := { q with timer := tickCount q.timer }

/-- The watchdog's interval after a second (R32). -/
def Watchdog.tick (w : Watchdog) : Watchdog := if w.state = .armed then { w with elapsed := w.elapsed + 1 } else w

/-- A second passes: every running count of seconds advances by 1 (R32, R33, R34, R71, R87, R186). -/
def State.tick (s : State) : State :=
  { s with
    watchdog := s.watchdog.tick
    clock := { s.clock with phase := s.clock.phase + 1 }
    minutePhase := s.minutePhase + 1
    staging := s.staging.map (fun e => { e with timer := e.timer + 1 })
    kilns := s.kilns.map Kiln.tick
    labels := { s.labels with timer := tickCount s.labels.timer } }

/-- An event listed where its condition holds. -/
def dueIf (b : Bool) (c : Instr) : List Instr := if b then [c] else []

/-- The label timer has reached the timeout in use (R186). -/
def LabelUnit.due (u : LabelUnit) : Bool :=
  match u.timer with
  | some t => u.head == some .awaitPrint && u.timeoutInUse ≤ t
  | none => false

/-- The edit timer has reached its limit (R71). -/
def State.editDue (s : State) : Bool :=
  match s.staging with
  | some e => Config.editLimit ≤ e.timer
  | none => false

/-- A kiln-minute timer has reached 60 s (R87). -/
def Kiln.minuteDue (q : Kiln) : Bool :=
  match q.timer with
  | some t => 60 ≤ t
  | none => false

/-- The expiries that are due. -/
def State.dueEvents (s : State) : List Instr :=
  dueIf (s.watchdog.state == .armed && s.watchdog.upperInUse ≤ s.watchdog.elapsed) .watchdogExpiry
    ++ dueIf s.editDue .editExpiry ++ dueIf s.labels.due .labelTimeout
    ++ dueIf (60 ≤ s.clock.phase) .millClockMinute ++ dueIf (60 ≤ s.minutePhase) .resetMinuteCount
    ++ (List.finRange 16).flatMap (fun k => dueIf (s.kiln k).minuteDue (.kilnMinuteExpiry k))

/-- What a port's transmitter can do: start, or complete (R18). -/
def State.portEvents (s : State) (p : PortId) : List Instr :=
  if (s.port p).sending.isSome then [.transmissionComplete p]
  else dueIf (s.port p).nextQueue.isSome (.transmitStart p 3)

/-- The link's own events. -/
def State.linkEvents (s : State) : List Instr := s.portEvents .a ++ s.portEvents .b

/-- One of several, by a free value; the only one of one. -/
def pick {α : Type} (c : Nat) (first : α) (rest : List α) : α :=
  if rest.isEmpty then first else (first :: rest).getD (Config.freeChoice c % (rest.length + 1)) first

/-- The part after a choice among several has drawn its free value. -/
def State.drewPick {α : Type} (rest : List α) (s : State) : State := if rest.isEmpty then s else s.drewFree 1

/-- One idle step's event done: none stands for a second that passes. -/
def State.doIdle (e : Option Instr) (s : State) : Host.Outcome State Fault Refusal :=
  match e with
  | some c => exec c s
  | none => .next s.tick

/-- What can happen in an idle step: a due expiry or a link event; a second passes only while no expiry is due. -/
def State.idleChoices (s : State) : List (Option Instr) :=
  (if s.dueEvents.isEmpty then [none] else s.dueEvents.map some) ++ s.linkEvents.map some

/-- A step with no command waiting (log 2). -/
def State.idle (s : State) : Host.Outcome State Fault Refusal :=
  match s.idleChoices with
  | [] => .next s
  | e :: rest => (s.drewPick rest).doIdle (pick s.freeCount e rest)

end Sys2Proof.Machine
end

