-- ==== Sys2Proof/Safety.lean ====
section
/-! DEFINITION. What a good state of the part is, in the terms that statements use: the invariants the spec's rules give,
and when a request is served at once. -/

namespace Sys2Proof.Machine

/-! ## When a request is served at once -/

/-- A request of kind `k` from station `d` is admitted and served at its arrival: no request waits, no reply is pending, and
the station's classes include the request's (R21, R23). -/
def State.Ready (s : State) (d : StationId) (k : ReqKind) : Prop :=
  s.requests = [] ∧ s.replySlot = none ∧ s.permits d k.cls = true

/-! ## Queues stay within their bounds (R1, R7, R15, R17, R21, R38, R104, R141, R173, R175, R182) -/

/-- A port's queues and buffer within their bounds, each kiln waiting at most once. -/
def Port.Bounded (q : Port) : Prop :=
  q.rxBuffer.length ≤ 64 ∧ q.passQueue.length ≤ 8 ∧ q.localQueue.length ≤ 16 ∧ q.setpointWaiting.Nodup

/-- Every queue and collection within its bound: the queues of the ports, of requests, notices (24 INFO ones among them),
boards and labels; the pack log and the lots; a pack's charge list, a lot's origins and a charge's. -/
def State.Bounded (s : State) : Prop :=
  s.portA.Bounded ∧ s.portB.Bounded ∧ s.requests.length ≤ 4 ∧ s.notices.length ≤ 32
    ∧ s.notices.countP (fun n => !n.kind.isAlarm) ≤ 24 ∧ s.line.queue.length ≤ 64 ∧ s.labels.queue.length ≤ 8
    ∧ s.packLog.length ≤ 64 ∧ s.lots.length ≤ 32
    ∧ (∀ (b : Fin 16) (p : Pack), s.bins[b].pack = some p → p.charges.length ≤ 4)
    ∧ (∀ e ∈ s.packLog, e.pack.charges.length ≤ 4) ∧ (∀ l ∈ s.lots, l.origins.length ≤ 4)
    ∧ (∀ i : Fin 48, s.charges[i].origins.length ≤ 8)

/-! ## The line-hold (R155) -/

/-- The line-hold lies within its bounds: RELEASED only below 56 boards and 7 labels, ASSERTED only above 48 boards or 4
labels. -/
def State.HoldInBounds (s : State) : Prop :=
  (s.line.holdAsserted = false → s.line.queue.length < 56 ∧ s.labels.queue.length < 7)
    ∧ (s.line.holdAsserted = true → 48 < s.line.queue.length ∨ 4 < s.labels.queue.length)

/-! ## Committed schedules (R58, R60, R64) -/

/-- A committed step below its entry's count meets the three conditions of R60; an entry's count is at most 24; generation 0
is held exactly while the entry is INVALID. -/
def State.CommittedLegal (s : State) : Prop :=
  ∀ d : Fin 32, let e := s.directory[d]
    e.header.count ≤ 24 ∧ (e.valid = false ↔ e.generation = 0)
    ∧ ∀ j : Fin 24, j.val < e.header.count → let x := e.steps[j]
      x.depression ≤ x.dry ∧ x.minDuration ≤ x.maxDuration ∧ 1 ≤ x.maxDuration

/-- The staged step count is at most 24 (R66). -/
def State.StagedCountLegal (s : State) : Prop := ∀ e, s.staging = some e → e.header.count ≤ 24

/-! ## Charge records (R62, R77, R95, R127, R130, R136) -/

/-- The boards in the tracking queue that are tagged with a charge. -/
def State.boardsOf (s : State) (n : Nat) : Nat := s.line.queue.countP (fun b => b.charge == some n)

/-- The open packs whose charge list contains a charge. -/
def State.packsOf (s : State) (n : Nat) : Nat :=
  s.bins.toList.countP (fun b => (b.pack.elim [] Pack.charges).contains (some n))

/-- A live record holds a charge number: one in a state other than CLOSED. -/
def State.HoldsLive (s : State) (n : Nat) : Prop := ∃ i : Fin 48, s.charges[i].number = n ∧ s.charges[i].state ≠ .closed

/-- The charge table agrees with the reuse order, the boards, the packs and the infeed: live records have distinct numbers
other than 0, the reuse order lists the CLOSED ones once each (R124, R133, R136); a live record's reference count equals its
boards plus the open packs that list it, a CLOSED one's is 0, and a board or a pack refers to live records only (R127); the
record in PLANING is the infeed charge's (R130). -/
def State.RecordsAgree (s : State) : Prop :=
  (∀ i : Fin 48, s.charges[i].state ≠ .closed → s.charges[i].number ≠ 0
      ∧ ∀ j : Fin 48, s.charges[j].state ≠ .closed → s.charges[j].number = s.charges[i].number → j = i)
    ∧ s.reuse.Nodup ∧ (∀ i : Fin 48, i ∈ s.reuse ↔ s.charges[i].state = .closed)
    ∧ (∀ i : Fin 48, s.charges[i].refs = if s.charges[i].state = .closed then 0
        else s.boardsOf s.charges[i].number + s.packsOf s.charges[i].number)
    ∧ (∀ b ∈ s.line.queue, ∀ n, b.charge = some n → s.HoldsLive n)
    ∧ (∀ (b : Fin 16) (p : Pack), s.bins[b].pack = some p → p.charges.Nodup ∧ ∀ n, some n ∈ p.charges → s.HoldsLive n)
    ∧ (∀ n, s.line.infeed = some n ↔ ∃ i : Fin 48, s.charges[i].number = n ∧ s.charges[i].state = .planing)

/-- The state of a charge whose kiln is in a state (R77); none for an IDLE kiln. -/
def KilnState.chargeState : KilnState → Option ChargeState
  | .idle => none
  | .loaded => some .loaded
  | .running => some .drying
  | .held => some .drying
  | .stopped => some .drying
  | .done => some .dried

/-- A kiln counts in its entry's in-use count: LOADED, RUNNING, HELD or STOPPED (R62). -/
def KilnState.binds : KilnState → Bool
  | .idle => false
  | .loaded => true
  | .running => true
  | .held => true
  | .stopped => true
  | .done => false

/-- The kilns bound to an entry (R62). -/
def State.kilnsOn (s : State) (d : Fin 32) : Nat :=
  (List.finRange 16).countP (fun k => (s.kiln k).state.binds && (s.kilnCharge k).elim false (fun c => c.entry == d))

/-- A kiln that is not IDLE holds the charge of one record, which names the kiln and agrees with it in state (R77); that
record's history is no longer than the kiln's step index, which is at most 24, and below 24 where a step runs or can run again
without a new entry (R95, R104). -/
def State.KilnAgrees (s : State) (k : KilnId) : Prop :=
  let q := s.kiln k
  q.state ≠ .idle → ∃ (i : Fin 48) (p : StepPosition),
    q.charge = some s.charges[i].number ∧ q.state.chargeState = some s.charges[i].state ∧ s.charges[i].kiln = some k
      ∧ q.position = some p ∧ s.charges[i].history.length ≤ p.index ∧ p.index ≤ 24
      ∧ (q.entryPending = false → q.state ≠ .done → p.index < 24)
      ∧ ((q.state = .loaded ∨ q.state = .running) → q.entryPending = false)
      ∧ (q.state = .held → (q.entryPending = true ↔ ∃ e ∈ q.stack, e.kind = .schedule))

/-- Every kiln agrees with its charge record; a record in LOADED, DRYING or DRIED is held by the one kiln it names (R77); a
history has at most 24 entries (R95); an entry's in-use count is the number of kilns bound to it, and an INVALID entry has
none (R62, R63). -/
def State.KilnsAgree (s : State) : Prop :=
  (∀ k : KilnId, s.KilnAgrees k)
    ∧ (∀ i : Fin 48, (s.charges[i].state = .loaded ∨ s.charges[i].state = .drying ∨ s.charges[i].state = .dried) →
        ∃ k : KilnId, s.charges[i].kiln = some k ∧ (s.kiln k).charge = some s.charges[i].number)
    ∧ (∀ i : Fin 48, s.charges[i].history.length ≤ 24)
    ∧ (∀ d : Fin 32, s.directory[d].inUse = s.kilnsOn d ∧ (s.directory[d].inUse ≠ 0 → s.directory[d].valid = true))

/-! ## Hold stacks (R104, R114, R116) -/

/-- The fault kind of a FAULT entry. -/
def HoldEntry.fault? (e : HoldEntry) : Option FaultKind :=
  match e.kind with
  | .override _ _ _ _ => none
  | .fault f _ => some f
  | .schedule => none

/-- An entry agrees with the latches: a FAULT entry's kind is latched with the entry's action, HOLD or SAFE. -/
def Kiln.Backs (q : Kiln) (e : HoldEntry) : Prop :=
  match e.kind with
  | .override _ _ _ _ => True
  | .fault f a => q.latches.get f = some a ∧ (a = .hold ∨ a = .safe)
  | .schedule => True

/-- A kiln's hold stack as R104 states it: at most four entries, none unless HELD, no two FAULT entries of a kind, a
SCHEDULE entry at the bottom only; and every FAULT entry backed by its latch. The stack is held top first. -/
def Kiln.HoldsLegal (q : Kiln) : Prop :=
  q.stack.length ≤ 4 ∧ (q.stack ≠ [] ↔ q.state = .held) ∧ (q.stack.filterMap HoldEntry.fault?).Nodup
    ∧ (∀ e ∈ q.stack.dropLast, e.kind ≠ .schedule) ∧ (∀ e ∈ q.stack, q.Backs e)

/-- Every kiln's hold stack is legal. -/
def State.HoldsLegal (s : State) : Prop := ∀ k : KilnId, (s.kiln k).HoldsLegal

/-! ## Setpoints (R78, R79, R91) -/

/-- A limits record as WRITE_KILN_LIMITS leaves one (R79). -/
def Limits.Legal (l : Limits) : Prop :=
  0 ≤ l.dryMin ∧ l.dryMin ≤ l.dryMax ∧ l.dryMax ≤ 1300 ∧ l.dryMin ≤ l.idleDry ∧ l.idleDry ≤ l.dryMax ∧ 0 ≤ l.idleWet
    ∧ l.idleWet ≤ l.idleDry ∧ l.dryMin ≤ l.safeDry ∧ l.safeDry ≤ l.dryMax ∧ 0 ≤ l.safeWet ∧ l.safeWet ≤ l.safeDry

/-- A pair of setpoints within limits (R91). -/
def Limits.Admits (l : Limits) (p : TempPair) : Prop :=
  l.dryMin ≤ p.dry ∧ p.dry ≤ l.dryMax ∧ 0 ≤ p.wet ∧ p.wet ≤ p.dry

/-- A kiln's limits are legal; its setpoints are absent in IDLE and lie within the limits in use otherwise (R91). -/
def Kiln.SetpointsLegal (q : Kiln) : Prop :=
  q.written.Legal ∧ q.inUse.Legal ∧ (q.state = .idle → q.setpoints = none)
    ∧ (q.state ≠ .idle → ∃ p, q.setpoints = some p ∧ q.inUse.Admits p)

/-- Every kiln's setpoints are legal. -/
def State.SetpointsLegal (s : State) : Prop := ∀ k : KilnId, (s.kiln k).SetpointsLegal

/-! ## A kiln and its charge (R77, R87) -/

/-- A kiln holds a charge number, a position in its schedule and a running kiln-minute timer exactly while it is not
IDLE. -/
def Kiln.Occupied (q : Kiln) : Prop :=
  (q.state = .idle ↔ q.charge = none) ∧ (q.state = .idle ↔ q.position = none) ∧ (q.state = .idle ↔ q.timer = none)

/-- Every kiln is occupied as its state says. -/
def State.KilnsOccupied (s : State) : Prop := ∀ k : KilnId, (s.kiln k).Occupied

/-! ## The station map (section 1.6, R11 to R13) -/

/-- At most one station holds each unique role, at most one the notify flag, a holder of which is a supervisor; and the
entry of the part's own number holds role NONE. -/
def State.MapLegal (s : State) : Prop :=
  (∀ d e : StationId, s.stations[d].role = s.stations[e].role → s.stations[d].role.isUnique = true → d = e)
    ∧ (∀ d e : StationId, s.stations[d].notify = true → s.stations[e].notify = true → d = e)
    ∧ (∀ d : StationId, s.stations[d].notify = true → s.stations[d].role = .supervisor)
    ∧ s.stations[s.own].role = .none

/-! ## A kiln at the entry of a step (R89, R90, R92) -/

/-- The kiln's targets and LIMITED are those derived from a step under the limits in use (R90), and RAMPING says whether its
current setpoints differ from them (R92). -/
def Kiln.AimsAt (q : Kiln) (x : Step) : Prop :=
  let dry := max q.inUse.dryMin (min q.inUse.dryMax x.dry)
  let wet := max 0 (dry - x.depression)
  q.targets = some ⟨dry, wet⟩ ∧ q.limited = decide (dry ≠ x.dry ∨ dry - x.depression < 0)
    ∧ ∀ now, q.setpoints = some now → q.ramping = decide (now ≠ ⟨dry, wet⟩)

/-! ## Telegrams as the rules name them (R1, R2, R6) -/

/-- A run of bytes that is a good telegram from a station: it starts after three idle byte times, passes the three frame
checks, and its source is not the part (R1, R2). -/
def State.GoodRun (s : State) (idle : Nat) (run : List Byte) (source : StationId) : Prop :=
  startsTelegram idle run = true ∧ formatOk run = true ∧ checkOk run = true ∧ u8 run 2 = source.val ∧ source ≠ s.own

/-- The part after a good telegram has been stored, counted, and forwarded or consumed, before it is delivered (R2, R6). -/
def State.passedOn (p : PortId) (run : List Byte) (s : State) : State :=
  ((s.setBuffer p (run.take Config.bufferSize)).count p PortCounters.addGood).forward p run

/-! ## The first failing check of LOAD_CHARGE (R81, R82) -/

/-- The lots a LOAD_CHARGE names, in the order of its arguments, those that are held. -/
def State.namedLots (s : State) (args : List Byte) : List Lot := (lotIds args).filterMap s.findLot

/-- The layout of R81 and the twelve checks of R82 in order on the arguments, for the kiln and the entry they name: the
result of the first that fails, none where all pass. -/
def State.loadCheck (s : State) (k : KilnId) (d : Fin 32) (args : List Byte) : Option Result :=
  if (s.kiln k).state ≠ .idle then some .wrongState
  else if s.holder (.climate k) = none ∨ s.holder (.actuator k) = none then some .notMapped
  else if s.directory[d].valid = false then some .notFound
  else if s.directory[d].header.permit.getLsbD (s.kiln k).inUse.group = false then some .notPermitted
  else if s.directory[d].header.species ≠ 255 ∧ s.directory[d].header.species ≠ u8 args 4 then some .speciesMismatch
  else if (s.findLive (u16 args 1)).isSome then some .inUse
  else if (lotIds args).any (fun x => (s.findLot x).isNone) = true then some .notFound
  else if ∃ l ∈ s.namedLots args, l.species.val ≠ u8 args 4 then some .speciesMismatch
  else if resumeGiven args = true ∧ (s.directory[d].header.count ≤ u8 args 8 ∨ 10080 < u16 args 9) then some .badArgument
  else if s.recordToTake = none then some .tableFull
  else none

end Sys2Proof.Machine
end

