-- ==== Sys2Proof/WellFormed.lean ====
section
/-! DEFINITION. Which commands can come from outside: the bounds the link puts on a request, and a run's first byte. -/

namespace Sys2Proof

/-- The request kind codes of the catalogue (R26). -/
def catalogueCodes : List Nat :=
  [0x01, 0x02, 0x03, 0x04, 0x05, 0x06, 0x07, 0x10, 0x11, 0x12, 0x13, 0x14, 0x15, 0x16, 0x17, 0x18, 0x19, 0x1A,
   0x1B, 0x1C, 0x20, 0x21, 0x22, 0x23, 0x24, 0x25, 0x30, 0x31, 0x32, 0x33, 0x34, 0x35, 0x36, 0x37, 0x38, 0x39, 0x3A]

/-- A request has 0..54 argument bytes (R3's REQUEST layout). -/
def argsFit (args : List Byte) : Bool := args.length ≤ 54

/-- A command that the outside world can give: a run of bytes holds a byte, a request's arguments fit its telegram, and
UNKNOWN_REQUEST names a kind outside the catalogue. -/
def Instr.wellFormed : Instr → Bool
  | .deviceReset _ _ _ _ => true
  | .telegramReception _ _ run => !run.isEmpty
  | .transmitStart _ _ => true
  | .transmissionComplete _ => true
  | .encoderCount _ _ => true
  | .leadingEdge => true
  | .trailingEdge => true
  | .kilnMinuteExpiry _ => true
  | .watchdogExpiry => true
  | .editExpiry => true
  | .labelTimeout => true
  | .millClockMinute => true
  | .resetMinuteCount => true
  | .unknownRequest kind _ _ _ args => argsFit args && !catalogueCodes.contains kind.toNat
  | .readKiln _ _ _ args => argsFit args
  | .readCharge _ _ _ args => argsFit args
  | .readPackLog _ _ _ args => argsFit args
  | .readLot _ _ _ args => argsFit args
  | .readEntry _ _ _ args => argsFit args
  | .readLine _ _ _ args => argsFit args
  | .readCounters _ _ _ args => argsFit args
  | .heartbeat _ _ _ args => argsFit args
  | .setClock _ _ _ args => argsFit args
  | .loadCharge _ _ _ args => argsFit args
  | .startKiln _ _ _ args => argsFit args
  | .override _ _ _ args => argsFit args
  | .resume _ _ _ args => argsFit args
  | .stop _ _ _ args => argsFit args
  | .restart _ _ _ args => argsFit args
  | .unload _ _ _ args => argsFit args
  | .planerFeed _ _ _ args => argsFit args
  | .releaseCharge _ _ _ args => argsFit args
  | .closePack _ _ _ args => argsFit args
  | .lineReset _ _ _ args => argsFit args
  | .editOpen _ _ _ args => argsFit args
  | .editHeader _ _ _ args => argsFit args
  | .editStep _ _ _ args => argsFit args
  | .editCommit _ _ _ args => argsFit args
  | .editAbort _ _ _ args => argsFit args
  | .entryDelete _ _ _ args => argsFit args
  | .writeStation _ _ _ args => argsFit args
  | .writeSpecies _ _ _ args => argsFit args
  | .writeKilnLimits _ _ _ args => argsFit args
  | .writeFaultActions _ _ _ args => argsFit args
  | .writeWatchdog _ _ _ args => argsFit args
  | .writeLine _ _ _ args => argsFit args
  | .writeMark _ _ _ args => argsFit args
  | .writeSort _ _ _ args => argsFit args
  | .writeBin _ _ _ args => argsFit args
  | .writeLabelField _ _ _ args => argsFit args
  | .setPackBase _ _ _ args => argsFit args

end Sys2Proof
end

