-- ==== Sys2Proof/Certificates/Slice0/Obligations.lean ====
section
/-! DEFINITION. What is stated about the part, for the provers: one proposition for each entry of OBLIGATIONS.json. A
statement that names a request row gives the outcome of the row as `answer r v`: `v` holds the part after the request's effect,
the result and the reply data, and `RepliesArePlaced` says what `answer` makes of them. -/

open Sys2Proof Sys2Proof.Machine

/-! ## The machine: commands, the queue and the idle step -/

/-- The front command of the queue is run on the part with the queue's rest. -/
def Obligations.StepRunsTheFrontCommand : Prop :=
  ∀ (c : Instr) (rest : List Instr) (s : State), s.pending = c :: rest → step s = exec c { s with pending := rest }

/-- Every command answers a next state and leaves the queue of commands as it was; so does every step. -/
def Obligations.EveryCommandAnswers : Prop :=
  (∀ (c : Instr) (s : State), ∃ t, exec c s = .next t ∧ t.pending = s.pending) ∧ ∀ s : State, ∃ t, step s = .next t

/-- With no command waiting, a step does one thing: an expiry that is due, a link event that can happen, or a second
that passes while no expiry is due. The model's choice (log 2); which expiries are due follows R32, R33, R34, R71,
R87, R186. The link events are the start of an idle transmitter that has a telegram in one of its queues, and the
completion of a telegram being sent (R18). A second: an ARMED watchdog's interval, the phases of the two minutes, an
open edit's timer, each running kiln-minute timer and a running label timer rise by 1; stopped timers and a watchdog
outside ARMED stay, and so does everything else (R32, R33, R34, R71, R87, R186). -/
def Obligations.IdleStepDoesOneThing : Prop :=
  (∀ s : State, s.pending = [] →
    (∃ (c : Instr) (n : Nat), (c ∈ s.dueEvents ∨ c ∈ s.linkEvents) ∧ step s = exec c { s with freeCount := n })
      ∨ (s.dueEvents = [] ∧ ∃ n : Nat, step s = .next { s with freeCount := n }.tick))
  ∧ (∀ s : State, (.watchdogExpiry ∈ s.dueEvents ↔ s.watchdog.state = .armed ∧ s.watchdog.upperInUse ≤ s.watchdog.elapsed)
    ∧ (.editExpiry ∈ s.dueEvents ↔ ∃ e, s.staging = some e ∧ 1800 ≤ e.timer)
    ∧ (.labelTimeout ∈ s.dueEvents ↔ s.labels.head = some .awaitPrint ∧ ∃ n, s.labels.timer = some n ∧ s.labels.timeoutInUse ≤ n)
    ∧ (.millClockMinute ∈ s.dueEvents ↔ 60 ≤ s.clock.phase)
    ∧ (.resetMinuteCount ∈ s.dueEvents ↔ 60 ≤ s.minutePhase)
    ∧ (∀ k : KilnId, .kilnMinuteExpiry k ∈ s.dueEvents ↔ ∃ n, (s.kiln k).timer = some n ∧ 60 ≤ n))
  ∧ (∀ s : State, (∀ c ∈ s.linkEvents, ∃ p : PortId, c = .transmitStart p 3 ∨ c = .transmissionComplete p)
    ∧ ∀ p : PortId,
      (.transmitStart p 3 ∈ s.linkEvents ↔
        (s.port p).sending = none ∧ ((s.port p).passQueue ≠ [] ∨ (s.port p).localQueue ≠ []))
      ∧ (.transmissionComplete p ∈ s.linkEvents ↔ (s.port p).sending ≠ none))
  ∧ (∀ s : State, let t := s.tick
    (s.watchdog.state = .armed → t.watchdog = { s.watchdog with elapsed := s.watchdog.elapsed + 1 })
    ∧ (s.watchdog.state ≠ .armed → t.watchdog = s.watchdog)
    ∧ t.clock = { s.clock with phase := s.clock.phase + 1 } ∧ t.minutePhase = s.minutePhase + 1
    ∧ (s.staging = none → t.staging = none)
    ∧ (∀ e, s.staging = some e → t.staging = some { e with timer := e.timer + 1 })
    ∧ (∀ k : KilnId, ((s.kiln k).timer = none → t.kiln k = s.kiln k)
      ∧ ∀ n, (s.kiln k).timer = some n → t.kiln k = { s.kiln k with timer := some (n + 1) })
    ∧ (s.labels.timer = none → t.labels = s.labels)
    ∧ (∀ n, s.labels.timer = some n → t.labels = { s.labels with timer := some (n + 1) })
    ∧ t = { s with
        watchdog := t.watchdog, clock := t.clock, minutePhase := t.minutePhase, staging := t.staging, kilns := t.kilns
        labels := t.labels })

/-! ## Device reset -/

/-- DEVICE_RESET. In the link unit: every queue, buffer, counter and pending source at its reset value, the station
number from the straps, an open map, and one STARTED telegram in each local queue under one sequence value (R20). In
every other block: each piece of state at the value its rule gives, the eye and encoder levels as sampled (R30, R33,
R34, R36, R43, R44, R58, R76 to R78, R115, R124, R139, R157, R160, R162, R164, R165, R174, R175, R178, R182). The
watchdog's seconds since restart are 0, which is the model's choice while no interval runs (log 23); of the label
timer's timeout in use no rule gives a value, and none is stated here. -/
def Obligations.DeviceResetSetsEveryBlock : Prop :=
  (∀ (straps : Byte) (eye encA encB : Bool) (s : State), ∃ t, exec (.deviceReset straps eye encA encB) s = .next t
     ∧ t.own.val = (if straps = 255 then 254 else straps.toNat)
     ∧ (∀ p : PortId, t.port p =
         { rxBuffer := [], passQueue := []
           localQueue := [telegram 255 (stationByte t.own) 0x52 0 [0, 1, 0]]
           sending := none, turn := .pass, lastServed := .labelRow, setpointWaiting := [], counters := ⟨0, 0, 0, 0, 0, 0⟩ })
     ∧ (∀ (p : PortId) (c : SourceClass), t.pendingOn p c = false)
     ∧ t.sendCounter = 1 ∧ t.requests = [] ∧ t.replySlot = none ∧ t.notices = [] ∧ t.dropCount = 0
     ∧ (∀ d : StationId, t.stations[d] = ⟨.none, .a, 0, false⟩) ∧ t.mapOpen = true)
  ∧ (∀ (straps : Byte) (eye encA encB : Bool) (s : State), ∃ t, exec (.deviceReset straps eye encA encB) s = .next t
     ∧ t.watchdog = ⟨.disarmed, 60, 0, 60, 0, 0⟩ ∧ t.clock = ⟨0, false, 0⟩ ∧ t.minutes = 0 ∧ t.minutePhase = 0
     ∧ t.supervision = ⟨0, 0, 0⟩ ∧ (∀ i : Fin 16, t.species[i] = ⟨0, 1024, 0⟩)
     ∧ (∀ d : Fin 32, t.directory[d] = ⟨false, 0, ⟨255, 0, 0⟩, 0, Vector.replicate 24 ⟨0, 0, 1, 1, .time, 0, 0, 0, 0⟩⟩)
     ∧ t.staging = none
     ∧ (∀ k : KilnId, t.kiln k =
         { state := .idle
           written := ⟨200, 1000, -400, 1500, 50, 30, 5, 300, 250, 10, 200, 180, 0, 10, 5⟩
           inUse := ⟨200, 1000, -400, 1500, 50, 30, 5, 300, 250, 10, 200, 180, 0, 10, 5⟩
           actions := ⟨.safe, .hold, .none, .hold⟩
           charge := none, stepCopy := none, position := none, targets := none, limited := false, setpoints := none
           ramping := false, fan := .forward, climateStatus := none, verdict := none, lastGood := none, mask := 0
           channels := Vector.replicate 12 none, estimate := none, wettest := none, stack := [], entryPending := false
           latches := ⟨none, none, none, none⟩, reported := ⟨false, false, false, false⟩, silence := 0, countdown := 30
           timer := none, reportedDry := none, reportedWet := none, reportedEstimate := none })
     ∧ (∀ i : Fin 48, t.charges[i] =
         { number := 0, state := .closed, kiln := none, entry := 0, generation := 0, follow := false, species := 0, mask := 0
           loadStamp := none, startStamp := none, dryEndStamp := none, endReason := none, finalEstimate := none
           finalWettest := none, history := [], pushes := 0, redry := false, origins := [], truncated := false
           stats := ⟨0, 0, 0, 0, 0, 0, 0, 0⟩, refs := 0, closedStamp := some ⟨0, false⟩ })
     ∧ t.reuse = List.finRange 48
     ∧ t.line =
         { position := 0, direction := .forward, encA := encA, encB := encB, eyeBlocked := eye, lastLeading := none
           lastOpened := none, nextSerial := 0, queue := [], expected := none
           settings := ⟨200, .split, 4000, 12000, 0, 15, 80, 190, 230, 20⟩
           patterns := Vector.replicate 6 ⟨0, 0, 0⟩, marks := 0, holdAsserted := false, lostNotice := false
           counters := ⟨0, 0, 0, 0, 0, 0, 0⟩, infeed := none }
     ∧ (∀ i : Fin 16, t.sortList[i] = ⟨0, 0, 0, 0, 0, 0⟩) ∧ (∀ b : Fin 16, t.bins[b] = ⟨0, .normal, 0, none⟩)
     ∧ t.nextPack = 1 ∧ t.packLog = [] ∧ t.lots = []
     ∧ t.labels = ⟨Vector.replicate 16 none, [], none, 0, none, t.labels.timeoutInUse⟩ ∧ t.faultOutput = false)

/-! ## Chapter 1: the link -/

/-- A run that starts no telegram is ignored and not counted; a damaged run is discarded and counted once, under the
first of the three checks it fails; a telegram laid out as R3 says passes the first two. The layout, byte by byte, and
the check, bit by bit: initial value 0xFFFF, polynomial 0x1021, each byte most significant bit first, sent high byte
first (R2, R3). A good telegram goes to the tail of the opposite pass queue unchanged, unless it is addressed to the
part or that queue holds 8; the arrival port's pass queue stays; outside REQUEST, which can read the counters, its
counts rise as R2 and R6 say (R1, R2, R3, R6). -/
def Obligations.TelegramsAreCheckedAndForwarded : Prop :=
  ((∀ (s : State) (p : PortId) (idle : Nat) (run : List Byte),
     ((idle < 3 ∨ run.head? ≠ some 0xA5) → exec (.telegramReception p idle run) s = .next s)
     ∧ (3 ≤ idle → run.head? = some 0xA5 →
         ((56 < u8 run 5 ∨ u8 run 2 = 255 ∨ run.length ≠ 8 + u8 run 5) →
           exec (.telegramReception p idle run) s = .next (s.modPort p (fun q => { q with
             rxBuffer := [], counters := { q.counters with formatErrors := bump16 q.counters.formatErrors } })))
         ∧ (u8 run 5 ≤ 56 → u8 run 2 ≠ 255 → run.length = 8 + u8 run 5 →
             u16 run (6 + u8 run 5) ≠ (crc16 ((run.drop 1).take (5 + u8 run 5))).toNat →
           exec (.telegramReception p idle run) s = .next (s.modPort p (fun q => { q with
             rxBuffer := [], counters := { q.counters with checkErrors := bump16 q.counters.checkErrors } })))
         ∧ (u8 run 5 ≤ 56 → u8 run 2 ≠ 255 → run.length = 8 + u8 run 5 →
             u16 run (6 + u8 run 5) = (crc16 ((run.drop 1).take (5 + u8 run 5))).toNat → u8 run 2 = s.own.val →
           exec (.telegramReception p idle run) s = .next (s.modPort p (fun q => { q with
             rxBuffer := [], counters := { q.counters with loops := bump16 q.counters.loops } })))))
   ∧ (∀ (dest source kind sequence : Byte) (x : List Byte), x.length ≤ 56 → source ≠ 255 →
       formatOk (telegram dest source kind sequence x) = true ∧ checkOk (telegram dest source kind sequence x) = true)
   ∧ (∀ (dest source kind sequence : Byte) (x : List Byte),
       let body : List Byte := [dest, source, kind, sequence, BitVec.ofNat 8 x.length] ++ x
       let check := (crc16 body).toNat
       telegram dest source kind sequence x = [0xA5] ++ body ++ [BitVec.ofNat 8 (check / 256), BitVec.ofNat 8 (check % 256)])
   ∧ (crc16 [] = 0xFFFF
     ∧ ∀ (bytes : List Byte) (b : Byte),
       let shifted (c : BitVec 16) (bit : Bool) : BitVec 16 :=
         if c.getLsbD 15 = bit then c <<< 1 else (c <<< 1) ^^^ 0x1021
       crc16 (bytes ++ [b]) = (List.range 8).foldl (fun c i => shifted c (b.getLsbD (7 - i))) (crc16 bytes)))
  ∧ (∀ (s : State) (p : PortId) (idle : Nat) (run : List Byte) (source : StationId), s.GoodRun idle run source →
     ∃ t, exec (.telegramReception p idle run) s = .next t ∧ (t.port p).rxBuffer = []
       ∧ (t.port (otherPort p)).passQueue =
           (if u8 run 1 ≠ s.own.val ∧ (s.port (otherPort p)).passQueue.length < 8
             then (s.port (otherPort p)).passQueue ++ [run] else (s.port (otherPort p)).passQueue)
       ∧ (t.port p).passQueue = (s.port p).passQueue
       ∧ (run.getD 3 0 ≠ 0x50 →
           (t.port p).counters.good = bump16 (s.port p).counters.good
           ∧ (t.port p).counters.forwarded =
               (if u8 run 1 ≠ s.own.val ∧ (s.port (otherPort p)).passQueue.length < 8
                 then bump16 (s.port p).counters.forwarded else (s.port p).counters.forwarded)
           ∧ (t.port p).counters.passDrops =
               (if u8 run 1 ≠ s.own.val ∧ 8 ≤ (s.port (otherPort p)).passQueue.length
                 then bump16 (s.port p).counters.passDrops else (s.port p).counters.passDrops)
           ∧ (t.port p).counters.checkErrors = (s.port p).counters.checkErrors
           ∧ (t.port p).counters.loops = (s.port p).counters.loops
           ∧ (t.port (otherPort p)).counters = (s.port (otherPort p)).counters))

/-- What a good telegram brings about by its kind and its source's role: the block that takes it, a payload fault
counted in the format errors, or nothing (R5, R9, R10). That it is forwarded and counted before it is acted on, and so
before the read that a broadcast READ_COUNTERS carries, is the model's choice (log 31). -/
def Obligations.TelegramsReachTheirBlocks : Prop :=
  ∀ (s : State) (p : PortId) (idle : Nat) (run : List Byte) (source : StationId), s.GoodRun idle run source →
    let u := s.passedOn p run
    let x := payloadOf run
    let kind : Byte := run.getD 3 0
    let role := s.stations[source].role
    let ends (t : State) : Prop := exec (.telegramReception p idle run) s = .next (t.setBuffer p [])
    (∀ k, kind = 0x10 → role = .climate k →
        (x.length = 5 → ends (u.climateArrival k x)) ∧ (x.length ≠ 5 → ends (u.count p PortCounters.addFormat)))
    ∧ (∀ k, kind = 0x11 → role = .probe k →
        ((1 ≤ u8 x 0 ∧ u8 x 0 ≤ 12 ∧ x.length = 1 + 4 * u8 x 0) → ends (u.probeArrival k x))
        ∧ (¬ (1 ≤ u8 x 0 ∧ u8 x 0 ≤ 12 ∧ x.length = 1 + 4 * u8 x 0) → ends (u.count p PortCounters.addFormat)))
    ∧ (kind = 0x20 → role = .scanner →
        ((1 ≤ u8 x 6 ∧ u8 x 6 ≤ 8 ∧ x.length = 7 + 2 * u8 x 6) → ends (u.scanArrival x))
        ∧ (¬ (1 ≤ u8 x 6 ∧ u8 x 6 ≤ 8 ∧ x.length = 7 + 2 * u8 x 6) → ends (u.count p PortCounters.addFormat)))
    ∧ (kind = 0x41 → u8 run 1 = s.own.val → role = .printer →
        (x.length = 5 → ends (u.printDone x)) ∧ (x.length ≠ 5 → ends (u.count p PortCounters.addFormat)))
    ∧ (kind = 0x50 → (u8 run 1 = s.own.val ∨ (u8 run 1 = 255 ∧ (role = .supervisor ∨ s.mapOpen = true))) →
        (2 ≤ x.length → ends (u.takeIn ⟨x.getD 0 0, x.getD 1 0, x.drop 2, source, p⟩))
        ∧ (x.length < 2 → ends (u.count p PortCounters.addFormat)))
    ∧ (((kind = 0x10 → ∀ k, role ≠ .climate k) ∧ (kind = 0x11 → ∀ k, role ≠ .probe k) ∧ (kind = 0x20 → role ≠ .scanner)
        ∧ (kind = 0x41 → u8 run 1 ≠ s.own.val ∨ role ≠ .printer)
        ∧ (kind = 0x50 → u8 run 1 ≠ s.own.val ∧ (u8 run 1 ≠ 255 ∨ (role ≠ .supervisor ∧ s.mapOpen = false)))) → ends u)

/-- The transmit arbiter of a port: which queue it starts from, when it stays idle, and where the turn goes when a
telegram has been sent; the other port's transmitter is not touched (R18). That a start before three idle byte times
or during a telegram, and a completion with nothing being sent, do nothing is the model's choice (log 4). A local
queue entry so freed goes to the first pending class after the one last served, which builds and places one telegram
at the tail then: a reply, the oldest waiting kiln's SETPOINT from the kiln's present state, the head notice with the
drop count, or the next label row; with no class pending the queue only loses its head (R4, R14 to R17, R24, R41, R42,
R98, R184). The rotation of the classes and when each is pending are spelled out (R15, R16). A reply so placed lets
the request at the head of the request queue be served at once (R24). A completion of the head label's row 7, the row
with flags 1, takes the head to AWAIT_PRINT, starts the label timer at 0 and takes the label timeout of that moment
into use; any other leaves the head's state, the timer and the timeout in use (R184). -/
def Obligations.TransmittersAlternateAndOffer : Prop :=
  ((∀ (s : State) (p : PortId) (idle : Nat),
     let q := s.port p
     ((3 ≤ idle ∧ q.sending = none) →
       exec (.transmitStart p idle) s = .next (s.setPort p { q with sending :=
         if q.turn = .pass then (if q.passQueue ≠ [] then some .pass else if q.localQueue ≠ [] then some .loc else none)
         else (if q.localQueue ≠ [] then some .loc else if q.passQueue ≠ [] then some .pass else none) }))
     ∧ ((idle < 3 ∨ q.sending ≠ none) → exec (.transmitStart p idle) s = .next s)
     ∧ (q.sending = none → exec (.transmissionComplete p) s = .next s)
     ∧ (q.sending = some .pass → exec (.transmissionComplete p) s =
         .next (s.setPort p { q with sending := none, passQueue := q.passQueue.tail, turn := .loc }))
     ∧ (q.sending = some .loc → ∃ t, exec (.transmissionComplete p) s = .next t
         ∧ (t.port p).sending = none ∧ (t.port p).turn = .pass ∧ (t.port p).passQueue = q.passQueue
         ∧ (∃ added, (t.port p).localQueue = q.localQueue.tail ++ added)
         ∧ (t.port (otherPort p)).sending = (s.port (otherPort p)).sending
         ∧ (t.port (otherPort p)).turn = (s.port (otherPort p)).turn
         ∧ (t.port (otherPort p)).passQueue = (s.port (otherPort p)).passQueue))
   ∧ ∀ (straps : Byte) (eye encA encB : Bool) (p : PortId), ((State.afterReset straps eye encA encB).port p).turn = .pass)
  ∧ (∀ (s : State) (p : PortId) (x : List Byte) (rest : List (List Byte)),
     (s.port p).sending = some .loc → (s.port p).localQueue = x :: rest → s.requests = [] →
     ∃ t, exec (.transmissionComplete p) s = .next t
       ∧ ((∀ c, s.pendingOn p c = false) →
           (t.port p).localQueue = rest ∧ (t.port p).lastServed = (s.port p).lastServed ∧ t.sendCounter = s.sendCounter)
       ∧ (∀ r, (s.port p).lastServed.after.find? (s.pendingOn p) = some .reply → s.replySlot = some r →
           (t.port p).localQueue = rest ++ [telegram (stationByte r.dest) (stationByte s.own) 0x51 s.sendCounter r.payload]
           ∧ (t.port p).lastServed = .reply ∧ t.replySlot = none ∧ t.sendCounter = s.sendCounter + 1)
       ∧ (∀ k ks d m sp, (s.port p).lastServed.after.find? (s.pendingOn p) = some .setpoint →
           (s.port p).setpointWaiting = k :: ks → s.holder (.actuator k) = some d →
           (s.kiln k).state.setpointMode = some m → (s.kiln k).setpoints = some sp →
           (t.port p).localQueue = rest ++ [telegram (stationByte d) (stationByte s.own) 0x30 s.sendCounter
             (be8 k.val ++ be8 m ++ beI16 sp.dry ++ beI16 sp.wet ++ be8 (if (s.kiln k).fan = .reverse then 1 else 0))]
           ∧ (t.port p).lastServed = .setpoint ∧ (t.port p).setpointWaiting = ks ∧ t.sendCounter = s.sendCounter + 1)
       ∧ (∀ n ns d, (s.port p).lastServed.after.find? (s.pendingOn p) = some .notice →
           s.notices = n :: ns → s.notifyStation = some d →
           (t.port p).localQueue = rest ++ [telegram (stationByte d) (stationByte s.own) 0x52 s.sendCounter
             (beBool n.kind.isAlarm ++ be8 n.kind.code ++ be8 s.dropCount ++ n.data)]
           ∧ (t.port p).lastServed = .notice ∧ t.notices = ns ∧ t.dropCount = 0 ∧ t.sendCounter = s.sendCounter + 1)
       ∧ (∀ l ls d, (s.port p).lastServed.after.find? (s.pendingOn p) = some .labelRow →
           s.labels.queue = l :: ls → s.holder .printer = some d →
           (t.port p).localQueue = rest ++ [telegram (stationByte d) (stationByte s.own) 0x40 s.sendCounter
             (be32 l.pack.toNat ++ be8 s.labels.nextRow ++ be8 (if s.labels.nextRow = 7 then 1 else 0)
               ++ l.rows.getD s.labels.nextRow [])]
           ∧ (t.port p).lastServed = .labelRow ∧ t.labels.nextRow = s.labels.nextRow + 1
           ∧ t.sendCounter = s.sendCounter + 1))
  ∧ ((SourceClass.reply.after = [.setpoint, .notice, .labelRow, .reply]
      ∧ SourceClass.setpoint.after = [.notice, .labelRow, .reply, .setpoint]
      ∧ SourceClass.notice.after = [.labelRow, .reply, .setpoint, .notice]
      ∧ SourceClass.labelRow.after = [.reply, .setpoint, .notice, .labelRow])
   ∧ ∀ (s : State) (p : PortId),
     (s.pendingOn p .reply = true ↔ ∃ r, s.replySlot = some r ∧ r.port = p)
     ∧ (s.pendingOn p .setpoint = true ↔ (s.port p).setpointWaiting ≠ [])
     ∧ (s.pendingOn p .notice = true ↔ s.notices ≠ [] ∧ ∃ d, s.notifyStation = some d ∧ s.stations[d].side = p)
     ∧ (s.pendingOn p .labelRow = true ↔ s.labels.queue ≠ [] ∧ s.labels.head = some .sending ∧ s.labels.nextRow < 8
         ∧ ∃ d, s.holder .printer = some d ∧ s.stations[d].side = p))
  ∧ ((∀ (s : State) (p : PortId) (x : List Byte) (rest : List (List Byte)),
     (s.port p).sending = some .loc → (s.port p).localQueue = x :: rest →
     let final : Prop := s.labels.head = some .sending ∧ s.labels.nextRow = 8 ∧ x.getD 3 0 = 0x40 ∧ u8 x 11 = 1
     (s.requests = [] → ∃ t, exec (.transmissionComplete p) s = .next t ∧ t.labels.queue = s.labels.queue
       ∧ (final → t.labels.head = some .awaitPrint ∧ t.labels.timer = some 0
           ∧ t.labels.timeoutInUse = s.line.settings.labelTimeout)
       ∧ (¬ final → t.labels.head = s.labels.head ∧ t.labels.timer = s.labels.timer
           ∧ t.labels.timeoutInUse = s.labels.timeoutInUse))
     ∧ (∀ r first others, ¬ final → (s.port p).lastServed.after.find? (s.pendingOn p) = some .reply →
         s.replySlot = some r → s.requests = first :: others →
         let placed : State := { s.setPort p { s.port p with
             localQueue := rest ++ [telegram (stationByte r.dest) (stationByte s.own) 0x51 s.sendCounter r.payload]
             sending := none, turn := .pass, lastServed := .reply } with
           sendCounter := s.sendCounter + 1, replySlot := none, requests := others }
         exec (.transmissionComplete p) s = .next (answer first (placed.judge first)).drain))
   ∧ ∀ (dest source sequence : Byte) (n row : Nat) (text : List Byte),
       let x := telegram dest source 0x40 sequence (be32 n ++ be8 row ++ be8 (if row = 7 then 1 else 0) ++ text)
       x.getD 3 0 = 0x40 ∧ (u8 x 11 = 1 ↔ row = 7))

/-- An accepted WRITE_STATION: the checks of R12, and the map after it as R13 gives it; the reply is OK without data,
and a refused write changes nothing. What follows the change of the map: a SETPOINT that waits on the old side of its
actuator station is withdrawn and produced for the new one (R17); then the head notice is produced under the new map
(R41); then the head label is started, goes on, starts again from row 0, or waits (R183). The production of a
SETPOINT: none without an actuator station, a kiln that waits keeps its place, one that may be placed is placed at
once, and else the kiln waits (R15, R17, R97, R98). The production of label rows: each row placed at once while the
queue has room and no other class is pending (R15, R184). -/
def Obligations.WriteStationFollowsItsChecks : Prop :=
  (∀ (s : State) (d : StationId) (p : PortId) (g : Byte) (a : List Byte), s.Ready d .writeStation →
    let r := requestFor .writeStation d p g a
    let refused (res : Result) : Prop := exec (.writeStation d p g a) s = .next (answer r ⟨s, res, []⟩)
    (a.length ≠ 6 → refused .badArgument)
    ∧ (a.length = 6 → (u8 a 0 = 255 ∨ u8 a 0 = s.own.val ∨ 6 < u8 a 1 ∨ (2 ≤ u8 a 1 ∧ u8 a 1 ≤ 4 ∧ 15 < u8 a 2)
        ∨ 1 < u8 a 3 ∨ 1 < u8 a 5 ∨ (u8 a 5 = 1 ∧ u8 a 1 ≠ 1)) → refused .badArgument)
    ∧ (∀ (w : StationId) (role : Role), a.length = 6 → u8 a 0 = w.val → w ≠ s.own → u8 a 1 = role.code →
        ((∃ k, role.kiln? = some k) → u8 a 2 = role.kilnCode) → u8 a 3 ≤ 1 → u8 a 5 ≤ 1 → (u8 a 5 = 1 → role = .supervisor) →
        let old := s.stations[w]
        ((old.role ≠ role ∧ ∃ k, (role.kiln? = some k ∨ old.role.kiln? = some k) ∧ (s.kiln k).state ≠ .idle) →
          refused .wrongState)
        ∧ ((∀ k, old.role ≠ role → (role.kiln? = some k ∨ old.role.kiln? = some k) → (s.kiln k).state = .idle) →
          ∃ t, exec (.writeStation d p g a) s = .next (answer r ⟨t, .ok, []⟩)
            ∧ t.stations[w] = ⟨role, if u8 a 3 = 1 then .b else .a,
                if role = .supervisor then BitVec.ofNat 4 (u8 a 4) else 0, u8 a 5 = 1⟩
            ∧ (∀ e : StationId, e ≠ w → s.holder role = some e → role.isUnique = true →
                t.stations[e] = ⟨.none, s.stations[e].side, 0, false⟩)
            ∧ (∀ e : StationId, e ≠ w → (s.holder role ≠ some e ∨ role.isUnique = false) →
                t.stations[e] = { s.stations[e] with notify :=
                  s.stations[e].notify && !(u8 a 5 == 1 && s.notifyStation == some e) })
            ∧ t.kilns = s.kilns ∧ t.line = s.line ∧ t.packLog = s.packLog ∧ t.requests = s.requests
            ∧ t.labels.queue = s.labels.queue
            ∧ (let m : State := { s with stations := t.stations }
               let waits (k : KilnId) : Prop := role = .actuator k
                 ∧ k ∈ (s.port (otherPort (if u8 a 3 = 1 then .b else .a))).setpointWaiting
               ∀ moved : State, (∀ k, waits k → moved = (m.withdrawSetpoint k).produceSetpoint k) →
                 ((∀ k, ¬ waits k) → moved = m) →
                 let told := moved.produceNotices
                 let restarted : State := { told with labels := { told.labels with head := some .sending, nextRow := 0 } }
                 (s.labels.head = some .waiting → s.labels.queue ≠ [] →
                   (m.holder .printer = none → t = told)
                   ∧ (m.holder .printer ≠ none → t = restarted.produceRows))
                 ∧ (s.labels.head = some .sending → s.labels.nextRow < 8 → s.labels.queue ≠ [] →
                   (m.holder .printer = s.holder .printer → t = told.produceRows)
                   ∧ (m.holder .printer ≠ s.holder .printer → m.holder .printer ≠ none → t = restarted.produceRows)
                   ∧ (m.holder .printer ≠ s.holder .printer → m.holder .printer = none →
                       t = { told with labels := { told.labels with head := some .waiting, nextRow := 0 } }))
                 ∧ ((s.labels.head = none ∨ s.labels.head = some .awaitPrint
                     ∨ (s.labels.head = some .sending ∧ 8 ≤ s.labels.nextRow)) → t = told)))))
  ∧ (∀ (s : State) (k : KilnId),
     (s.withdrawSetpoint k = { s with
       portA := { s.portA with setpointWaiting := s.portA.setpointWaiting.filter (fun j => j != k) }
       portB := { s.portB with setpointWaiting := s.portB.setpointWaiting.filter (fun j => j != k) } })
     ∧ (s.holder (.actuator k) = none → s.produceSetpoint k = s)
     ∧ ∀ d, s.holder (.actuator k) = some d → let p := s.stations[d].side
       (k ∈ (s.port p).setpointWaiting → s.produceSetpoint k = s)
       ∧ (∀ now, k ∉ (s.port p).setpointWaiting → (s.port p).localQueue.length < 16 → (∀ c, s.pendingOn p c = false) →
           (s.kiln k).state ≠ .idle → (s.kiln k).setpoints = some now →
           s.produceSetpoint k = { s.modPort p (fun x => { x with localQueue := x.localQueue
               ++ [telegram (stationByte d) (stationByte s.own) 0x30 s.sendCounter (be8 k.val
                 ++ be8 (if (s.kiln k).state = .stopped then 0
                     else if (s.kiln k).state = .running ∨ (s.kiln k).state = .held then 2 else 1)
                 ++ beI16 now.dry ++ beI16 now.wet ++ be8 (if (s.kiln k).fan = .reverse then 1 else 0))] }) with
             sendCounter := s.sendCounter + 1 })
       ∧ (k ∉ (s.port p).setpointWaiting → (16 ≤ (s.port p).localQueue.length ∨ ∃ c, s.pendingOn p c = true) →
           s.produceSetpoint k = s.modPort p (fun x => { x with setpointWaiting := x.setpointWaiting ++ [k] })))
  ∧ (∀ s : State,
     ((s.labels.head ≠ some .sending ∨ 8 ≤ s.labels.nextRow ∨ s.labels.queue = [] ∨ s.holder .printer = none) →
       s.produceRows = s)
     ∧ ∀ l ls d, s.labels.head = some .sending → s.labels.nextRow < 8 → s.labels.queue = l :: ls →
         s.holder .printer = some d → let p := s.stations[d].side
       ((s.port p).localQueue.length < 16 → (∀ c, c ≠ .labelRow → s.pendingOn p c = false) →
         s.produceRows = ({ s.modPort p (fun q => { q with localQueue := q.localQueue
             ++ [telegram (stationByte d) (stationByte s.own) 0x40 s.sendCounter
               (be32 l.pack.toNat ++ be8 s.labels.nextRow ++ be8 (if s.labels.nextRow = 7 then 1 else 0)
                 ++ l.rows.getD s.labels.nextRow [])] }) with
           sendCounter := s.sendCounter + 1
           labels := { s.labels with nextRow := s.labels.nextRow + 1 } } : State).produceRows)
       ∧ ((16 ≤ (s.port p).localQueue.length ∨ ∃ c, c ≠ .labelRow ∧ s.pendingOn p c = true) → s.produceRows = s))

/-! ## Chapter 2: supervision -/

/-- Admission of a request, for every request row: discarded and counted where its station is no supervisor and the
map is closed, dropped and counted at a queue of 4, else admitted at the tail; with no request waiting and the slot
empty it is served at once (R21). Serving checks first the kind against the catalogue, then the station's classes, and
else hands the request to its owner (R23); so UNKNOWN_REQUEST's own command is answered with that result, its kind and
tag, and no state is changed. Waiting requests: none is served while the slot holds a reply, and while it is empty the
head is served and answered, one after the other (R24). The catalogue: the code and the class of each of the 37 kinds,
and the bit of each class in a station's classes (R26). -/
def Obligations.RequestsAreAdmittedAndJudged : Prop :=
  (∀ (i : Instr) (r : Request) (s : State), requestOfCommand i = some r →
     let supervisor := s.stations[r.station].role = .supervisor
     let isOpen := ∀ d : StationId, s.stations[d].role ≠ .supervisor
     (¬ supervisor → ¬ isOpen → exec i s = .next { s with supervision :=
         { s.supervision with requestsDiscarded := bump16 s.supervision.requestsDiscarded } })
     ∧ ((supervisor ∨ isOpen) → 4 ≤ s.requests.length → exec i s = .next { s with supervision :=
         { s.supervision with requestsDropped := bump16 s.supervision.requestsDropped } })
     ∧ ((supervisor ∨ isOpen) → s.requests.length < 4 → exec i s = .next { s with requests := s.requests ++ [r] }.drain)
     ∧ ((supervisor ∨ isOpen) → s.requests.length < 4 → s.replySlot ≠ none →
         exec i s = .next { s with requests := s.requests ++ [r] })
     ∧ ((supervisor ∨ isOpen) → s.requests = [] → s.replySlot = none → exec i s = .next (answer r (s.judge r))))
  ∧ ((∀ (r : Request) (s : State),
     (ReqKind.ofByte r.kind = none → s.judge r = ⟨s, .unknownRequest, []⟩)
     ∧ ∀ k : ReqKind, ReqKind.ofByte r.kind = some k →
       let classes : BitVec 4 := if (∀ d : StationId, s.stations[d].role ≠ .supervisor) then 0xF
         else if s.stations[r.station].role = .supervisor then s.stations[r.station].classes else 0
       (classes.getLsbD k.cls.bit = true → s.judge r = serve k r s)
       ∧ (classes.getLsbD k.cls.bit = false → s.judge r = ⟨s, .notPermitted, []⟩))
   ∧ (∀ k : ReqKind, ReqKind.ofByte k.code = some k)
   ∧ (∀ b : Byte, ReqKind.ofByte b = none ↔ b.toNat ∉ catalogueCodes)
   ∧ ∀ (kind : Byte) (d : StationId) (p : PortId) (g : Byte) (a : List Byte) (s : State), kind.toNat ∉ catalogueCodes →
       (s.stations[d].role = .supervisor ∨ ∀ e : StationId, s.stations[e].role ≠ .supervisor) → s.requests = [] →
       s.replySlot = none →
       exec (.unknownRequest kind d p g a) s = .next (answer ⟨kind, g, a, d, p⟩ ⟨s, .unknownRequest, []⟩))
  ∧ (∀ s : State, ((s.requests = [] ∨ s.replySlot ≠ none) → s.drain = s)
     ∧ ∀ r rest, s.requests = r :: rest → s.replySlot = none →
         s.drain = (answer r (State.judge { s with requests := rest } r)).drain)
  ∧ (let table : List (ReqKind × Nat × ReqClass) :=
       [(.readKiln, 0x01, .read), (.readCharge, 0x02, .read), (.readPackLog, 0x03, .read), (.readLot, 0x04, .read),
        (.readEntry, 0x05, .read), (.readLine, 0x06, .read), (.readCounters, 0x07, .read), (.heartbeat, 0x10, .operate),
        (.setClock, 0x11, .operate), (.loadCharge, 0x12, .operate), (.startKiln, 0x13, .operate),
        (.override, 0x14, .operate), (.resume, 0x15, .operate), (.stop, 0x16, .operate), (.restart, 0x17, .operate),
        (.unload, 0x18, .operate), (.planerFeed, 0x19, .operate), (.releaseCharge, 0x1A, .operate),
        (.closePack, 0x1B, .operate), (.lineReset, 0x1C, .operate), (.editOpen, 0x20, .schedule),
        (.editHeader, 0x21, .schedule), (.editStep, 0x22, .schedule), (.editCommit, 0x23, .schedule),
        (.editAbort, 0x24, .schedule), (.entryDelete, 0x25, .schedule), (.writeStation, 0x30, .configure),
        (.writeSpecies, 0x31, .configure), (.writeKilnLimits, 0x32, .configure), (.writeFaultActions, 0x33, .configure),
        (.writeWatchdog, 0x34, .configure), (.writeLine, 0x35, .configure), (.writeMark, 0x36, .configure),
        (.writeSort, 0x37, .configure), (.writeBin, 0x38, .configure), (.writeLabelField, 0x39, .configure),
        (.setPackBase, 0x3A, .configure)]
     (∀ k : ReqKind, (k, k.code.toNat, k.cls) ∈ table) ∧ catalogueCodes = table.map (fun x => x.2.1)
     ∧ ReqClass.read.bit = 0 ∧ ReqClass.operate.bit = 1 ∧ ReqClass.schedule.bit = 2 ∧ ReqClass.configure.bit = 3)

/-- The reply to a served request: kind and tag copied, result and data as given, to the requester, on its side where
it is a supervisor as the request has left the map and on the port of arrival otherwise; placed at once where the
local queue has room and no other class is pending, and else held in the slot (R14, R15, R24). A request refused by
its owner changes no state, and carries data only as INVALID_STEP or as a dispatched HEARTBEAT; TOO_EARLY comes from a
HEARTBEAT alone; the reads change nothing but READ_COUNTERS' counters and the count of free values; a REPLY's payload
is three bytes and the data, the first two copied from the request (R25, R29). The seventeen result codes, 0 to 16 in
the order of the spec's table (R28). -/
def Obligations.RepliesArePlacedAndRefusalsChangeNothing : Prop :=
  (∀ (r : Request) (v : Served),
     let u := v.st
     let p := if u.stations[r.station].role = .supervisor then u.stations[r.station].side else r.port
     let payload := [r.kind, r.tag, BitVec.ofNat 8 v.result.code] ++ v.data
     ((u.port p).localQueue.length < 16 → (∀ c, c ≠ .reply → u.pendingOn p c = false) →
       answer r v = { u.modPort p (fun q => { q with
           localQueue := q.localQueue
             ++ [telegram (stationByte r.station) (stationByte u.own) 0x51 u.sendCounter payload] }) with
         sendCounter := u.sendCounter + 1, replySlot := none })
     ∧ ((16 ≤ (u.port p).localQueue.length ∨ ∃ c, c ≠ .reply ∧ u.pendingOn p c = true) →
       answer r v = { u with replySlot := some ⟨p, r.station, payload⟩ }))
  ∧ ((∀ (k : ReqKind) (r : Request) (s : State), let v := serve k r s
     (v.result ≠ .ok → v.result ≠ .okClamped → v.result ≠ .tooEarly → v.st = s)
     ∧ (v.result ≠ .ok → v.result ≠ .okClamped → v.result ≠ .invalidStep → k ≠ .heartbeat → v.data = [])
     ∧ (v.result = .tooEarly → k = .heartbeat) ∧ (v.result = .invalidStep → k = .editCommit)
     ∧ (k.cls = .read → k ≠ .readCounters → { v.st with freeCount := s.freeCount } = s))
   ∧ ∀ (r : Request) (v : Served),
       (replyPayload r v).length = 3 + v.data.length ∧ (replyPayload r v).take 2 = [r.kind, r.tag])
  ∧ (let table : List Result := [.ok, .okClamped, .notPermitted, .unknownRequest, .badArgument, .wrongState, .notMapped,
       .notFound, .speciesMismatch, .inUse, .tableFull, .stackFull, .conditionPresent, .editBusy, .noEdit, .invalidStep,
       .tooEarly]
     table.map Result.code = List.range 17 ∧ ∀ x : Result, x ∈ table)

/-- The admission of a raised notice: without a notify station it is dropped; a KILN_STATUS meeting one of its kiln
replaces that entry's data; an INFO notice is admitted below 24 entries and an ALARM below 32; an ALARM at 32 entries
displaces the newest INFO entry, which counts as dropped, or is dropped itself; each drop counts in the running drop
count and in the SUPERVISION group, and the queue never comes to hold more than 24 INFO entries (R38, R39, R40). The
head notice is sent where the notify station's side has room and no other class is pending there, with the running
drop count, which returns to 0; else the queue waits (R41, R42). A notice that is raised is judged and then sent where
it can be. The code and the class, INFO or ALARM, of each of the sixteen kinds that are queued (R37). -/
def Obligations.NoticesAreJudgedAndSent : Prop :=
  (∀ (n : Notice) (s : State),
     let dropped (t : State) : State := { t with
       dropCount := min 255 (t.dropCount + 1)
       supervision := { t.supervision with noticesDropped := bump16 t.supervision.noticesDropped } }
     let meets (e : Notice) : Prop := n.kind = .kilnStatus ∧ e.kind = .kilnStatus ∧ e.kiln = n.kiln
     let infos (l : List Notice) : Nat := l.countP (fun e => !e.kind.isAlarm)
     (s.notifyStation = none → s.judgeNotice n = dropped s)
     ∧ (s.notifyStation ≠ none → (∃ e ∈ s.notices, meets e) → ∃ q : List Notice, s.judgeNotice n = { s with notices := q }
         ∧ q.length = s.notices.length ∧ ∀ (i : Nat) (e : Notice), s.notices[i]? = some e →
           ∃ e' : Notice, q[i]? = some e' ∧ (meets e → e' = { e with data := n.data }) ∧ (¬ meets e → e' = e))
     ∧ (s.notifyStation ≠ none → (∀ e ∈ s.notices, ¬ meets e) →
         (n.kind.isAlarm = false → s.notices.length < 24 → s.judgeNotice n = { s with notices := s.notices ++ [n] })
         ∧ (n.kind.isAlarm = false → 24 ≤ s.notices.length → s.judgeNotice n = dropped s)
         ∧ (n.kind.isAlarm = true → s.notices.length < 32 → s.judgeNotice n = { s with notices := s.notices ++ [n] })
         ∧ (n.kind.isAlarm = true → s.notices.length = 32 →
             ((∀ e ∈ s.notices, e.kind.isAlarm = true) → s.judgeNotice n = dropped s)
             ∧ (∀ before e after, s.notices = before ++ e :: after → e.kind.isAlarm = false →
                 (∀ x ∈ after, x.kind.isAlarm = true) →
                 s.judgeNotice n = { dropped s with notices := before ++ after ++ [n] })))
     ∧ (infos s.notices ≤ 24 → infos (s.judgeNotice n).notices ≤ 24))
  ∧ (∀ (s : State) (n : Notice) (rest : List Notice), s.notices = n :: rest →
     (s.notifyStation = none → s.produceNotices = s)
     ∧ ∀ d, s.notifyStation = some d → let p := s.stations[d].side
       ((s.port p).localQueue.length < 16 → (∀ c, c ≠ .notice → s.pendingOn p c = false) →
         s.produceNotices = ({ s.modPort p (fun q => { q with localQueue := q.localQueue
             ++ [telegram (stationByte d) (stationByte s.own) 0x52 s.sendCounter
               (be8 (if n.kind.isAlarm = true then 1 else 0) ++ be8 n.kind.code ++ be8 s.dropCount ++ n.data)] }) with
           sendCounter := s.sendCounter + 1, notices := rest, dropCount := 0 } : State).produceNotices)
       ∧ ((16 ≤ (s.port p).localQueue.length ∨ ∃ c, c ≠ .notice ∧ s.pendingOn p c = true) → s.produceNotices = s))
  ∧ (let table : List (NoticeKind × Nat × Bool) :=
       [(.kilnStatus, 0x02, false), (.stepChange, 0x03, false), (.chargeDried, 0x04, false), (.faultRaised, 0x05, true),
        (.faultCleared, 0x06, false), (.kilnStopped, 0x07, true), (.supervisorLost, 0x08, true),
        (.supervisorBack, 0x09, false), (.editExpired, 0x0A, false), (.scheduleHeld, 0x0B, true),
        (.scheduleFollowed, 0x0C, false), (.packClosed, 0x0D, false), (.labelFailed, 0x0E, true), (.lotLost, 0x0F, true),
        (.lineHold, 0x10, false), (.boardsLost, 0x11, true)]
     (∀ k : NoticeKind, (k, k.code, k.isAlarm) ∈ table)
     ∧ ∀ (n : Notice) (s : State), s.raise n = (s.judgeNotice n).produceNotices)

/-- HEARTBEAT by the watchdog's state and the time since the last restart: DISARMED and LAPSED arm it, LAPSED with
SUPERVISOR_BACK; ARMED restarts the interval at or above the lower limit in use and lapses below it with TOO_EARLY;
every reply carries the state after serving and the minutes since reset (R31, R33). WATCHDOG_EXPIRY in ARMED lapses
with cause 0; that it does so at every count of the interval is the model's choice (log 3), and so is that it does
nothing in another state (log 4). A lapse stops the interval, its seconds held as 0 (the model's choice, log 23),
raises SUPERVISOR_LOST with the upper limit in use and the cause, 0 for expiry and 1 for an early HEARTBEAT, and then
(the model's order, log 24) every kiln unit that is not IDLE takes the SUPERVISOR_LOST detection once, in an order that
nothing fixes (log 7): each kiln ends as the detection leaves it, an IDLE one unchanged (R32, R113). -/
def Obligations.HeartbeatsAndLapses : Prop :=
  (∀ (s : State) (d : StationId) (p : PortId) (g : Byte) (a : List Byte), s.Ready d .heartbeat →
     let r := requestFor .heartbeat d p g a
     let w := s.watchdog
     let armed : State := { s with watchdog := ⟨.armed, w.upperWritten, w.lowerWritten, w.upperWritten, w.lowerWritten, 0⟩ }
     let reply (t : State) (res : Result) (code : Nat) : Prop :=
       exec (.heartbeat d p g a) s = .next (answer r ⟨t, res, be8 code ++ be32 s.minutes.toNat⟩)
     (a ≠ [] → reply s .badArgument (if w.state = .disarmed then 0 else if w.state = .armed then 1 else 2))
     ∧ (a = [] → w.state = .disarmed → reply armed .ok 1)
     ∧ (a = [] → w.state = .lapsed → reply (armed.raise ⟨.supervisorBack, none, be8 d.val⟩) .ok 1)
     ∧ (a = [] → w.state = .armed → w.lowerInUse ≤ w.elapsed → reply armed .ok 1)
     ∧ (a = [] → w.state = .armed → w.elapsed < w.lowerInUse → reply (s.lapse 1) .tooEarly 2))
  ∧ ((∀ s : State, (s.watchdog.state = .armed → exec .watchdogExpiry s = .next (s.lapse 0))
     ∧ (s.watchdog.state ≠ .armed → exec .watchdogExpiry s = .next s))
   ∧ ∀ (s : State) (cause : Nat),
     (s.lapse cause).watchdog = { s.watchdog with state := .lapsed, elapsed := 0 }
     ∧ (s.lapse cause).line = s.line ∧ (s.lapse cause).clock = s.clock ∧ (s.lapse cause).stations = s.stations
     ∧ (∃ (order : List KilnId) (n : Nat), order.Nodup ∧ (∀ k, k ∈ order ↔ (s.kiln k).state ≠ .idle)
         ∧ s.lapse cause = { order.foldl (fun u k => u.detect false .supervisor k)
             (({ s with watchdog := { s.watchdog with state := .lapsed, elapsed := 0 } } : State).raise
               ⟨.supervisorLost, none, be16 s.watchdog.upperInUse ++ be8 cause⟩) with freeCount := n })
     ∧ ∀ k : KilnId, let told : State := { s with watchdog := { s.watchdog with state := .lapsed, elapsed := 0 } }
       (s.lapse cause).kiln k = (told.detect false .supervisor k).kiln k
       ∧ ((s.kiln k).state = .idle → (s.lapse cause).kiln k = s.kiln k))

/-- WRITE_WATCHDOG: the limits clamped, the lower one under the upper; OK_CLAMPED where a value changed; the written
limits alone change, and the next restart of the interval takes them into use; READ_ENTRY's seven bytes; the values at
reset (R30), where the seconds since restart are 0, the model's choice while no interval runs (log 23). -/
def Obligations.WriteWatchdogSetsTheWrittenLimits : Prop :=
  (∀ (s : State) (d : StationId) (p : PortId) (g : Byte) (a : List Byte), s.Ready d .writeWatchdog →
    let r := requestFor .writeWatchdog d p g a
    let upper := max 10 (min 600 (u16 a 0))
    let lower := min (min 60 (u8 a 2)) (upper - 1)
    (a.length ≠ 3 → exec (.writeWatchdog d p g a) s = .next (answer r ⟨s, .badArgument, []⟩))
    ∧ (a.length = 3 → exec (.writeWatchdog d p g a) s = .next (answer r
        ⟨{ s with watchdog := { s.watchdog with upperWritten := upper, lowerWritten := lower } },
          if upper = u16 a 0 ∧ lower = u8 a 2 then .ok else .okClamped, []⟩)))
  ∧ (∀ s : State, s.restartWatchdog.watchdog.upperInUse = s.watchdog.upperWritten
      ∧ s.restartWatchdog.watchdog.lowerInUse = s.watchdog.lowerWritten)
  ∧ (∀ (s : State) (d : StationId) (p : PortId) (g : Byte), s.Ready d .readEntry → let a : List Byte := [10, 0, 0]
      exec (.readEntry d p g a) s = .next (answer (requestFor .readEntry d p g a) ⟨s, .ok,
        be16 s.watchdog.upperWritten ++ be8 s.watchdog.lowerWritten ++ be16 s.watchdog.upperInUse
          ++ be8 s.watchdog.lowerInUse ++ be8 (if s.watchdog.state = .disarmed then 0
            else if s.watchdog.state = .armed then 1 else 2)⟩))
  ∧ ∀ (straps : Byte) (eye encA encB : Bool), (State.afterReset straps eye encA encB).watchdog = ⟨.disarmed, 60, 0, 60, 0, 0⟩

/-- SET_CLOCK sets the mill clock, makes it SET and restarts its minute phase; MILL_CLOCK_MINUTE advances it by 1
modulo 2^32 whatever its state; RESET_MINUTE_COUNT advances the minutes since reset, which SET_CLOCK leaves alone
(R33, R34). That the two minute commands take effect at every phase of their minute is the model's choice (log 3). -/
def Obligations.ClocksCountMinutes : Prop :=
  (∀ (s : State) (d : StationId) (p : PortId) (g : Byte) (a : List Byte), s.Ready d .setClock →
    let r := requestFor .setClock d p g a
    (a.length ≠ 4 → exec (.setClock d p g a) s = .next (answer r ⟨s, .badArgument, []⟩))
    ∧ (a.length = 4 → exec (.setClock d p g a) s = .next (answer r
        ⟨{ s with clock := { value := BitVec.ofNat 32 (u32 a 0), isSet := true, phase := 0 } }, .ok, []⟩)))
  ∧ (∀ s : State, exec .millClockMinute s =
      .next { s with clock := { s.clock with value := s.clock.value + 1, phase := 0 } })
  ∧ ∀ s : State, exec .resetMinuteCount s = .next { s with minutes := s.minutes + 1, minutePhase := 0 }

/-- READ_COUNTERS: the counters of the named group in order, two bytes each, which are 0 afterwards while the other
groups stay; any other group, or another argument count, is refused (R19, R36, R160). -/
def Obligations.ReadCountersClearsItsGroup : Prop :=
  ∀ (s : State) (d : StationId) (p : PortId) (g : Byte) (a : List Byte), s.Ready d .readCounters →
    let r := requestFor .readCounters d p g a
    let reply (t : State) (data : List Byte) : Prop := exec (.readCounters d p g a) s = .next (answer r ⟨t, .ok, data⟩)
    let port (c : PortCounters) : List Byte := be16 c.good ++ be16 c.checkErrors ++ be16 c.formatErrors ++ be16 c.forwarded
      ++ be16 c.passDrops ++ be16 c.loops
    let v := s.supervision
    let l := s.line.counters
    ((a.length ≠ 1 ∨ 3 < u8 a 0) → exec (.readCounters d p g a) s = .next (answer r ⟨s, .badArgument, []⟩))
    ∧ (a = [0] → reply { s with portA := { s.portA with counters := ⟨0, 0, 0, 0, 0, 0⟩ } } (port s.portA.counters))
    ∧ (a = [1] → reply { s with portB := { s.portB with counters := ⟨0, 0, 0, 0, 0, 0⟩ } } (port s.portB.counters))
    ∧ (a = [2] → reply { s with supervision := ⟨0, 0, 0⟩ }
        (be16 v.requestsDropped ++ be16 v.requestsDiscarded ++ be16 v.noticesDropped))
    ∧ (a = [3] → reply { s with line := { s.line with counters := ⟨0, 0, 0, 0, 0, 0, 0⟩ } }
        (be16 l.opened ++ be16 l.departed ++ be16 l.lost ++ be16 l.reverseEdges ++ be16 l.scanStale
          ++ be16 l.scanUnmatched ++ be16 l.latePrint))

/-- READ_ENTRY: the named entry as it stands, in its owner's layout, for every table and index in range; refused with
BAD_ARGUMENT on another count, table or index (R27, R13, R44, R78, R115, R59, R149, R162, R164, R178, R30). -/
def Obligations.ReadEntryShowsTheEntry : Prop :=
  ∀ (s : State) (d : StationId) (p : PortId) (g : Byte) (a : List Byte), s.Ready d .readEntry →
    let r := requestFor .readEntry d p g a
    let shows (data : List Byte) : Prop := exec (.readEntry d p g a) s = .next (answer r ⟨s, .ok, data⟩)
    let limit := [255, 16, 16, 16, 32, 768, 6, 16, 16, 16, 1]
    ((a.length ≠ 3 ∨ 10 < u8 a 0 ∨ limit.getD (u8 a 0) 0 ≤ u16 a 1) →
      exec (.readEntry d p g a) s = .next (answer r ⟨s, .badArgument, []⟩))
    ∧ (a.length = 3 →
      (∀ e : StationId, u8 a 0 = 0 → u16 a 1 = e.val → let x := s.stations[e]
        shows (be8 x.role.code ++ be8 x.role.kilnCode ++ be8 (if x.side = .b then 1 else 0) ++ be8 x.classes.toNat
          ++ be8 (if x.notify = true then 1 else 0)))
      ∧ (∀ i : Fin 16, u8 a 0 = 1 → u16 a 1 = i.val → let x := s.species[i]
        shows (beI16 x.offset ++ be16 x.slope ++ be8 x.coefficient))
      ∧ (∀ k : KilnId, u8 a 0 = 2 → u16 a 1 = k.val → let x := (s.kiln k).written
        shows (beI16 x.dryMin ++ beI16 x.dryMax ++ beI16 x.plausLow ++ beI16 x.plausHigh ++ beI16 x.deviationBand
          ++ be8 x.deviationMinutes ++ be8 x.silenceMinutes ++ beI16 x.safeDry ++ beI16 x.safeWet ++ be8 x.safeRate
          ++ beI16 x.idleDry ++ beI16 x.idleWet ++ be8 x.group ++ be8 x.tempDeadband ++ be8 x.moistDeadband))
      ∧ (∀ k : KilnId, u8 a 0 = 3 → u16 a 1 = k.val → let x := (s.kiln k).actions
        shows (be8 x.silent.code ++ be8 x.range.code ++ be8 x.deviation.code ++ be8 x.supervisor.code))
      ∧ (∀ i : Fin 32, u8 a 0 = 4 → u16 a 1 = i.val → let x := s.directory[i]
        shows (be8 (if x.valid = true then 1 else 0) ++ be16 x.generation ++ be8 x.header.species ++ [x.header.permit]
          ++ be8 x.header.count ++ be8 x.inUse ++ be8 (if ∃ e, s.staging = some e ∧ e.target = i then 1 else 0)))
      ∧ (∀ (i : Fin 32) (j : Fin 24), u8 a 0 = 5 → u16 a 1 = 24 * i.val + j.val → let x := s.directory[i].steps[j]
        shows (beI16 x.dry ++ beI16 x.depression ++ be8 x.dryRate ++ be8 x.wetRate ++ be8 x.basis.code
          ++ be16 x.exitMoisture ++ be16 x.minDuration ++ be16 x.maxDuration ++ be16 x.fanInterval))
      ∧ (∀ i : Fin 6, u8 a 0 = 6 → u16 a 1 = i.val → let x := s.line.patterns[i]
        shows (be8 x.mask.toNat ++ be16 x.first ++ be16 x.last))
      ∧ (∀ i : Fin 16, u8 a 0 = 7 → u16 a 1 = i.val → let x := s.sortList[i]
        shows (be8 x.mask.toNat ++ be8 x.gradeLow ++ be8 x.gradeHigh ++ be16 x.lengthLow ++ be16 x.lengthHigh
          ++ be8 x.bin.val))
      ∧ (∀ i : Fin 16, u8 a 0 = 8 → u16 a 1 = i.val → let x := s.bins[i]
        let front := be16 x.target ++ be8 x.kind.code ++ be16 x.counter
        (x.pack = none → shows (front ++ List.replicate 10 0))
        ∧ ∀ k, x.pack = some k → shows (front ++ be8 1 ++ be32 k.number.toNat ++ be16 k.count ++ be16 k.countdown
            ++ be8 k.charges.length))
      ∧ (∀ i : Fin 16, u8 a 0 = 9 → u16 a 1 = i.val →
        (s.labels.layout[i] = none → shows (be8 255 ++ List.replicate 20 0))
        ∧ ∀ f, s.labels.layout[i] = some f → shows (be8 f.kind.code ++ be8 f.row ++ be8 f.column ++ be8 f.width
            ++ be8 f.text.length ++ f.text ++ List.replicate (16 - f.text.length) 0))
      ∧ (u8 a 0 = 10 → u16 a 1 = 0 → let x := s.watchdog
        shows (be16 x.upperWritten ++ be8 x.lowerWritten ++ be16 x.upperInUse ++ be8 x.lowerInUse ++ be8 x.state.code)))

/-! ## Chapter 3: moisture arithmetic -/

/-- WRITE_SPECIES: a group above 15 is refused; the three fields are clamped and replace the group together, and
nothing else changes, stored values among it; OK_CLAMPED where a field was clamped. The next correction uses the group
as it stands then: a probe arrival's for the species group of the kiln's charge, a board's for that of its charge
(R45). That the byte of the temperature coefficient is read unsigned is DEDUCED (log 9). -/
def Obligations.WriteSpeciesReplacesTheGroup : Prop :=
  ReqKind.cls .writeSpecies = .configure ∧
  (∀ (s : State) (d : StationId) (p : PortId) (g : Byte) (a : List Byte), s.Ready d .writeSpecies →
    let r := requestFor .writeSpecies d p g a
    let offset := max (-100) (min 100 (i16 a 1))
    let slope := max 512 (min 2048 (u16 a 3))
    let coefficient := min 40 (u8 a 5)
    ((a.length ≠ 6 ∨ 15 < u8 a 0) → exec (.writeSpecies d p g a) s = .next (answer r ⟨s, .badArgument, []⟩))
    ∧ ∀ i : Fin 16, a.length = 6 → u8 a 0 = i.val → exec (.writeSpecies d p g a) s = .next (answer r
        ⟨{ s with species := s.species.set i ⟨offset, slope, coefficient⟩ },
          if offset = i16 a 1 ∧ slope = u16 a 3 ∧ coefficient = u8 a 5 then .ok else .okClamped, []⟩))
  ∧ (∀ (s : State) (k : KilnId) (x : List Byte) (c : Charge) (i : Fin 12), (s.kiln k).state ≠ .idle →
     s.kilnCharge k = some c → i.val < u8 x 0 → (s.kiln k).mask.getLsbD i.val = true →
     ((s.probeArrival k x).kiln k).channels[i] =
       (correct s.species[c.species] (u16 x (1 + 4 * i.val)) (i16 x (3 + 4 * i.val))).map (fun v => ⟨v.value, v.flag, 0⟩))
  ∧ (∀ (s : State) (x : List Byte) (b : Board) (c : Charge), b.split = false → b.charge.bind s.charge? = some c →
     (s.pairBoard x b).zones =
       (List.range (u8 x 6)).map (fun j => correct s.species[c.species] (u16 x (7 + 2 * j)) (i16 x 4)))

/-- The correction of a raw reading. First stage: NO READING gives nothing, OVER RANGE gives 600 with OVER whatever the
temperature and the group, 601..65533 is taken as 600 with a flag that stays CLAMPED, and 0..600 as it is, with a flag
the later stages can still set (R46). Later stages: the temperature clamped into -300..1200, the offset subtracted with
a floor at 0, the slope with rounding to nearest, the temperature term with halves away from zero, and the result
clamped into 0..600 with CLAMPED where that changed it (R47, R48). -/
def Obligations.CorrectionFollowsItsStages : Prop :=
  (∀ (x : SpeciesGroup) (raw : Nat) (t : Int),
     correct x 65535 t = none ∧ correct x 65534 t = some ⟨600, .overRange⟩
     ∧ (601 ≤ raw → raw ≤ 65533 → ∃ c, correct x raw t = some ⟨c, .clamped⟩ ∧ ∃ f, correct x 600 t = some ⟨c, f⟩)
     ∧ (raw ≤ 600 → correct x raw t = some (correctStages x raw t .none)))
  ∧ (∀ (x : SpeciesGroup) (raw : Nat) (t : Int) (flag : MoistureFlag),
     let u : Int := max (-300) (min 1200 t)
     let d : Int := max 0 (raw - x.offset)
     let m : Int := (d * x.slope + 512) / 1024
     let term : Int := if 200 ≤ u then ((u - 200) * x.coefficient + 50) / 100 else -(((200 - u) * x.coefficient + 50) / 100)
     let c := m - term
     correctStages x raw t flag =
       (if c < 0 then ⟨0, .clamped⟩ else if 600 < c then ⟨600, .clamped⟩ else ⟨c.toNat, flag⟩)
     ∧ (correctStages x raw t flag).value ≤ 600)

/-- The charge estimate over the channels that hold a value, in channel order: absent for 0 to 2; the rounded mean of 3
or 4; of 5 to 12, the rounded mean without the highest-numbered of the highest and the lowest-numbered of the lowest,
which are two channels; its flag tells whether a value that entered the mean was clamped or over. The wettest value is
the highest of 3 or more (R52, R53). -/
def Obligations.EstimateIsATrimmedMean : Prop :=
  ∀ l : List Channel, (∀ c ∈ l, c.value ≤ 600) →
    (l.length ≤ 2 → estimateOf l = none ∧ wettestOf l = none)
    ∧ ((l.length = 3 ∨ l.length = 4) → estimateOf l =
        some ⟨((l.map Channel.value).sum + l.length / 2) / l.length, l.any (fun c => c.flag != .none)⟩)
    ∧ (3 ≤ l.length → ∃ w, wettestOf l = some w ∧ (∃ c ∈ l, c.value = w) ∧ ∀ c ∈ l, c.value ≤ w)
    ∧ (5 ≤ l.length → ∀ i j : Fin l.length,
        (∀ m : Fin l.length, l[m].value ≤ l[i].value ∧ (i < m → l[m].value < l[i].value)) →
        (∀ m : Fin l.length, l[j].value ≤ l[m].value ∧ (m < j → l[j].value < l[m].value)) →
        i ≠ j ∧ estimateOf l = some
          ⟨((l.map Channel.value).sum - l[i].value - l[j].value + (l.length - 2) / 2) / (l.length - 2),
            decide (∃ m : Fin l.length, m ≠ i ∧ m ≠ j ∧ l[m].flag ≠ .none)⟩)

/-! ## Chapter 4: drying schedules -/

/-- EDIT_OPEN: refused for an index above 31 and while an edit is open; else the staging area opens on the entry with
a copy of its header and steps and the timer at 0, and the reply gives the index, the generation and the step count
(R65). That an index above 31 is refused with BAD_ARGUMENT also while an edit is open is the model's choice (log 27).
-/
def Obligations.EditOpenCopiesTheEntry : Prop :=
  ∀ (s : State) (d : StationId) (p : PortId) (g : Byte) (a : List Byte), s.Ready d .editOpen →
    let r := requestFor .editOpen d p g a
    ((a.length ≠ 1 ∨ 31 < u8 a 0) → exec (.editOpen d p g a) s = .next (answer r ⟨s, .badArgument, []⟩))
    ∧ ∀ i : Fin 32, a.length = 1 → u8 a 0 = i.val → let e := s.directory[i]
      (s.staging ≠ none → exec (.editOpen d p g a) s = .next (answer r ⟨s, .editBusy, []⟩))
      ∧ (s.staging = none → exec (.editOpen d p g a) s = .next (answer r
          ⟨{ s with staging := some { target := i, header := e.header, steps := e.steps, timer := 0 } }, .ok,
            be8 i.val ++ be16 e.generation ++ be8 e.header.count⟩))

/-- EDIT_HEADER and EDIT_STEP: refused with NO_EDIT while no edit is open and with BAD_ARGUMENT on a wrong count,
species group, index or exit basis; else the staged header, or the staged step at the index, is replaced with clamped
fields, the timer restarts at 0, and OK_CLAMPED tells that a field was clamped. That the depression's two bytes are
unsigned is DEDUCED (log 9) (R66, R67). -/
def Obligations.EditHeaderAndStepReplaceStagedContent : Prop :=
  ∀ (s : State) (d : StationId) (p : PortId) (g : Byte) (a : List Byte),
    (s.Ready d .editHeader → let r := requestFor .editHeader d p g a
      (a.length ≠ 3 → exec (.editHeader d p g a) s = .next (answer r ⟨s, .badArgument, []⟩))
      ∧ (a.length = 3 → s.staging = none → exec (.editHeader d p g a) s = .next (answer r ⟨s, .noEdit, []⟩))
      ∧ ∀ e, a.length = 3 → s.staging = some e →
        (15 < u8 a 0 → u8 a 0 ≠ 255 → exec (.editHeader d p g a) s = .next (answer r ⟨s, .badArgument, []⟩))
        ∧ ((u8 a 0 ≤ 15 ∨ u8 a 0 = 255) → exec (.editHeader d p g a) s = .next (answer r
          ⟨{ s with staging := some ⟨e.target, ⟨u8 a 0, a.getD 1 0, min 24 (u8 a 2)⟩, e.steps, 0⟩ },
            if u8 a 2 ≤ 24 then .ok else .okClamped, []⟩)))
    ∧ (s.Ready d .editStep → let r := requestFor .editStep d p g a
      (a.length ≠ 16 → exec (.editStep d p g a) s = .next (answer r ⟨s, .badArgument, []⟩))
      ∧ (a.length = 16 → s.staging = none → exec (.editStep d p g a) s = .next (answer r ⟨s, .noEdit, []⟩))
      ∧ ∀ e, a.length = 16 → s.staging = some e →
        ((23 < u8 a 0 ∨ 2 < u8 a 7) → exec (.editStep d p g a) s = .next (answer r ⟨s, .badArgument, []⟩))
        ∧ ∀ (j : Fin 24) (basis : ExitBasis), u8 a 0 = j.val → u8 a 7 = basis.code →
          let x : Step :=
            { dry := max 0 (min 1300 (i16 a 1)), depression := (min 300 (u16 a 3) : Nat)
              dryRate := max 1 (min 50 (u8 a 5)), wetRate := max 1 (min 50 (u8 a 6)), basis := basis
              exitMoisture := min 600 (u16 a 8), minDuration := min 10080 (u16 a 10)
              maxDuration := min 10080 (u16 a 12), fanInterval := min 720 (u16 a 14) }
          exec (.editStep d p g a) s = .next (answer r
            ⟨{ s with staging := some ⟨e.target, e.header, e.steps.set j x, 0⟩ },
              if x.dry = i16 a 1 ∧ x.depression = u16 a 3 ∧ x.dryRate = u8 a 5 ∧ x.wetRate = u8 a 6
                  ∧ x.exitMoisture = u16 a 8 ∧ x.minDuration = u16 a 10 ∧ x.maxDuration = u16 a 12
                  ∧ x.fanInterval = u16 a 14
                then .ok else .okClamped, []⟩))

/-- EDIT_ABORT: refused with NO_EDIT while the staging area is CLOSED; else the staged content is discarded with its
timer, the reply is OK, nothing else changes, no notice is raised, and an EDIT_OPEN on any entry is then accepted
(R68). EDIT_EXPIRY discards an open edit with its timer and raises EDIT_EXPIRED with the target index, the target
keeping its content (R71); that it does so at every count of the timer is the model's choice (log 3), and so is that
it does nothing while no edit is open (log 4). -/
def Obligations.EditAbortAndExpiryDiscardTheEdit : Prop :=
  ReqKind.cls .editAbort = .schedule ∧
  ((∀ (s : State) (d : StationId) (p : PortId) (g : Byte) (a : List Byte), s.Ready d .editAbort →
     let r := requestFor .editAbort d p g a
     (a ≠ [] → exec (.editAbort d p g a) s = .next (answer r ⟨s, .badArgument, []⟩))
     ∧ (a = [] → s.staging = none → exec (.editAbort d p g a) s = .next (answer r ⟨s, .noEdit, []⟩))
     ∧ (a = [] → s.staging ≠ none → exec (.editAbort d p g a) s = .next (answer r ⟨{ s with staging := none }, .ok, []⟩)))
   ∧ ∀ (s : State) (d : StationId) (p : PortId) (g : Byte) (i : Fin 32), s.Ready d .editOpen → s.staging = none →
       ∃ t data, exec (.editOpen d p g (be8 i.val)) s = .next (answer (requestFor .editOpen d p g (be8 i.val)) ⟨t, .ok, data⟩))
  ∧ (∀ s : State,
     (∀ e, s.staging = some e →
       exec .editExpiry s = .next (({ s with staging := none } : State).raise ⟨.editExpired, none, be8 e.target.val⟩)
       ∧ ∃ t, exec .editExpiry s = .next t ∧ t.staging = none ∧ t.directory = s.directory)
     ∧ (s.staging = none → exec .editExpiry s = .next s))

/-- EDIT_COMMIT: refused with NO_EDIT while no edit is open, and with INVALID_STEP and an index where validation fails,
the edit and its timer unchanged; else the entry takes the staged header and steps, its generation advances (65535 and 0
to 1), it is VALID, its in-use count stays, the edit closes, and the reply gives the index and the generation (R60, R64,
R69, R70). -/
def Obligations.EditCommitValidatesAndWrites : Prop :=
  ReqKind.cls .editCommit = .schedule ∧
  ∀ (s : State) (d : StationId) (p : PortId) (g : Byte) (a : List Byte), s.Ready d .editCommit →
    let r := requestFor .editCommit d p g a
    (a ≠ [] → exec (.editCommit d p g a) s = .next (answer r ⟨s, .badArgument, []⟩))
    ∧ (a = [] → s.staging = none → exec (.editCommit d p g a) s = .next (answer r ⟨s, .noEdit, []⟩))
    ∧ ∀ e, a = [] → s.staging = some e →
      let fails (j : Fin 24) : Prop := e.steps[j].dry < e.steps[j].depression
        ∨ e.steps[j].maxDuration < e.steps[j].minDuration ∨ e.steps[j].maxDuration = 0
      let old := s.directory[e.target]
      let generation := if old.generation = 65535 then 1 else old.generation + 1
      (e.header.count = 0 → exec (.editCommit d p g a) s = .next (answer r ⟨s, .invalidStep, [255]⟩))
      ∧ (∀ j : Fin 24, j.val < e.header.count → fails j → (∀ i : Fin 24, i < j → ¬ fails i) →
          exec (.editCommit d p g a) s = .next (answer r ⟨s, .invalidStep, be8 j.val⟩))
      ∧ (e.header.count ≠ 0 → (∀ j : Fin 24, j.val < e.header.count → ¬ fails j) →
          exec (.editCommit d p g a) s = .next (answer r
            ⟨{ s with
                directory := s.directory.set e.target ⟨true, generation, e.header, old.inUse, e.steps⟩
                staging := none }, .ok, be8 e.target.val ++ be16 generation⟩))

/-- ENTRY_DELETE: the four checks in order; an accepted one makes the entry INVALID with the blank content, and an edit
open on another entry does not prevent it (R58, R73, R74). -/
def Obligations.EntryDeleteFollowsItsChecks : Prop :=
  ReqKind.cls .entryDelete = .schedule ∧
  ∀ (s : State) (d : StationId) (p : PortId) (g : Byte) (a : List Byte), s.Ready d .entryDelete →
    let r := requestFor .entryDelete d p g a
    let refused (res : Result) : Prop := exec (.entryDelete d p g a) s = .next (answer r ⟨s, res, []⟩)
    let blank : DirEntry := ⟨false, 0, ⟨255, 0, 0⟩, 0, Vector.replicate 24 ⟨0, 0, 1, 1, .time, 0, 0, 0, 0⟩⟩
    ((a.length ≠ 1 ∨ 31 < u8 a 0) → refused .badArgument)
    ∧ ∀ i : Fin 32, a.length = 1 → u8 a 0 = i.val → let e := s.directory[i]
      (e.valid = false → refused .notFound)
      ∧ (e.valid = true → e.inUse ≠ 0 → refused .inUse)
      ∧ (∀ x, e.valid = true → e.inUse = 0 → s.staging = some x → x.target = i → refused .editBusy)
      ∧ (e.valid = true → e.inUse = 0 → (∀ x, s.staging = some x → x.target ≠ i) →
          exec (.entryDelete d p g a) s = .next (answer r
            ⟨{ s with directory := s.directory.set i blank }, .ok, []⟩))

/-! ## Chapter 5: kiln operation -/

/-- WRITE_KILN_LIMITS: refused on a wrong count, a kiln above 15, or clamped bounds out of order; else the whole written
record is replaced with the clamped fields, the safe and idle pairs also held inside the dry bounds and under their dry
values; an IDLE kiln takes it into use at once, any other keeps its limits in use; nothing else of the part changes. The
deviation band is stated below 0x8000, where its sign is not in question, and the byte of the temperature report
deadband is read unsigned (DEDUCED): log 9 (R79, R80). -/
def Obligations.WriteKilnLimitsReplacesTheRecord : Prop :=
  ∀ (s : State) (d : StationId) (p : PortId) (g : Byte) (a : List Byte), s.Ready d .writeKilnLimits →
    let r := requestFor .writeKilnLimits d p g a
    let dryMin := max 0 (min 1300 (i16 a 1))
    let dryMax := max 0 (min 1300 (i16 a 3))
    let low := max (-400) (min 1500 (i16 a 5))
    let high := max (-400) (min 1500 (i16 a 7))
    let safeDry := max dryMin (min dryMax (i16 a 13))
    let idleDry := max dryMin (min dryMax (i16 a 18))
    ((a.length ≠ 25 ∨ 15 < u8 a 0 ∨ dryMax < dryMin ∨ high < low) →
      exec (.writeKilnLimits d p g a) s = .next (answer r ⟨s, .badArgument, []⟩))
    ∧ ∀ k : KilnId, a.length = 25 → u8 a 0 = k.val → dryMin ≤ dryMax → low ≤ high → u16 a 9 < 32768 →
      let x : Limits :=
        { dryMin := dryMin, dryMax := dryMax, plausLow := low, plausHigh := high
          deviationBand := max 5 (min 300 (i16 a 9)), deviationMinutes := max 1 (min 240 (u8 a 11))
          silenceMinutes := max 1 (min 60 (u8 a 12)), safeDry := safeDry, safeWet := max 0 (min safeDry (i16 a 15))
          safeRate := max 1 (min 50 (u8 a 17)), idleDry := idleDry, idleWet := max 0 (min idleDry (i16 a 20))
          group := min 7 (u8 a 22), tempDeadband := max 1 (min 100 (u8 a 23)), moistDeadband := max 1 (min 100 (u8 a 24)) }
      let same : Prop := x.dryMin = i16 a 1 ∧ x.dryMax = i16 a 3 ∧ x.plausLow = i16 a 5 ∧ x.plausHigh = i16 a 7
        ∧ x.deviationBand = i16 a 9 ∧ x.deviationMinutes = u8 a 11 ∧ x.silenceMinutes = u8 a 12 ∧ x.safeDry = i16 a 13
        ∧ x.safeWet = i16 a 15 ∧ x.safeRate = u8 a 17 ∧ x.idleDry = i16 a 18 ∧ x.idleWet = i16 a 20 ∧ x.group = u8 a 22
        ∧ x.tempDeadband = u8 a 23 ∧ x.moistDeadband = u8 a 24
      ∃ res, exec (.writeKilnLimits d p g a) s = .next (answer r
        ⟨s.setKiln k { s.kiln k with
            written := x, inUse := if (s.kiln k).state = .idle then x else (s.kiln k).inUse }, res, []⟩)
        ∧ (same → res = .ok) ∧ (¬ same → res = .okClamped)

/-- LOAD_CHARGE is refused by its layout, or by the first of the twelve checks that fails (R81, R82). Accepted: the
record with the oldest closed stamp, nearest the head among equals, leaves the reuse order and holds the new charge;
the named lots leave the collection and their origins are merged: each number once, in the order in which the lots
give them, the first eight kept, and the truncated flag tells of a ninth; the entry's in-use count rises; the kiln is
LOADED with its context, channels, stack, latches and counters set as at a load and its timer started; the other
kilns, the line and the packs stay (R35, R83, R84, R125, R126). The load raises a KILN_STATUS and produces a SETPOINT,
and nothing else is raised (R97, R100); the KILN_STATUS comes first (DEDUCED, log 32). -/
def Obligations.LoadChargeChecksAndBinds : Prop :=
  (∀ (s : State) (d : StationId) (p : PortId) (g : Byte) (a : List Byte), s.Ready d .loadCharge →
     let r := requestFor .loadCharge d p g a
     let refused (res : Result) : Prop := exec (.loadCharge d p g a) s = .next (answer r ⟨s, res, []⟩)
     let fits : Prop := a.length ∈ [11, 15, 19, 23, 27] ∧ u16 a 1 ≠ 0 ∧ u8 a 4 ≤ 15 ∧ (lotIds a).Nodup
     ((¬ fits ∨ 15 < u8 a 0) → refused .badArgument)
     ∧ ∀ k : KilnId, fits → u8 a 0 = k.val →
       ((s.kiln k).state ≠ .idle → refused .wrongState)
       ∧ ((s.kiln k).state = .idle → (s.holder (.climate k) = none ∨ s.holder (.actuator k) = none) → refused .notMapped)
       ∧ ((s.kiln k).state = .idle → s.holder (.climate k) ≠ none → s.holder (.actuator k) ≠ none → 31 < u8 a 3 →
           refused .badArgument)
       ∧ ∀ (e : Fin 32) (res : Result), u8 a 3 = e.val → s.loadCheck k e a = some res → refused res)
  ∧ ((∀ (s : State) (d : StationId) (p : PortId) (g : Byte) (a : List Byte) (k : KilnId) (e : Fin 32) (i : Fin 48) (sp : Fin 16),
     s.Ready d .loadCharge → a.length ∈ [11, 15, 19, 23, 27] → u16 a 1 ≠ 0 → u8 a 4 = sp.val → (lotIds a).Nodup →
     u8 a 0 = k.val → u8 a 3 = e.val → s.loadCheck k e a = none → s.recordToTake = some i →
     let q := s.kiln k
     let resume : Bool := u8 a 7 / 2 % 2 == 1
     ∃ t, exec (.loadCharge d p g a) s = .next (answer (requestFor .loadCharge d p g a) ⟨t, .ok, []⟩)
       ∧ t.charges[i] =
         { number := u16 a 1, state := .loaded, kiln := some k, entry := e, generation := s.directory[e].generation
           follow := u8 a 7 % 2 == 1, species := sp, mask := BitVec.ofNat 12 (u16 a 5)
           loadStamp := some ⟨s.clock.value, s.clock.isSet⟩, startStamp := none, dryEndStamp := none, endReason := none
           finalEstimate := none, finalWettest := none, history := [], pushes := 0, redry := a.length != 11
           origins := (mergeLots (s.namedLots a)).1, truncated := (mergeLots (s.namedLots a)).2, stats := {}, refs := 0
           closedStamp := none }
       ∧ (∀ j : Fin 48, j ≠ i → t.charges[j] = s.charges[j]) ∧ t.reuse = s.reuse.erase i
       ∧ t.lots = s.lots.filter (fun l => !(lotIds a).contains l.id)
       ∧ t.directory = s.directory.set e { s.directory[e] with inUse := s.directory[e].inUse + 1 }
       ∧ t.kiln k =
         { q with
           state := .loaded, charge := some (u16 a 1), stepCopy := none
           position := some (if resume = true then ⟨u8 a 8, u16 a 9⟩ else ⟨0, 0⟩)
           targets := none, limited := false, setpoints := some ⟨q.inUse.idleDry, q.inUse.idleWet⟩, ramping := false
           fan := .forward, climateStatus := none, verdict := none, lastGood := none, mask := BitVec.ofNat 12 (u16 a 5)
           channels := Vector.replicate 12 none, estimate := none, wettest := none, stack := [], entryPending := false
           latches := ⟨none, none, none, none⟩, reported := ⟨false, false, false, false⟩, silence := 0
           countdown := q.inUse.deviationMinutes, timer := some 0
           reportedDry := none, reportedWet := none, reportedEstimate := none }
       ∧ (∀ j : KilnId, j ≠ k → t.kiln j = s.kiln j) ∧ t.line = s.line ∧ t.bins = s.bins ∧ t.packLog = s.packLog
       ∧ t.stations = s.stations ∧ t.species = s.species
       ∧ t = (({ s with kilns := t.kilns, charges := t.charges, reuse := t.reuse, lots := t.lots, directory := t.directory } :
           State).raiseStatus k).produceSetpoint k)
   ∧ (∀ (s : State) (i : Fin 48), s.recordToTake = some i → i ∈ s.reuse
       ∧ (∀ j ∈ s.reuse, ∀ x y, s.charges[i].closedStamp = some x → s.charges[j].closedStamp = some y → y.older x = false)
       ∧ ∀ before after, s.reuse = before ++ i :: after → i ∉ before → ∀ j ∈ before, ∀ x y,
           s.charges[i].closedStamp = some x → s.charges[j].closedStamp = some y → x.older y = true)
   ∧ (∀ x y : Stamp, x.older y = true ↔
       (x.isSet = false ∧ y.isSet = true) ∨ (x.isSet = y.isSet ∧ x.value.toNat < y.value.toNat))
   ∧ (∀ lots : List Lot, (mergeLots lots).1.length ≤ 8 ∧ (mergeLots lots).1.Nodup)
   ∧ ∀ lots : List Lot, let met := (lots.flatMap Lot.origins).eraseDups
       (mergeLots lots).1 = met.take 8 ∧ ((mergeLots lots).2 = true ↔ 8 < met.length))

/-- START_KILN: refused on a wrong count or kiln and outside LOADED; else the start stamp is taken and the entry's
generation adopted; at an index at or beyond the step count the charge is completed and the kiln DONE, else the kiln
takes the starting setpoints, enters the step at its index with the elapsed it held and is RUNNING, and the charge
DRYING; the countdown is loaded in either case (R112); the timer goes on (R85, R86, R89). The step's entry raises
STEP_CHANGE with cause 0, a completion CHARGE_DRIED; a KILN_STATUS and a SETPOINT follow (R89, R96, R97, R100), the
notices in an order that no rule fixes (DEDUCED, log 24) and before the SETPOINT (DEDUCED, log 32). The targets, LIMITED and RAMPING are those of the step
entered (R90, R92), and a completion leaves no targets, with both clear (R96). -/
def Obligations.StartKilnEntersItsStep : Prop :=
  ∀ (s : State) (d : StationId) (p : PortId) (g : Byte) (a : List Byte), s.Ready d .startKiln →
    let r := requestFor .startKiln d p g a
    ((a.length ≠ 1 ∨ 15 < u8 a 0) → exec (.startKiln d p g a) s = .next (answer r ⟨s, .badArgument, []⟩))
    ∧ ∀ k : KilnId, a.length = 1 → u8 a 0 = k.val → let q := s.kiln k
      (q.state ≠ .loaded → exec (.startKiln d p g a) s = .next (answer r ⟨s, .wrongState, []⟩))
      ∧ ∀ (c : Charge) (x : StepPosition), q.state = .loaded → q.position = some x → s.kilnCharge k = some c →
        let e := s.directory[c.entry]
        let now : Stamp := ⟨s.clock.value, s.clock.isSet⟩
        let moist (v : Option Nat) : List Byte := v.elim [0xFF, 0xFF] be16
        (e.header.count ≤ x.index → ∃ t,
          exec (.startKiln d p g a) s = .next (answer r ⟨t, .ok, [5] ++ be8 x.index ++ be16 e.generation⟩)
          ∧ (t.kiln k).state = .done ∧ (t.kiln k).setpoints = some ⟨q.inUse.idleDry, q.inUse.idleWet⟩
          ∧ (t.kiln k).targets = none ∧ (t.kiln k).limited = false ∧ (t.kiln k).ramping = false
          ∧ (t.kiln k).position = some x ∧ (t.kiln k).timer = q.timer ∧ (t.kiln k).countdown = q.inUse.deviationMinutes
          ∧ t.directory[c.entry].inUse = e.inUse - 1
          ∧ t.kilnCharge k = some { c with
              startStamp := some now, dryEndStamp := some now, generation := e.generation, state := .dried
              finalEstimate := q.estimate.map Estimate.value, finalWettest := q.wettest }
          ∧ t = (({ s.raise ⟨.chargeDried, none, be8 k.val ++ be16 c.number ++ moist (q.estimate.map Estimate.value)
                ++ moist q.wettest ++ be32 s.clock.value.toNat ++ be8 (if s.clock.isSet = true then 1 else 0)⟩ with
              kilns := t.kilns, charges := t.charges, directory := t.directory } : State).raiseStatus k).produceSetpoint k)
        ∧ (∀ j : Fin 24, x.index = j.val → j.val < e.header.count → ∃ t,
          exec (.startKiln d p g a) s = .next (answer r ⟨t, .ok, [2] ++ be8 x.index ++ be16 e.generation⟩)
          ∧ (t.kiln k).state = .running ∧ (t.kiln k).stepCopy = some e.steps[j] ∧ (t.kiln k).position = some x
          ∧ (t.kiln k).setpoints = some (q.inUse.clampPair (q.lastGood.getD ⟨q.inUse.idleDry, q.inUse.idleWet⟩))
          ∧ (t.kiln k).inUse = q.inUse ∧ (t.kiln k).AimsAt e.steps[j]
          ∧ (t.kiln k).countdown = q.inUse.deviationMinutes ∧ (t.kiln k).timer = q.timer ∧ (t.kiln k).fan = q.fan
          ∧ t.directory = s.directory
          ∧ t.kilnCharge k = some { c with startStamp := some now, generation := e.generation, state := .drying }
          ∧ t = (({ s.raise ⟨.stepChange, none, be8 k.val ++ be16 c.number ++ be8 x.index ++ be16 x.elapsed
                ++ be16 e.generation ++ be8 0⟩ with
              kilns := t.kilns, charges := t.charges } : State).raiseStatus k).produceSetpoint k)

/-- Inside a running minute. Targets: the dry target clamped into the dry bounds and the wet target less the depression
with a floor at 0, LIMITED where either was changed (R90). Ramp: each setpoint moves toward its target by at most its
rate, then the dry one is clamped into the bounds and the wet one under it (R92). Exit: by the step's basis, on its copy
and the elapsed time as just increased (R94). Deviation countdown: untouched outside RUNNING and without a last good
value, reloaded within the band, counted down beyond it with a detection at 0, and held at 0 (R112). -/
def Obligations.RunningMinutesRampExitAndCountDown : Prop :=
  ((∀ (q : Kiln) (x : Step), q.stepCopy = some x →
     let dry := max q.inUse.dryMin (min q.inUse.dryMax x.dry)
     q.deriveTargets = { q with
       targets := some ⟨dry, max 0 (dry - x.depression)⟩, limited := decide (dry ≠ x.dry ∨ dry - x.depression < 0) })
   ∧ (∀ (x target : Int) (rate : Nat),
       (target - rate ≤ x → x ≤ target + rate → approach x target rate = target)
       ∧ (x < target - rate → approach x target rate = x + rate) ∧ (target + rate < x → approach x target rate = x - rate))
   ∧ ∀ (l : Limits) (target now : TempPair) (dryRate wetRate : Nat),
       let dry := max l.dryMin (min l.dryMax (approach now.dry target.dry dryRate))
       l.ramp target dryRate wetRate now = ⟨dry, max 0 (min dry (approach now.wet target.wet wetRate))⟩)
  ∧ (∀ (q : Kiln) (x : Step) (i e : Nat), q.stepCopy = some x → q.position = some ⟨i, e⟩ →
     let figure := if x.basis = .estimate then q.estimate.map Estimate.value else q.wettest
     let low : Prop := ∃ m, figure = some m ∧ m ≤ x.exitMoisture
     (x.basis = .time → q.exitReason = if x.maxDuration ≤ e then some .time else none)
     ∧ (x.basis ≠ .time → x.minDuration ≤ e → low → q.exitReason = some .moisture)
     ∧ (x.basis ≠ .time → ¬ (x.minDuration ≤ e ∧ low) →
         q.exitReason = if x.maxDuration ≤ e then some .timeLimit else none))
  ∧ (∀ (s : State) (k : KilnId), let q := s.kiln k
     let t := s.applyDeviation k
     ((q.state ≠ .running ∨ q.lastGood = none) → t = s)
     ∧ ∀ last now, q.state = .running → q.lastGood = some last → q.setpoints = some now →
       let band := q.inUse.deviationBand
       let within : Prop := last.dry - now.dry ≤ band ∧ now.dry - last.dry ≤ band
       (within → t = s.setKiln k { q with countdown := q.inUse.deviationMinutes })
       ∧ (¬ within → q.countdown = 0 → t = s)
       ∧ (¬ within → 2 ≤ q.countdown → t = s.setKiln k { q with countdown := q.countdown - 1 })
       ∧ (¬ within → q.countdown = 1 → t = (s.setKiln k { q with countdown := 0 }).detect true .deviation k))

/-- KILN_MINUTE_EXPIRY: nothing in IDLE; else the written limits are in use, the silence counter has risen, the timer
restarts at 0, and the setpoints follow the state: the idle pair in LOADED and DONE, the clamp in STOPPED, and, where
neither the silence nor the exit nor the deviation intervenes, one ramp toward the step targets in RUNNING with the
elapsed time up by one and the fan turned at a multiple of its interval, and the top entry's rule in HELD with the
elapsed time as it was (R80, R87, R88, R93, R105, R110). The parts of every minute, in order: limits and channels
(R51, R80), where each channel holding a value ages by 1 and loses it at age 30, and where one is lost the estimate
and wettest value are recomputed and the status change test is made, nothing else being raised or sent, and RAMPING
follows the setpoints (R92); the silence counter, with the SENSOR_SILENT detection where it stands at the limit (R110); in RUNNING the
elapsed time, targets, ramp and fan, then the exit of the step where its rule gives one, then the deviation countdown,
and in HELD the top entry's rule (R88, R105); the self-clearing; one SETPOINT. The self-clearing (R117): every NONE
latch whose condition is absent is cleared with a FAULT_CLEARED of cause 1, in an order that nothing fixes (log 8),
and a reported kind stays while its condition is present. That the expiry takes effect at every count of the timer is
the model's choice (log 3). -/
def Obligations.KilnMinuteRunsItsParts : Prop :=
  (∀ (s : State) (k : KilnId), let q := s.kiln k
    let l := q.written
    let quiet : Prop := q.silence + 1 < l.silenceMinutes ∨ q.latches.silent ≠ none
    let lost : Bool := q.channels.toList.any (fun c => c.any (fun x => 29 ≤ x.age))
    let channels := q.channels.map (fun c => c.bind (fun x => if 29 ≤ x.age then none else some { x with age := x.age + 1 }))
    let present := channels.toList.filterMap id
    let aged : Kiln := { q with
      channels := channels
      estimate := if lost = true then estimateOf present else q.estimate
      wettest := if lost = true then wettestOf present else q.wettest }
    (q.state = .idle → exec (.kilnMinuteExpiry k) s = .next s)
    ∧ (q.state ≠ .idle → ∃ t, exec (.kilnMinuteExpiry k) s = .next t
      ∧ (t.kiln k).timer = some 0 ∧ (t.kiln k).inUse = l ∧ (t.kiln k).written = l
      ∧ (t.kiln k).silence = min 255 (q.silence + 1)
      ∧ (t.kiln k).channels = aged.channels ∧ (t.kiln k).estimate = aged.estimate ∧ (t.kiln k).wettest = aged.wettest
      ∧ (∀ j : KilnId, j ≠ k → t.kiln j = s.kiln j)
      ∧ ((q.state = .loaded ∨ q.state = .done) →
          (t.kiln k).state = q.state ∧ (t.kiln k).setpoints = some ⟨l.idleDry, l.idleWet⟩)
      ∧ (∀ now, q.state = .stopped → q.setpoints = some now →
          (t.kiln k).state = .stopped ∧ (t.kiln k).setpoints = some (l.clampPair now) ∧ (t.kiln k).position = q.position)
      ∧ (∀ now top rest, q.state = .held → q.setpoints = some now → q.stack = top :: rest → quiet →
          (t.kiln k).state = .held ∧ (t.kiln k).position = q.position ∧ (t.kiln k).stack = q.stack ∧ (t.kiln k).fan = q.fan
          ∧ (∀ dry wet dr wr, top.kind = .override dry wet dr wr →
              (t.kiln k).setpoints = some (l.ramp (l.clampPair ⟨dry, wet⟩) dr wr (l.clampPair now)))
          ∧ (∀ f, top.kind = .fault f .safe →
              (t.kiln k).setpoints = some (l.ramp ⟨l.safeDry, l.safeWet⟩ l.safeRate l.safeRate (l.clampPair now)))
          ∧ ((top.kind = .schedule ∨ ∃ f, top.kind = .fault f .hold) → (t.kiln k).setpoints = some (l.clampPair now)))
      ∧ (∀ now x i e, q.state = .running → q.setpoints = some now → q.stepCopy = some x → q.position = some ⟨i, e⟩ → quiet →
          e < 65535 → ({ aged with position := some ⟨i, e + 1⟩ } : Kiln).exitReason = none → q.countdown ≠ 1 →
          let dry := max l.dryMin (min l.dryMax x.dry)
          (t.kiln k).state = .running ∧ (t.kiln k).position = some ⟨i, e + 1⟩ ∧ (t.kiln k).stepCopy = some x
          ∧ (t.kiln k).setpoints =
              some (l.ramp ⟨dry, max 0 (dry - x.depression)⟩ x.dryRate x.wetRate (l.clampPair now))
          ∧ ((t.kiln k).fan = if x.fanInterval ≠ 0 ∧ (e + 1) % x.fanInterval = 0 then q.fan.flip else q.fan)))
    ∧ (q.state ≠ .idle → ∃ begun silenced ran : State,
      exec (.kilnMinuteExpiry k) s = .next ((ran.selfClear k).produceSetpoint k)
      ∧ (let z := begun.kiln k
         z = { q with
           timer := some 0, inUse := l, setpoints := z.setpoints, ramping := z.ramping, channels := aged.channels
           estimate := aged.estimate, wettest := aged.wettest, reportedDry := z.reportedDry, reportedWet := z.reportedWet
           reportedEstimate := z.reportedEstimate }
         ∧ ((q.state = .loaded ∨ q.state = .done) → z.setpoints = some ⟨l.idleDry, l.idleWet⟩)
         ∧ (∀ now, (q.state = .running ∨ q.state = .held ∨ q.state = .stopped) → q.setpoints = some now →
             z.setpoints = some (l.clampPair now))
         ∧ (∀ j : KilnId, j ≠ k → begun.kiln j = s.kiln j) ∧ begun.charges = s.charges ∧ begun.directory = s.directory
         ∧ begun.watchdog = s.watchdog ∧ begun.clock = s.clock
         ∧ (∃ (setpoints : Option TempPair) (ramping : Bool),
             let limited := s.setKiln k { aged with timer := some 0, inUse := l, setpoints := setpoints, ramping := ramping }
             begun = (if lost = true then limited.testStatus k else limited)
             ∧ (q.targets = none → ramping = false)
             ∧ ∀ x now, q.targets = some x → setpoints = some now → ramping = decide (now ≠ x))
         ∧ (let counted := begun.setKiln k { z with silence := min 255 (q.silence + 1) }
            silenced = if l.silenceMinutes ≤ min 255 (q.silence + 1) then counted.detect true .silent k else counted))
      ∧ (let y := silenced.kiln k
         (y.state ≠ .running → y.state ≠ .held → ran = silenced)
         ∧ (∀ now top rest, y.state = .held → y.setpoints = some now → y.stack = top :: rest →
             let moved (p : TempPair) : State := silenced.setKiln k { y with
               setpoints := some p, ramping := y.targets.isSome && y.targets != some p }
             (∀ dry wet dr wr, top.kind = .override dry wet dr wr →
               ran = moved (y.inUse.ramp (y.inUse.clampPair ⟨dry, wet⟩) dr wr now))
             ∧ (∀ f, top.kind = .fault f .safe →
                 ran = moved (y.inUse.ramp ⟨y.inUse.safeDry, y.inUse.safeWet⟩ y.inUse.safeRate y.inUse.safeRate now))
             ∧ ((top.kind = .schedule ∨ ∃ f, top.kind = .fault f .hold) → ran = silenced))
         ∧ (∀ now x i e, y.state = .running → y.setpoints = some now → y.stepCopy = some x → y.position = some ⟨i, e⟩ →
             e < 65535 →
             let dry := max y.inUse.dryMin (min y.inUse.dryMax x.dry)
             let wet := max 0 (dry - x.depression)
             let p := y.inUse.ramp ⟨dry, wet⟩ x.dryRate x.wetRate now
             let ramped : State := silenced.setKiln k { y with
               position := some ⟨i, e + 1⟩, targets := some ⟨dry, wet⟩
               limited := decide (dry ≠ x.dry ∨ dry - x.depression < 0), setpoints := some p
               ramping := decide (p ≠ ⟨dry, wet⟩)
               fan := if x.fanInterval ≠ 0 ∧ (e + 1) % x.fanInterval = 0 then y.fan.flip else y.fan }
             ((ramped.kiln k).exitReason = none → ran = ramped.applyDeviation k)
             ∧ ∀ reason, (ramped.kiln k).exitReason = some reason → ran = (ramped.exitStep k reason).applyDeviation k))))
  ∧ (∀ (s : State) (k : KilnId), let q := s.kiln k
    let due (f : FaultKind) : Prop := q.latches.get f = some .none ∧ s.condition k f = false
    let t := s.selfClear k
    (∀ f, due f → (t.kiln k).latches.get f = none)
    ∧ (∀ f, ¬ due f → (t.kiln k).latches.get f = q.latches.get f)
    ∧ (∀ f, (t.kiln k).reported.get f = true ↔ q.reported.get f = true ∧ s.condition k f = true)
    ∧ t.kiln k = { q with latches := (t.kiln k).latches, reported := (t.kiln k).reported }
    ∧ ∃ (order : List FaultKind) (n : Nat) (cleared : State), order.Nodup ∧ (∀ f, f ∈ order ↔ due f)
      ∧ cleared = order.foldl (fun u f => (u.setKiln k { u.kiln k with latches := (u.kiln k).latches.set f none }).raise
          ⟨.faultCleared, none, be8 k.val ++ be8 f.code ++ be8 1 ++ be16 (q.charge.getD 0)⟩) s
      ∧ t = { cleared.setKiln k { cleared.kiln k with reported := (t.kiln k).reported } with freeCount := n })

/-- What the exit of a step leads to: a history entry, an index up by one, and then the next step, completion, a
followed schedule, or a hold on a changed schedule (R95, R96). What each raises, in this order: SCHEDULE_FOLLOWED
where a changed schedule is followed, then STEP_CHANGE with cause 1 or CHARGE_DRIED; or SCHEDULE_HELD; and a
KILN_STATUS where the kiln's state changes (R89, R95, R96, R100). The SETPOINT is the minute's own (DEDUCED, log 10).
The targets, LIMITED and RAMPING are those of the step entered (R90, R92). -/
def Obligations.StepExitsLeadOn : Prop :=
  ∀ (s : State) (k : KilnId) (reason : ExitReason) (c : Charge) (i e : Nat),
    (s.kiln k).position = some ⟨i, e⟩ → s.kilnCharge k = some c → c.state = .drying →
    let q := s.kiln k
    let entry := s.directory[c.entry]
    let t := s.exitStep k reason
    let history := c.history ++ [⟨i, reason, e, q.estimate.map Estimate.value⟩]
    let goesOn : Prop := c.generation = entry.generation ∨ c.follow = true
    let moist (v : Option Nat) : List Byte := v.elim [0xFF, 0xFF] be16
    let followed : State := if c.generation = entry.generation then s else s.raise
      ⟨.scheduleFollowed, none, be8 k.val ++ be16 c.number ++ be16 entry.generation⟩
    (goesOn → ∀ j : Fin 24, j.val = i + 1 → i + 1 < entry.header.count →
      t.kilnCharge k = some { c with history := history, generation := entry.generation }
      ∧ (t.kiln k).position = some ⟨i + 1, 0⟩ ∧ (t.kiln k).stepCopy = some entry.steps[j] ∧ (t.kiln k).state = q.state
      ∧ (t.kiln k).setpoints = q.setpoints ∧ (t.kiln k).inUse = q.inUse ∧ (t.kiln k).AimsAt entry.steps[j]
      ∧ (t.kiln k).fan = q.fan ∧ t.directory = s.directory
      ∧ t = { followed.raise ⟨.stepChange, none, be8 k.val ++ be16 c.number ++ be8 (i + 1) ++ [0, 0] ++ be16 entry.generation
          ++ be8 1⟩ with kilns := t.kilns, charges := t.charges })
    ∧ (goesOn → entry.header.count ≤ i + 1 →
      t.kilnCharge k = some { c with
          history := history, generation := entry.generation, state := .dried
          finalEstimate := q.estimate.map Estimate.value, finalWettest := q.wettest
          dryEndStamp := some ⟨s.clock.value, s.clock.isSet⟩ }
      ∧ (t.kiln k).position = some ⟨i + 1, e⟩ ∧ (t.kiln k).stepCopy = q.stepCopy ∧ (t.kiln k).state = .done
      ∧ (t.kiln k).setpoints = some ⟨q.inUse.idleDry, q.inUse.idleWet⟩ ∧ (t.kiln k).targets = none
      ∧ (t.kiln k).limited = false ∧ (t.kiln k).ramping = false
      ∧ t.directory = s.directory.set c.entry { entry with inUse := entry.inUse - 1 }
      ∧ t = ({ followed.raise ⟨.chargeDried, none, be8 k.val ++ be16 c.number ++ moist (q.estimate.map Estimate.value)
            ++ moist q.wettest ++ be32 s.clock.value.toNat ++ be8 (if s.clock.isSet = true then 1 else 0)⟩ with
          kilns := t.kilns, charges := t.charges, directory := t.directory } : State).raiseStatus k)
    ∧ (¬ goesOn →
      t.kilnCharge k = some { c with history := history, pushes := bump16 c.pushes }
      ∧ (t.kiln k).position = some ⟨i + 1, e⟩ ∧ (t.kiln k).stepCopy = q.stepCopy ∧ (t.kiln k).state = .held
      ∧ (t.kiln k).stack = ⟨.schedule, ⟨s.clock.value, s.clock.isSet⟩⟩ :: q.stack ∧ (t.kiln k).entryPending = true
      ∧ (t.kiln k).setpoints = q.setpoints ∧ t.directory = s.directory
      ∧ t = ({ s.raise ⟨.scheduleHeld, none, be8 k.val ++ be16 c.number ++ be8 (i + 1) ++ be16 c.generation
            ++ be16 entry.generation⟩ with kilns := t.kilns, charges := t.charges } : State).raiseStatus k)

/-- A CLIMATE arrival: ignored in IDLE; else the status is stored, the silence counter is 0, the verdict is GOOD for
status 0 with both values inside the plausibility bounds in use and BAD otherwise, and only a GOOD one replaces the
last good values; a BAD one leaves the kiln as the SENSOR_RANGE detection leaves the stored reading, so on a clear
latch in LOADED, STOPPED or DONE it is announced without a latch (R99, R111, R114). A PROBE arrival: ignored in IDLE;
else each channel below the count whose mask bit is set takes its corrected reading at age 0, or loses its value at an
absent result, the other channels stay, and the figures are recomputed from the whole table (R50). Other kilns stay.
Either arrival ends with the KILN_STATUS change test: a report where a last good temperature or the estimate is newly
present, newly absent, or off its last-reported value by more than the deadband in use (R100). The report: its 22
bytes, and the last-reported values it sets (R101); where the kiln has no elapsed time its two bytes are free values
(the model's choice, log 6). -/
def Obligations.ArrivalsUpdateTheirKiln : Prop :=
  (∀ (s : State) (k : KilnId) (x : List Byte), let q := s.kiln k
     let within (v : Int) : Prop := q.inUse.plausLow ≤ v ∧ v ≤ q.inUse.plausHigh
     let good : Prop := u8 x 4 = 0 ∧ within (i16 x 0) ∧ within (i16 x 2)
     let t := s.climateArrival k x
     (q.state = .idle → t = s)
     ∧ (q.state ≠ .idle →
       (t.kiln k).climateStatus = some (x.getD 4 0) ∧ (t.kiln k).silence = 0 ∧ (t.kiln k).position = q.position
       ∧ (t.kiln k).setpoints = q.setpoints ∧ (∀ j : KilnId, j ≠ k → t.kiln j = s.kiln j)
       ∧ (good → (t.kiln k).verdict = some .good ∧ (t.kiln k).lastGood = some ⟨i16 x 0, i16 x 2⟩
           ∧ (t.kiln k).state = q.state ∧ (t.kiln k).latches = q.latches)
       ∧ (¬ good → (t.kiln k).verdict = some .bad ∧ (t.kiln k).lastGood = q.lastGood
           ∧ (q.latches.range = none → (q.state = .loaded ∨ q.state = .stopped ∨ q.state = .done) →
               (t.kiln k).reported.range = true ∧ (t.kiln k).latches = q.latches ∧ (t.kiln k).state = q.state))
       ∧ (good → t = (s.setKiln k { q with
            climateStatus := some (x.getD 4 0), silence := 0, verdict := some .good
            lastGood := some ⟨i16 x 0, i16 x 2⟩ }).testStatus k)
       ∧ (¬ good → t = ((s.setKiln k { q with climateStatus := some (x.getD 4 0), silence := 0, verdict := some .bad }).detect
            false .range k).testStatus k)))
  ∧ (∀ (s : State) (k : KilnId) (x : List Byte),
     ((s.kiln k).state = .idle → s.probeArrival k x = s)
     ∧ ∀ c : Charge, (s.kiln k).state ≠ .idle → s.kilnCharge k = some c →
       let t := s.probeArrival k x
       (∀ i : Fin 12, (t.kiln k).channels[i] =
         (if i.val < u8 x 0 ∧ (s.kiln k).mask.getLsbD i.val = true then
           (correct s.species[c.species] (u16 x (1 + 4 * i.val)) (i16 x (3 + 4 * i.val))).map (fun v => ⟨v.value, v.flag, 0⟩)
         else (s.kiln k).channels[i]))
       ∧ (t.kiln k).estimate = estimateOf ((t.kiln k).channels.toList.filterMap id)
       ∧ (t.kiln k).wettest = wettestOf ((t.kiln k).channels.toList.filterMap id)
       ∧ (t.kiln k).state = (s.kiln k).state ∧ (t.kiln k).setpoints = (s.kiln k).setpoints
       ∧ (t.kiln k).mask = (s.kiln k).mask ∧ (∀ j : KilnId, j ≠ k → t.kiln j = s.kiln j)
       ∧ t = (s.setKiln k { s.kiln k with
           channels := (t.kiln k).channels, estimate := (t.kiln k).estimate, wettest := (t.kiln k).wettest }).testStatus k)
  ∧ (∀ (s : State) (k : KilnId), let q := s.kiln k
     let dry := q.lastGood.map TempPair.dry
     let wet := q.lastGood.map TempPair.wet
     let estimate := q.estimate.map Estimate.value
     let far (x y : Int) (band : Nat) : Prop := (band : Int) < x - y ∨ (band : Int) < y - x
     let tempMoved (now last : Option Int) : Prop :=
       now.isSome ≠ last.isSome ∨ ∃ x y, now = some x ∧ last = some y ∧ far x y q.inUse.tempDeadband
     let changed : Prop := tempMoved dry q.reportedDry ∨ tempMoved wet q.reportedWet
       ∨ estimate.isSome ≠ q.reportedEstimate.isSome
       ∨ ∃ x y : Nat, estimate = some x ∧ q.reportedEstimate = some y ∧ far x y q.inUse.moistDeadband
     (¬ changed → s.testStatus k = s) ∧ (changed → s.testStatus k = s.raiseStatus k)
     ∧ (let temp (x : Option Int) : List Byte := x.elim [0x80, 0x00] beI16
        let moist (x : Option Nat) : List Byte := x.elim [0xFF, 0xFF] be16
        let bit (b : Bool) (n : Nat) : Nat := if b = true then n else 0
        let told : Kiln := { q with reportedDry := dry, reportedWet := wet, reportedEstimate := estimate }
        let bytes (elapsed : List Byte) : List Byte :=
          be8 k.val ++ be8 q.state.code ++ be16 (q.charge.getD 0)
            ++ be8 (if q.stepCopy = none then 255 else (q.position.map StepPosition.index).getD 255) ++ elapsed
            ++ temp dry ++ temp wet ++ moist estimate ++ moist q.wettest ++ temp (q.setpoints.map TempPair.dry)
            ++ temp (q.setpoints.map TempPair.wet)
            ++ be8 (bit q.ramping 1 + bit q.limited 2 + bit ((q.estimate.map Estimate.clamped).getD false) 4
              + bit (q.fan == .reverse) 8 + bit (q.verdict == some .bad) 16)
            ++ be8 q.stack.length
            ++ be8 (bit q.latches.silent.isSome 1 + bit q.latches.range.isSome 2 + bit q.latches.deviation.isSome 4
              + bit q.latches.supervisor.isSome 8)
        (∀ x, q.position = some x →
          s.raiseStatus k = (s.setKiln k told).raise ⟨.kilnStatus, some k, bytes (be16 x.elapsed)⟩)
        ∧ (q.position = none → ∃ f g : Byte,
          s.raiseStatus k = (({ s with freeCount := s.freeCount + 2 } : State).setKiln k told).raise
            ⟨.kilnStatus, some k, bytes [f, g]⟩)))

/-- UNLOAD: refused on a wrong count or kiln and in IDLE, RUNNING and HELD; else the charge is STORED with its end
reason, the in-use count falls unless the kiln is DONE, and the kiln is IDLE with everything of the charge cleared,
its written limits in use and its setpoint withdrawn; the reply gives the charge and the reason (R62, R102). A
KILN_STATUS is raised and no SETPOINT is produced (R97, R100). -/
def Obligations.UnloadEmptiesTheKiln : Prop :=
  ∀ (s : State) (d : StationId) (p : PortId) (g : Byte) (a : List Byte), s.Ready d .unload →
    let r := requestFor .unload d p g a
    ((a.length ≠ 1 ∨ 15 < u8 a 0) → exec (.unload d p g a) s = .next (answer r ⟨s, .badArgument, []⟩))
    ∧ ∀ k : KilnId, a.length = 1 → u8 a 0 = k.val → let q := s.kiln k
      ((q.state = .idle ∨ q.state = .running ∨ q.state = .held) →
        exec (.unload d p g a) s = .next (answer r ⟨s, .wrongState, []⟩))
      ∧ ∀ (n : Nat) (c : Charge) (reason : EndReason), q.charge = some n → s.charge? n = some c →
        ((q.state = .loaded ∧ reason = .notDried) ∨ (q.state = .stopped ∧ reason = .stopped)
          ∨ (q.state = .done ∧ reason = .complete)) →
        ∃ t, exec (.unload d p g a) s = .next (answer r ⟨t, .ok, be16 n ++ be8 reason.code⟩)
          ∧ t.charge? n = some { c with state := .stored, endReason := some reason }
          ∧ t.directory = (if q.state = .done then s.directory
              else s.directory.set c.entry { s.directory[c.entry] with inUse := s.directory[c.entry].inUse - 1 })
          ∧ t.kiln k =
            { q with
              state := .idle, inUse := q.written, charge := none, stepCopy := none, position := none, targets := none
              limited := false, setpoints := none, ramping := false, climateStatus := none, verdict := none
              lastGood := none, mask := 0, channels := Vector.replicate 12 none, estimate := none, wettest := none
              stack := [], entryPending := false, latches := ⟨none, none, none, none⟩
              reported := ⟨false, false, false, false⟩, timer := none, reportedDry := none, reportedWet := none
              reportedEstimate := none }
          ∧ (∀ j : KilnId, j ≠ k → t.kiln j = s.kiln j)
          ∧ k ∉ t.portA.setpointWaiting ∧ k ∉ t.portB.setpointWaiting
          ∧ t = ({ s.withdrawSetpoint k with kilns := t.kilns, charges := t.charges, directory := t.directory } :
              State).raiseStatus k

/-- READ_KILN: page 0 of a kiln that holds a charge, page 1 and page 2 byte by byte in the layouts of R103 and R123,
an absent temperature as 0x8000, an absent moisture figure as 65535, an absent status, age, timer or latch as 255, and
a hold entry as eleven bytes by its kind; page 0 of an IDLE kiln has the same 33 bytes, of which the generation, the
follow flag and the elapsed time are free values (log 6); a timer at 60, between the second and its expiry, shows as
59 (log 16); the follow flag as 1 for set and 0 for clear (DEDUCED, log 33); refused on a wrong count, kiln or page; no state changes but the count of free values. -/
def Obligations.ReadKilnShowsItsPages : Prop :=
  ∀ (s : State) (d : StationId) (p : PortId) (g : Byte) (a : List Byte), s.Ready d .readKiln →
    let r := requestFor .readKiln d p g a
    let shows (t : State) (data : List Byte) : Prop := exec (.readKiln d p g a) s = .next (answer r ⟨t, .ok, data⟩)
    let temp (x : Option Int) : List Byte := x.elim [0x80, 0x00] beI16
    let moist (x : Option Nat) : List Byte := x.elim [0xFF, 0xFF] be16
    let byte (x : Option Nat) : List Byte := x.elim [0xFF] be8
    let bit (b : Bool) (n : Nat) : Nat := if b = true then n else 0
    ((a.length ≠ 2 ∨ 15 < u8 a 0 ∨ 2 < u8 a 1) → exec (.readKiln d p g a) s = .next (answer r ⟨s, .badArgument, []⟩))
    ∧ ∀ k : KilnId, a.length = 2 → u8 a 0 = k.val → let q := s.kiln k
      let fromTargets : List Byte :=
        temp (q.targets.map TempPair.dry) ++ temp (q.targets.map TempPair.wet)
          ++ temp (q.setpoints.map TempPair.dry) ++ temp (q.setpoints.map TempPair.wet)
          ++ be8 (bit q.ramping 1 + bit q.limited 2 + bit ((q.estimate.map Estimate.clamped).getD false) 4
            + bit (q.fan == .reverse) 8 + bit (q.verdict == some .bad) 16)
          ++ temp (q.lastGood.map TempPair.dry) ++ temp (q.lastGood.map TempPair.wet) ++ [q.climateStatus.getD 255]
          ++ moist (q.estimate.map Estimate.value) ++ moist q.wettest ++ be8 q.silence ++ be8 q.countdown
          ++ be8 q.stack.length
          ++ be8 (bit q.latches.silent.isSome 1 + bit q.latches.range.isSome 2 + bit q.latches.deviation.isSome 4
            + bit q.latches.supervisor.isSome 8)
          ++ byte (q.timer.map (min 59))
      (∀ n c x, u8 a 1 = 0 → q.state ≠ .idle → q.charge = some n → s.charge? n = some c → q.position = some x →
        shows s (be8 (if q.state = .loaded then 1 else if q.state = .running then 2 else if q.state = .held then 3
            else if q.state = .stopped then 4 else 5)
          ++ be16 n ++ be8 c.entry.val ++ be16 c.generation ++ be8 (if c.follow = true then 1 else 0) ++ be8 x.index
          ++ be16 x.elapsed ++ fromTargets))
      ∧ (u8 a 1 = 0 → q.state = .idle → q.charge = none → q.position = none → ∃ f0 f1 f2 f3 f4,
          shows { s with freeCount := s.freeCount + 5 } ([0, 0, 0, 255, f0, f1, f2, 255, f3, f4] ++ fromTargets))
      ∧ (u8 a 1 = 1 → shows s (be16 q.mask.toNat ++ q.channels.toList.flatMap (fun c =>
          moist (c.map Channel.value)
            ++ be8 ((c.map (fun x => if x.flag = .clamped then 1 else if x.flag = .overRange then 2 else 0)).getD 0)
            ++ byte (c.map Channel.age))))
      ∧ (u8 a 1 = 2 →
          let actionCode (x : FaultAction) : Nat :=
            if x = .none then 0 else if x = .hold then 1 else if x = .safe then 2 else 3
          let kindCode (x : FaultKind) : Nat :=
            if x = .silent then 0 else if x = .range then 1 else if x = .deviation then 2 else 3
          let fromBottom (i : Nat) : Option HoldEntry := q.stack.reverse[i]?
          let slot (i : Nat) : List Byte :=
            match fromBottom i with
            | some ⟨.override dry wet dryRate wetRate, stamp⟩ =>
              [1] ++ beI16 dry ++ beI16 wet ++ be8 dryRate ++ be8 wetRate ++ be32 stamp.value.toNat
            | some ⟨.fault f action, stamp⟩ =>
              [2] ++ be16 (kindCode f) ++ be16 (actionCode action) ++ [0, 0] ++ be32 stamp.value.toNat
            | some ⟨.schedule, stamp⟩ => [3, 0, 0, 0, 0, 0, 0] ++ be32 stamp.value.toNat
            | none => [0, 0, 0, 0, 0, 0, 0, 0, 0, 0, 0]
          let setAt (i : Nat) : Bool := ((fromBottom i).map (fun e => e.stamp.isSet)).getD false
          shows s (be8 q.stack.length ++ slot 0 ++ slot 1 ++ slot 2 ++ slot 3
            ++ be8 (bit (setAt 0) 1 + bit (setAt 1) 2 + bit (setAt 2) 4 + bit (setAt 3) 8)
            ++ byte (q.latches.silent.map actionCode) ++ byte (q.latches.range.map actionCode)
            ++ byte (q.latches.deviation.map actionCode) ++ byte (q.latches.supervisor.map actionCode)
            ++ be8 (bit q.reported.silent 1 + bit q.reported.range 2 + bit q.reported.deviation 4
              + bit q.reported.supervisor 8 + bit q.entryPending 128)))

/-! ## Chapter 6: holds, faults and overrides -/

/-- OVERRIDE: refused on a wrong count or kiln, outside RUNNING and HELD, and at a stack of four; else the clamped
targets and rates are pushed on top with the stamp, the kiln is HELD, the charge's push count rises, the setpoints,
the step context and the latches stay, and the reply gives the depth (R104, R106). A RUNNING kiln raises a KILN_STATUS
and then produces a SETPOINT (their order is DEDUCED, log 32), a HELD one neither (R97, R100, R104). -/
def Obligations.OverridePushesAnEntry : Prop :=
  ∀ (s : State) (d : StationId) (p : PortId) (g : Byte) (a : List Byte), s.Ready d .override →
    let r := requestFor .override d p g a
    let refused (res : Result) : Prop := exec (.override d p g a) s = .next (answer r ⟨s, res, []⟩)
    ((a.length ≠ 7 ∨ 15 < u8 a 0) → refused .badArgument)
    ∧ ∀ k : KilnId, a.length = 7 → u8 a 0 = k.val → let q := s.kiln k
      (q.state ≠ .running → q.state ≠ .held → refused .wrongState)
      ∧ ((q.state = .running ∨ q.state = .held) → 4 ≤ q.stack.length → refused .stackFull)
      ∧ ∀ c : Charge, (q.state = .running ∨ q.state = .held) → q.stack.length < 4 → s.kilnCharge k = some c →
        let dry := max q.inUse.dryMin (min q.inUse.dryMax (i16 a 1))
        let wet := max 0 (min dry (i16 a 3))
        let dryRate := max 1 (min 50 (u8 a 5))
        let wetRate := max 1 (min 50 (u8 a 6))
        let same : Prop := dry = i16 a 1 ∧ wet = i16 a 3 ∧ dryRate = u8 a 5 ∧ wetRate = u8 a 6
        ∃ t res, exec (.override d p g a) s = .next (answer r ⟨t, res, be8 (q.stack.length + 1)⟩)
          ∧ (same → res = .ok) ∧ (¬ same → res = .okClamped)
          ∧ (t.kiln k).stack = ⟨.override dry wet dryRate wetRate, ⟨s.clock.value, s.clock.isSet⟩⟩ :: q.stack
          ∧ (t.kiln k).state = .held ∧ t.kilnCharge k = some { c with pushes := bump16 c.pushes }
          ∧ (t.kiln k).setpoints = q.setpoints ∧ (t.kiln k).position = q.position ∧ (t.kiln k).stepCopy = q.stepCopy
          ∧ (t.kiln k).latches = q.latches ∧ (t.kiln k).entryPending = q.entryPending
          ∧ (∀ j : KilnId, j ≠ k → t.kiln j = s.kiln j)
          ∧ (let pushed : State := { s with kilns := t.kilns, charges := t.charges }
             (q.state = .held → t = pushed) ∧ (q.state = .running → t = (pushed.raiseStatus k).produceSetpoint k))

/-- RESUME: refused on a wrong count or kiln, at an empty stack, and where the top is a FAULT whose condition is
present; else the top is popped: a FAULT's latch clears; an OVERRIDE or a FAULT leaves the kiln HELD above further
entries and RUNNING at an empty stack, with the setpoints kept and the countdown reloaded; a SCHEDULE returns to the
schedule as R108 says (R107, R108). The four conditions: silence at or above the limit in use, a BAD latest verdict, a
RUNNING kiln whose last good dry-bulb value is off its setpoint by more than the band in use, a LAPSED watchdog (R32,
R110 to R112). A FAULT popped raises FAULT_CLEARED with cause 0; a SCHEDULE popped raises STEP_CHANGE with cause 2, or
CHARGE_DRIED; a change of state raises a KILN_STATUS and produces a SETPOINT, and else nothing is raised (R89, R96,
R97, R100, R107, R117). The order of these notices, and that they come before the SETPOINT, is DEDUCED (logs 24, 32).
A step so entered gives the kiln its targets, LIMITED and RAMPING (R90, R92). -/
def Obligations.ResumePopsTheTop : Prop :=
  (∀ (s : State) (k : KilnId), let q := s.kiln k
    (s.condition k .silent = true ↔ q.inUse.silenceMinutes ≤ q.silence)
    ∧ (s.condition k .range = true ↔ q.verdict = some .bad)
    ∧ (s.condition k .deviation = true ↔ q.state = .running ∧ ∃ last now, q.lastGood = some last ∧ q.setpoints = some now
        ∧ (q.inUse.deviationBand < last.dry - now.dry ∨ q.inUse.deviationBand < now.dry - last.dry))
    ∧ (s.condition k .supervisor = true ↔ s.watchdog.state = .lapsed))
  ∧ ∀ (s : State) (d : StationId) (p : PortId) (g : Byte) (a : List Byte), s.Ready d .resume →
    let r := requestFor .resume d p g a
    let refused (res : Result) : Prop := exec (.resume d p g a) s = .next (answer r ⟨s, res, []⟩)
    let kindCode (x : FaultKind) : Nat :=
      if x = .silent then 0 else if x = .range then 1 else if x = .deviation then 2 else 3
    let moist (v : Option Nat) : List Byte := v.elim [0xFF, 0xFF] be16
    ((a.length ≠ 1 ∨ 15 < u8 a 0) → refused .badArgument)
    ∧ ∀ k : KilnId, a.length = 1 → u8 a 0 = k.val → let q := s.kiln k
      (q.stack = [] → refused .wrongState)
      ∧ (∀ f act stamp rest, q.stack = ⟨.fault f act, stamp⟩ :: rest → s.condition k f = true → refused .conditionPresent)
      ∧ (∀ top rest, q.stack = top :: rest → q.state = .held →
          ((∃ dry wet dr wr, top.kind = .override dry wet dr wr)
            ∨ ∃ f act, top.kind = .fault f act ∧ s.condition k f = false) →
          let code := if top.fault? = none then 1 else 2
          let state : KilnState := if rest = [] then .running else .held
          ∃ t, exec (.resume d p g a) s = .next (answer r ⟨t, .ok, be8 state.code ++ be8 rest.length ++ be8 code⟩)
            ∧ (t.kiln k).stack = rest ∧ (t.kiln k).state = state ∧ (t.kiln k).setpoints = q.setpoints
            ∧ (t.kiln k).position = q.position ∧ (t.kiln k).stepCopy = q.stepCopy
            ∧ (t.kiln k).countdown = (if rest = [] then q.inUse.deviationMinutes else q.countdown)
            ∧ (∀ f, (t.kiln k).latches.get f = if top.fault? = some f then none else q.latches.get f)
            ∧ (∀ j : KilnId, j ≠ k → t.kiln j = s.kiln j)
            ∧ (let told : State := match top.fault? with
                 | none => s
                 | some f => s.raise ⟨.faultCleared, none, be8 k.val ++ be8 (kindCode f) ++ be8 0 ++ be16 (q.charge.getD 0)⟩
               let popped : State := { told with kilns := t.kilns }
               t = if rest = [] then (popped.raiseStatus k).produceSetpoint k else popped))
      ∧ (∀ stamp i e c, q.stack = [⟨.schedule, stamp⟩] → q.position = some ⟨i, e⟩ → s.kilnCharge k = some c →
          let entry := s.directory[c.entry]
          (∀ j : Fin 24, j.val = i → i < entry.header.count →
            ∃ t, exec (.resume d p g a) s = .next (answer r ⟨t, .ok, [2, 0, 3]⟩)
              ∧ (t.kiln k).state = .running ∧ (t.kiln k).stack = [] ∧ (t.kiln k).stepCopy = some entry.steps[j]
              ∧ (t.kiln k).position = some ⟨i, 0⟩ ∧ (t.kiln k).entryPending = false
              ∧ (t.kiln k).setpoints = q.setpoints ∧ (t.kiln k).countdown = q.inUse.deviationMinutes
              ∧ (t.kiln k).inUse = q.inUse ∧ (t.kiln k).AimsAt entry.steps[j]
              ∧ t.kilnCharge k = some { c with generation := entry.generation }
              ∧ t = (({ s.raise ⟨.stepChange, none, be8 k.val ++ be16 c.number ++ be8 i ++ [0, 0] ++ be16 entry.generation
                    ++ be8 2⟩ with kilns := t.kilns, charges := t.charges } : State).raiseStatus k).produceSetpoint k)
          ∧ (entry.header.count ≤ i →
            ∃ t, exec (.resume d p g a) s = .next (answer r ⟨t, .ok, [5, 0, 3]⟩)
              ∧ (t.kiln k).state = .done ∧ (t.kiln k).stack = [] ∧ (t.kiln k).entryPending = false
              ∧ (∃ c', t.kilnCharge k = some c' ∧ c'.state = .dried ∧ c'.generation = entry.generation)
              ∧ t = (({ s.raise ⟨.chargeDried, none, be8 k.val ++ be16 c.number ++ moist (q.estimate.map Estimate.value)
                    ++ moist q.wettest ++ be32 s.clock.value.toNat ++ be8 (if s.clock.isSet = true then 1 else 0)⟩ with
                  kilns := t.kilns, charges := t.charges, directory := t.directory } : State).raiseStatus k).produceSetpoint k))

/-- STOP: refused on a wrong count or kiln and outside RUNNING and HELD; else the kiln is STOPPED with its stack
emptied and its setpoints, step context, targets, pending indicator and latches as they were, the charge as it was,
and the reply gives the index and the elapsed time; the setpoint it then sends carries mode OFF (R98, R119).
KILN_STOPPED is raised with cause 0 and fault kind 255, then a KILN_STATUS, and then a SETPOINT is produced (R97,
R100, R119), an order that is DEDUCED (logs 24, 32). -/
def Obligations.StopKeepsTheContext : Prop :=
  ∀ (s : State) (d : StationId) (p : PortId) (g : Byte) (a : List Byte), s.Ready d .stop →
    let r := requestFor .stop d p g a
    ((a.length ≠ 1 ∨ 15 < u8 a 0) → exec (.stop d p g a) s = .next (answer r ⟨s, .badArgument, []⟩))
    ∧ ∀ k : KilnId, a.length = 1 → u8 a 0 = k.val → let q := s.kiln k
      (q.state ≠ .running → q.state ≠ .held → exec (.stop d p g a) s = .next (answer r ⟨s, .wrongState, []⟩))
      ∧ ∀ i e, (q.state = .running ∨ q.state = .held) → q.position = some ⟨i, e⟩ →
        ∃ t, exec (.stop d p g a) s = .next (answer r ⟨t, .ok, be8 i ++ be16 e⟩)
          ∧ t.kiln k =
            { q with
              state := .stopped, stack := [], reportedDry := q.lastGood.map TempPair.dry
              reportedWet := q.lastGood.map TempPair.wet, reportedEstimate := q.estimate.map Estimate.value }
          ∧ t.charges = s.charges ∧ t.directory = s.directory ∧ (∀ j : KilnId, j ≠ k → t.kiln j = s.kiln j)
          ∧ t = (({ s.raise ⟨.kilnStopped, none, be8 k.val ++ be16 (q.charge.getD 0) ++ be8 0 ++ be8 255 ++ be8 i ++ be16 e⟩ with
              kilns := t.kilns } : State).raiseStatus k).produceSetpoint k
          ∧ ∀ now, q.setpoints = some now → (t.kiln k).setpointPayload k =
              some (be8 k.val ++ be8 0 ++ beI16 now.dry ++ beI16 now.wet ++ be8 q.fan.code)

/-- RESTART: refused on a wrong count or kiln, outside STOPPED, and while a latched kind's condition is present (the
four conditions as ResumePopsTheTop spells them out); else every latch is clear and no kind reported; with no entry
pending the kiln is RUNNING at its index and elapsed with the starting setpoints and the countdown reloaded; with one
pending it enters the step at its index with elapsed 0, or completes, under the present generation (R85, R120, R121).
One FAULT_CLEARED with cause 2 is raised for each set latch, in an order that nothing fixes (log 8), then STEP_CHANGE
with cause 2 or CHARGE_DRIED where an entry was pending, then a KILN_STATUS, and then a SETPOINT is produced (R89, R96,
R97, R100, R121), an order that is DEDUCED (logs 24, 32). A step entered gives the kiln its targets, LIMITED and RAMPING; with none entered the targets and
LIMITED stay and RAMPING follows the starting setpoints (R90, R91, R92). -/
def Obligations.RestartReturnsToTheSchedule : Prop :=
  ∀ (s : State) (d : StationId) (p : PortId) (g : Byte) (a : List Byte), s.Ready d .restart →
    let r := requestFor .restart d p g a
    let refused (res : Result) : Prop := exec (.restart d p g a) s = .next (answer r ⟨s, res, []⟩)
    ((a.length ≠ 1 ∨ 15 < u8 a 0) → refused .badArgument)
    ∧ ∀ k : KilnId, a.length = 1 → u8 a 0 = k.val → let q := s.kiln k
      let starting := q.inUse.clampPair (q.lastGood.getD ⟨q.inUse.idleDry, q.inUse.idleWet⟩)
      let kindCode (x : FaultKind) : Nat :=
        if x = .silent then 0 else if x = .range then 1 else if x = .deviation then 2 else 3
      let moist (v : Option Nat) : List Byte := v.elim [0xFF, 0xFF] be16
      let cleared (order : List FaultKind) : State := order.foldl (fun u f => u.raise
        ⟨.faultCleared, none, be8 k.val ++ be8 (kindCode f) ++ be8 2 ++ be16 (q.charge.getD 0)⟩) s
      let latched (order : List FaultKind) : Prop := order.Nodup ∧ ∀ f, f ∈ order ↔ q.latches.get f ≠ none
      (q.state ≠ .stopped → refused .wrongState)
      ∧ (∀ f, q.state = .stopped → q.latches.get f ≠ none → s.condition k f = true → refused .conditionPresent)
      ∧ (∀ i e, q.state = .stopped → (∀ f, q.latches.get f ≠ none → s.condition k f = false) → q.position = some ⟨i, e⟩ →
          (q.entryPending = false →
            ∃ t, exec (.restart d p g a) s = .next (answer r ⟨t, .ok, [2] ++ be8 i ++ be16 e⟩)
              ∧ (t.kiln k).state = .running ∧ (t.kiln k).latches = ⟨none, none, none, none⟩
              ∧ (t.kiln k).reported = ⟨false, false, false, false⟩ ∧ (t.kiln k).position = q.position
              ∧ (t.kiln k).stepCopy = q.stepCopy ∧ (t.kiln k).setpoints = some starting
              ∧ (t.kiln k).targets = q.targets ∧ (t.kiln k).limited = q.limited
              ∧ (∀ x, q.targets = some x → (t.kiln k).ramping = decide (starting ≠ x))
              ∧ (t.kiln k).countdown = q.inUse.deviationMinutes ∧ (t.kiln k).silence = q.silence
              ∧ t.charges = s.charges ∧ (∀ j : KilnId, j ≠ k → t.kiln j = s.kiln j)
              ∧ ∃ order, latched order ∧ t = (({ cleared order with kilns := t.kilns, freeCount := t.freeCount } :
                  State).raiseStatus k).produceSetpoint k)
          ∧ (∀ c, q.entryPending = true → s.kilnCharge k = some c → let entry := s.directory[c.entry]
            (∀ j : Fin 24, j.val = i → i < entry.header.count →
              ∃ t, exec (.restart d p g a) s = .next (answer r ⟨t, .ok, [2] ++ be8 i ++ [0, 0]⟩)
                ∧ (t.kiln k).state = .running ∧ (t.kiln k).latches = ⟨none, none, none, none⟩
                ∧ (t.kiln k).stepCopy = some entry.steps[j] ∧ (t.kiln k).position = some ⟨i, 0⟩
                ∧ (t.kiln k).setpoints = some starting ∧ (t.kiln k).entryPending = false
                ∧ (t.kiln k).inUse = q.inUse ∧ (t.kiln k).AimsAt entry.steps[j]
                ∧ t.kilnCharge k = some { c with generation := entry.generation }
                ∧ ∃ order, latched order ∧ t = (({ (cleared order).raise ⟨.stepChange, none, be8 k.val ++ be16 c.number
                      ++ be8 i ++ [0, 0] ++ be16 entry.generation ++ be8 2⟩ with
                    kilns := t.kilns, charges := t.charges, freeCount := t.freeCount } : State).raiseStatus
                      k).produceSetpoint k)
            ∧ (entry.header.count ≤ i →
              ∃ t, exec (.restart d p g a) s = .next (answer r ⟨t, .ok, [5] ++ be8 i ++ be16 e⟩)
                ∧ (t.kiln k).state = .done ∧ (t.kiln k).latches = ⟨none, none, none, none⟩
                ∧ (∃ c', t.kilnCharge k = some c' ∧ c'.state = .dried ∧ c'.generation = entry.generation)
                ∧ ∃ order, latched order ∧ t = (({ (cleared order).raise ⟨.chargeDried, none, be8 k.val ++ be16 c.number
                      ++ moist (q.estimate.map Estimate.value) ++ moist q.wettest ++ be32 s.clock.value.toNat
                      ++ be8 (if s.clock.isSet = true then 1 else 0)⟩ with
                    kilns := t.kilns, charges := t.charges, directory := t.directory, freeCount := t.freeCount } :
                      State).raiseStatus k).produceSetpoint k)))

/-- WRITE_FAULT_ACTIONS: refused on a wrong count, kiln or action code, in every kiln state; else the row is replaced at
once and nothing else changes, latches and stack entries among it; LOAD_CHARGE, UNLOAD and STOP leave the row; READ_ENTRY
gives the four codes; the defaults at reset (R115). -/
def Obligations.WriteFaultActionsReplacesTheRow : Prop :=
  ReqKind.cls .writeFaultActions = .configure ∧
  (∀ (s : State) (d : StationId) (p : PortId) (g : Byte) (a : List Byte), s.Ready d .writeFaultActions →
    let r := requestFor .writeFaultActions d p g a
    ((a.length ≠ 5 ∨ 15 < u8 a 0 ∨ 3 < u8 a 1 ∨ 3 < u8 a 2 ∨ 3 < u8 a 3 ∨ 3 < u8 a 4) →
      exec (.writeFaultActions d p g a) s = .next (answer r ⟨s, .badArgument, []⟩))
    ∧ ∀ (k : KilnId) (w x y z : FaultAction), a.length = 5 → u8 a 0 = k.val → u8 a 1 = w.code → u8 a 2 = x.code →
        u8 a 3 = y.code → u8 a 4 = z.code →
        exec (.writeFaultActions d p g a) s = .next (answer r ⟨s.setKiln k { s.kiln k with actions := ⟨w, x, y, z⟩ }, .ok, []⟩))
  ∧ (∀ (s : State) (d : StationId) (p : PortId) (g : Byte) (k : KilnId), s.Ready d .readEntry →
      let a : List Byte := [3, 0, BitVec.ofNat 8 k.val]
      exec (.readEntry d p g a) s = .next (answer (requestFor .readEntry d p g a) ⟨s, .ok,
        be8 (s.kiln k).actions.silent.code ++ be8 (s.kiln k).actions.range.code ++ be8 (s.kiln k).actions.deviation.code
          ++ be8 (s.kiln k).actions.supervisor.code⟩))
  ∧ (∀ (kind : ReqKind) (r : Request) (s : State) (k : KilnId), kind = .loadCharge ∨ kind = .unload ∨ kind = .stop →
      ((serve kind r s).st.kiln k).actions = (s.kiln k).actions)
  ∧ ∀ (straps : Byte) (eye encA encB : Bool) (k : KilnId),
      ((State.afterReset straps eye encA encB).kiln k).actions = ⟨.safe, .hold, .none, .hold⟩

/-- A detection: nothing at a set latch or in IDLE; in RUNNING and HELD the latch takes the row's action, or SHUTDOWN
where a push would meet a full stack, FAULT_RAISED is raised with the action, the escalation byte, the kiln state at
the detection, the charge and the depth after the action, and the action is applied: nothing; a FAULT entry, the
charge's push count up by one, and a KILN_STATUS and a SETPOINT where the kiln was RUNNING; or a stop, with
KILN_STOPPED of cause 1 for a SHUTDOWN action and 2 for an escalation, a KILN_STATUS and a SETPOINT. In LOADED,
STOPPED and DONE it is announced once, without a latch: FAULT_RAISED with action 255 (R100, R104, R113, R114, R116,
R119). Inside a kiln minute the SETPOINT is left to the minute's own (DEDUCED, log 10); FAULT_RAISED comes before the
notices of the action (DEDUCED, log 24), and the notices before the SETPOINT (DEDUCED, log 32). -/
def Obligations.DetectionsLatchAndAct : Prop :=
  ∀ (s : State) (k : KilnId) (f : FaultKind) (inMinute : Bool), let q := s.kiln k
    let t := s.detect inMinute f k
    let act := q.actions.get f
    let pushes := act = .hold ∨ act = .safe
    let kindCode : Nat := if f = .silent then 0 else if f = .range then 1 else if f = .deviation then 2 else 3
    let stateCode : Nat := if q.state = .loaded then 1 else if q.state = .running then 2 else if q.state = .held then 3
      else if q.state = .stopped then 4 else 5
    let told (action escalation depth : Nat) : State := s.raise ⟨.faultRaised, none, be8 k.val ++ be8 kindCode ++ be8 action
      ++ be8 escalation ++ be8 stateCode ++ be16 (q.charge.getD 0) ++ be8 depth⟩
    let announced (u : State) : State := if inMinute = true then u.raiseStatus k else (u.raiseStatus k).produceSetpoint k
    ((q.latches.get f ≠ none ∨ q.state = .idle) → t = s)
    ∧ (q.latches.get f = none → (q.state = .running ∨ q.state = .held) →
      (t.kiln k).reported.get f = false
      ∧ (act = .none → (t.kiln k).latches.get f = some .none ∧ (t.kiln k).state = q.state ∧ (t.kiln k).stack = q.stack
          ∧ t.charges = s.charges ∧ t = { told 0 0 q.stack.length with kilns := t.kilns })
      ∧ (pushes → q.stack.length < 4 → (t.kiln k).latches.get f = some act ∧ (t.kiln k).state = .held
          ∧ (t.kiln k).stack = ⟨.fault f act, ⟨s.clock.value, s.clock.isSet⟩⟩ :: q.stack
          ∧ (∀ c, s.kilnCharge k = some c → t.kilnCharge k = some { c with pushes := bump16 c.pushes })
          ∧ (let pushed : State := { told (if act = .hold then 1 else 2) 0 (q.stack.length + 1) with
               kilns := t.kilns, charges := t.charges }
             (q.state = .held → t = pushed) ∧ (q.state = .running → t = announced pushed)))
      ∧ ((act = .shutdown ∨ (pushes ∧ 4 ≤ q.stack.length)) →
          (t.kiln k).latches.get f = some .shutdown ∧ (t.kiln k).state = .stopped ∧ (t.kiln k).stack = []
          ∧ t.charges = s.charges
          ∧ ∀ i e, q.position = some ⟨i, e⟩ → let escalated : Nat := if act = .shutdown then 0 else 1
            t = announced { (told 3 escalated 0).raise ⟨.kilnStopped, none, be8 k.val ++ be16 (q.charge.getD 0)
              ++ be8 (1 + escalated) ++ be8 kindCode ++ be8 i ++ be16 e⟩ with kilns := t.kilns }))
    ∧ (q.latches.get f = none → (q.state = .loaded ∨ q.state = .stopped ∨ q.state = .done) →
      (t.kiln k).reported.get f = true ∧ (t.kiln k).latches = q.latches ∧ (t.kiln k).state = q.state
      ∧ (t.kiln k).stack = q.stack ∧ (q.reported.get f = true → t = s)
      ∧ (q.reported.get f = false → t = { told 255 0 q.stack.length with kilns := t.kilns }))
    ∧ (t.kiln k).setpoints = q.setpoints ∧ (t.kiln k).position = q.position
    ∧ (∀ h, h ≠ f → (t.kiln k).latches.get h = q.latches.get h) ∧ ∀ j : KilnId, j ≠ k → t.kiln j = s.kiln j

/-- The FAULT output is asserted exactly while some latch of some kiln is set: it follows a setting and a clearing at
once, a detection without latch leaves it, it is released after reset, and a stop leaves every latch, so it stays
asserted through a STOPPED kiln's SHUTDOWN latch (R118). -/
def Obligations.FaultOutputFollowsTheLatches : Prop :=
  (∀ s : State, s.faultOutput = true ↔ ∃ (k : KilnId) (f : FaultKind), (s.kiln k).latches.get f ≠ none)
  ∧ (∀ (s : State) (k : KilnId) (f : FaultKind) (m : Bool),
      ((s.kiln k).state = .loaded ∨ (s.kiln k).state = .stopped ∨ (s.kiln k).state = .done) →
      (s.detect m f k).faultOutput = s.faultOutput)
  ∧ (∀ (straps : Byte) (eye encA encB : Bool), (State.afterReset straps eye encA encB).faultOutput = false)
  ∧ ∀ (s : State) (k : KilnId) (f : FaultKind) (m : Bool) (c : StopCause), (s.kiln k).latches.get f = some .shutdown →
      ((s.stopKiln m c k).kiln k).latches.get f = some .shutdown ∧ (s.stopKiln m c k).faultOutput = true

/-! ## Chapter 7: charge records -/

/-- PLANER_FEED: refused on a wrong count, for a number no live record holds, and for a record not STORED or PLANED;
else the present infeed charge goes from PLANING to PLANED and the named one to PLANING and onto the infeed, references
and statistics kept; the reply gives the previous charge, 0 for none, and its reference count, 0 where there was none
(the model's choice, log 21) (R129, R130). RELEASE_CHARGE: refused on a wrong count or number 0, for a number no live
record holds, outside STORED and PLANED, and while the record is referenced, in that order; else the record is CLOSED
(R132, R133). A reference released takes the count down by one, and at 0 a PLANED record, and only a PLANED one, becomes
CLOSED with a closed stamp and joins the reuse order; a reference none touches no record (R127, R131, R133). -/
def Obligations.ChargesMoveAndClose : Prop :=
  (∀ (s : State) (d : StationId) (p : PortId) (g : Byte) (a : List Byte), s.Ready d .planerFeed →
     let r := requestFor .planerFeed d p g a
     let refused (res : Result) : Prop := exec (.planerFeed d p g a) s = .next (answer r ⟨s, res, []⟩)
     (a.length ≠ 2 → refused .badArgument)
     ∧ (a.length = 2 → u16 a 0 ≠ 0 →
         (s.charge? (u16 a 0) = none → refused .notFound)
         ∧ ∀ c, s.charge? (u16 a 0) = some c → c.state ≠ .stored → c.state ≠ .planed → refused .wrongState)
     ∧ ∀ old, (∀ m, s.line.infeed = some m → s.charge? m = some old) → a.length = 2 →
       let previous := s.line.infeed.getD 0
       let count := if s.line.infeed = none then 0 else old.refs
       (u16 a 0 = 0 → ∃ t, exec (.planerFeed d p g a) s = .next (answer r ⟨t, .ok, be16 previous ++ be8 count⟩)
           ∧ t.line = { s.line with infeed := none }
           ∧ (∀ m, s.line.infeed = some m → t.charge? m = some { old with state := .planed })
           ∧ (∀ m, s.line.infeed ≠ some m → t.charge? m = s.charge? m) ∧ t.reuse = s.reuse)
       ∧ (∀ c, u16 a 0 ≠ 0 → s.charge? (u16 a 0) = some c → (c.state = .stored ∨ c.state = .planed) →
           s.line.infeed ≠ some (u16 a 0) →
           ∃ t, exec (.planerFeed d p g a) s = .next (answer r ⟨t, .ok, be16 previous ++ be8 count⟩)
             ∧ t.line = { s.line with infeed := some (u16 a 0) }
             ∧ t.charge? (u16 a 0) = some { c with state := .planing }
             ∧ (∀ m, s.line.infeed = some m → t.charge? m = some { old with state := .planed })
             ∧ (∀ m, m ≠ u16 a 0 → s.line.infeed ≠ some m → t.charge? m = s.charge? m) ∧ t.reuse = s.reuse))
  ∧ (∀ (s : State) (d : StationId) (p : PortId) (g : Byte) (a : List Byte), s.Ready d .releaseCharge →
     let r := requestFor .releaseCharge d p g a
     let refused (res : Result) : Prop := exec (.releaseCharge d p g a) s = .next (answer r ⟨s, res, []⟩)
     ((a.length ≠ 2 ∨ u16 a 0 = 0) → refused .badArgument)
     ∧ (a.length = 2 → u16 a 0 ≠ 0 → s.findLive (u16 a 0) = none → refused .notFound)
     ∧ ∀ i : Fin 48, a.length = 2 → u16 a 0 ≠ 0 → s.findLive (u16 a 0) = some i → let c := s.charges[i]
       (c.state ≠ .stored → c.state ≠ .planed → refused .wrongState)
       ∧ ((c.state = .stored ∨ c.state = .planed) → c.refs ≠ 0 → refused .inUse)
       ∧ ((c.state = .stored ∨ c.state = .planed) → c.refs = 0 → exec (.releaseCharge d p g a) s = .next (answer r
           ⟨{ s with
               charges := s.charges.set i { c with
                 state := .closed, closedStamp := some ⟨s.clock.value, s.clock.isSet⟩ }
               reuse := s.reuse ++ [i] }, .ok, []⟩)))
  ∧ ((∀ s : State, s.releaseRef none = s ∧ s.takeRef none = s)
   ∧ ∀ (s : State) (n : Nat) (i : Fin 48), s.findLive n = some i → let c := s.charges[i]
     (s.takeRef (some n) = { s with charges := s.charges.set i { c with refs := c.refs + 1 } })
     ∧ (¬ (c.state = .planed ∧ c.refs = 1) →
         s.releaseRef (some n) = { s with charges := s.charges.set i { c with refs := c.refs - 1 } })
     ∧ (c.state = .planed → c.refs = 1 → s.releaseRef (some n) = { s with
         charges := s.charges.set i { c with
           refs := 0, state := .closed, closedStamp := some ⟨s.clock.value, s.clock.isSet⟩ }
         reuse := s.reuse ++ [i] }))

/-! ## Chapter 8: the line -/

/-- ENCODER_COUNT: a change of one input along the forward order raises the position by 1 modulo 2^24 and against it
lowers it; the direction follows; a change of both inputs gives no count and moves nothing; the input pair is kept
(R139). That levels equal to the sampled ones give no count and move nothing is the model's choice (log 4). What a count does to the boards while the head has not reached its stacker point: each board at or
past its mark point is fixed once, with the pattern of its class or PENDING, and keeps it; and each mark output is on
exactly while a board's travel lies in its window with a mask that names the output (R150, R151). -/
def Obligations.EncoderCountsMoveTheBoards : Prop :=
  (∀ (s : State) (encA encB : Bool), let l := s.line
     let place (x y : Bool) : Nat := if x = true then (if y = true then 2 else 1) else (if y = true then 3 else 0)
     let turn := (place encA encB + 4 - place l.encA l.encB) % 4
     ((turn = 0 ∨ turn = 2) → exec (.encoderCount encA encB) s = .next { s with line := { l with encA := encA, encB := encB } })
     ∧ (turn = 1 → ∃ t, exec (.encoderCount encA encB) s = .next t ∧ t.line.position = l.position + 1
         ∧ t.line.direction = .forward ∧ t.line.encA = encA ∧ t.line.encB = encB ∧ t.line.settings = l.settings)
     ∧ (turn = 3 → ∃ t, exec (.encoderCount encA encB) s = .next t ∧ t.line.position = l.position - 1
         ∧ t.line.direction = .backward ∧ t.line.encA = encA ∧ t.line.encB = encB ∧ t.line.settings = l.settings))
  ∧ (∀ (s : State) (encA encB : Bool) (dir : Direction), countDirection s.line.encA s.line.encB encA encB = some dir →
     let l := s.line
     let position := dir.move l.position
     let travel (b : Board) : Int := (position - b.leading).toInt
     let index (b : Board) : Fin 6 := if b.cls = some .noRead then 0 else if b.cls = some .overdry then 1
       else if b.cls = some .target then 2 else if b.cls = some .wet then 3 else if b.cls = some .redry then 4 else 5
     (∀ b rest, l.queue = b :: rest → b.reachedStacker = false ∧ travel b < l.settings.stackerDistance) →
     ∃ t, exec (.encoderCount encA encB) s = .next t ∧ t.line.queue.length = l.queue.length
       ∧ (∀ (i : Nat) (b : Board), l.queue[i]? = some b → ∃ b' : Board, t.line.queue[i]? = some b'
           ∧ b'.state = b.state ∧ b'.cls = b.cls ∧ b'.leading = b.leading ∧ b'.serial = b.serial ∧ b'.charge = b.charge
           ∧ (b.pattern ≠ none → b'.pattern = b.pattern)
           ∧ (b.pattern = none → travel b < l.settings.markDistance → b'.pattern = none)
           ∧ (b.pattern = none → l.settings.markDistance ≤ travel b → b'.pattern =
               some ⟨(index b).val, l.patterns[index b].mask, l.patterns[index b].first, l.patterns[index b].last⟩))
       ∧ (∀ j : Fin 4, t.line.marks.getLsbD j.val = true ↔ ∃ b ∈ t.line.queue, ∃ x, b.pattern = some x
           ∧ x.mask.getLsbD j.val = true ∧ (l.settings.markDistance : Int) + x.first ≤ travel b
           ∧ travel b < (l.settings.markDistance : Int) + x.last))

/-- LEADING_EDGE: it blocks the eye; in BACKWARD it only counts; in FORWARD an early edge under MERGE does nothing
more, and any other opens a board at the tail with the next serial, the position and the infeed charge, whose record
takes a reference, or at 64 boards loses it; an early edge under SPLIT also flags the last opened board (R140 to R143,
R148). TRAILING_EDGE: it clears the eye; in BACKWARD it only counts; in FORWARD the newest IN_VIEW board becomes
AWAIT_READ (R140, R144), and that this may be an older board, once the newer ones have left IN_VIEW, is DEDUCED
(log 34). An edge that the eye state rules out does nothing (log 4). A lost board raises BOARDS_LOST
with the position, the infeed charge and the queue count while the lost-notice flag is clear, and nothing while it is
set (R143); an opened one has the line-hold evaluated (R155). -/
def Obligations.EyeEdgesOpenAndCloseBoards : Prop :=
  (∀ s : State, let l := s.line
     let early : Prop := ∃ x, l.lastLeading = some x ∧ (l.position - x).toInt < l.settings.minSpacing
     let opens : Prop := l.eyeBlocked = false ∧ l.direction = .forward ∧ (¬ early ∨ l.settings.policy = .split)
     let fresh : Board := { serial := l.nextSerial, charge := l.infeed, leading := l.position, state := .inView }
     let flagged (b : Board) : Board := if early ∧ l.lastOpened = some b.serial then b.markSplit else b
     (l.eyeBlocked = true → exec .leadingEdge s = .next s)
     ∧ (l.eyeBlocked = false → l.direction = .backward → exec .leadingEdge s = .next { s with line := { l with
         eyeBlocked := true, counters := { l.counters with reverseEdges := bump16 l.counters.reverseEdges } } })
     ∧ (l.eyeBlocked = false → l.direction = .forward → early → l.settings.policy = .merge →
         exec .leadingEdge s = .next { s with line := { l with eyeBlocked := true } })
     ∧ (opens → l.queue.length < 64 → ∃ t, exec .leadingEdge s = .next t ∧ t.line.eyeBlocked = true
         ∧ t.line.queue = l.queue.map flagged ++ [fresh] ∧ t.line.nextSerial = l.nextSerial + 1
         ∧ t.line.lastLeading = some l.position ∧ t.line.lastOpened = some l.nextSerial
         ∧ t.line.counters = { l.counters with opened := bump16 l.counters.opened }
         ∧ t.charges = (s.takeRef l.infeed).charges
         ∧ t.line.holdAsserted = holdNext l.holdAsserted (l.queue.length + 1) s.labels.queue.length
         ∧ t = ({ s.takeRef l.infeed with line := { t.line with
             holdAsserted := l.holdAsserted, lostNotice := l.lostNotice } } : State).evaluateHold)
     ∧ (opens → l.queue.length = 64 → ∃ t, exec .leadingEdge s = .next t ∧ t.line.eyeBlocked = true
         ∧ t.line.queue = l.queue.map flagged ∧ t.line.nextSerial = l.nextSerial ∧ t.line.lastLeading = some l.position
         ∧ t.line.lastOpened = none ∧ t.line.counters = { l.counters with lost := bump16 l.counters.lost }
         ∧ t.line.lostNotice = true ∧ t.charges = s.charges
         ∧ (let told : State := s.raise ⟨.boardsLost, none, be24 l.position.toNat ++ be16 (l.infeed.getD 0) ++ be8 64⟩
            t = { (if l.lostNotice = true then s else told) with line := t.line }))
     ∧ (∀ b : Board, b.markSplit = if b.state = .read then { b with
         split := true, zones := [], mc := none, mean := none, clamped := false, overRange := false, cls := some .noRead }
       else { b with split := true }))
  ∧ (∀ s : State, let l := s.line
     (l.eyeBlocked = false → exec .trailingEdge s = .next s)
     ∧ (l.eyeBlocked = true → l.direction = .backward → exec .trailingEdge s = .next { s with line := { l with
         eyeBlocked := false, counters := { l.counters with reverseEdges := bump16 l.counters.reverseEdges } } })
     ∧ (l.eyeBlocked = true → l.direction = .forward → (∀ b ∈ l.queue, b.state ≠ .inView) →
         exec .trailingEdge s = .next { s with line := { l with eyeBlocked := false } })
     ∧ (∀ before b after, l.eyeBlocked = true → l.direction = .forward → l.queue = before ++ b :: after →
         b.state = .inView → (∀ x ∈ after, x.state ≠ .inView) →
         exec .trailingEdge s = .next { s with line := { l with
           eyeBlocked := false, queue := before ++ { b with state := .awaitRead } :: after } }))

/-- A scan: with UNSET the expected sequence first takes its q; at a distance of 16 or more it is stale and only
counted; in 0..15 it skips that many waiting boards and pairs the next, or, with too few waiting, skips them all and is
counted unmatched; the expected sequence becomes q + 1; other boards stay (R145, R146). A paired board is READ and
stores the scan's fields, its grade at most 15; a SPLIT one gets no reading and the class NO_READ, any other its zones
corrected with the species group of its charge or the default one; LATE_READ tells that its pattern was already fixed
(R5, R54, R147). Its figures: the highest value, the rounded mean, the flags, and the class by the class limits,
boundaries inclusive (R54, R55, R57). -/
def Obligations.ScansPairBoards : Prop :=
  (∀ (s : State) (x : List Byte), let l := s.line
     let q : Byte := x.getD 0 0
     let distance := (q - l.expected.getD q).toNat
     let waits (b : Board) : Bool := b.state == .awaitRead
     let waiting := l.queue.countP waits
     let t := s.scanArrival x
     (16 ≤ distance → t = { s with line := { l with
         counters := { l.counters with scanStale := bump16 l.counters.scanStale } } })
     ∧ (distance ≤ 15 → ∃ queue, t = { s with line := { l with
           queue := queue, expected := some (q + 1)
           counters := { l.counters with scanUnmatched :=
             if waiting ≤ distance then bump16 l.counters.scanUnmatched else l.counters.scanUnmatched } } }
         ∧ queue.length = l.queue.length
         ∧ ∀ (i : Nat) (b : Board), l.queue[i]? = some b →
           (b.state ≠ .awaitRead → queue[i]? = some b)
           ∧ (b.state = .awaitRead → (l.queue.take i).countP waits < distance →
               queue[i]? = some { b with state := .skipped, cls := some .noRead })
           ∧ (b.state = .awaitRead → (l.queue.take i).countP waits = distance → queue[i]? = some (s.pairBoard x b))
           ∧ (b.state = .awaitRead → distance < (l.queue.take i).countP waits → queue[i]? = some b)))
  ∧ (∀ (s : State) (x : List Byte) (b : Board), let y := s.pairBoard x b
     y.state = .read ∧ y.scan = some ⟨x.getD 0 0, min 15 (u8 x 1), u16 x 2, i16 x 4⟩
     ∧ y.pattern = b.pattern ∧ y.lateRead = (b.lateRead || b.pattern.isSome) ∧ y.serial = b.serial ∧ y.charge = b.charge
     ∧ (b.split = true → y.zones = b.zones ∧ y.mc = b.mc ∧ y.mean = b.mean ∧ y.cls = some .noRead)
     ∧ (b.split = true → y = { b with state := .read, scan := y.scan, lateRead := y.lateRead, cls := some .noRead })
     ∧ (b.split = false → y = { b with state := .read, scan := y.scan, lateRead := y.lateRead }.withZones
         s.line.settings y.zones)
     ∧ (b.split = false →
       let species := ((b.charge.bind s.charge?).map Charge.species).getD s.line.settings.defaultSpecies
       y.zones = (List.range (u8 x 6)).map (fun j => correct s.species[species] (u16 x (7 + 2 * j)) (i16 x 4))
       ∧ y.cls = some (classify s.line.settings y.mc)))
  ∧ (∀ (l : LineSettings) (zones : List (Option Corrected)) (b : Board),
     let x := b.withZones l zones
     let values := zones.filterMap id
     x.zones = zones ∧ (x.clamped = true ↔ ∃ c ∈ values, c.flag = .clamped) ∧ (x.overRange = true ↔ ∃ c ∈ values, c.flag = .overRange)
     ∧ (values = [] → x.mc = none ∧ x.mean = none ∧ x.cls = some .noRead)
     ∧ (values ≠ [] → x.mean = some (((values.map Corrected.value).sum + values.length / 2) / values.length)
       ∧ ∃ m, x.mc = some m ∧ (∃ c ∈ values, c.value = m) ∧ (∀ c ∈ values, c.value ≤ m)
         ∧ (m < l.overdry → x.cls = some .overdry)
         ∧ (l.overdry ≤ m → m ≤ l.wet → x.cls = some .target)
         ∧ (l.overdry ≤ l.wet → l.wet < m → m ≤ l.redry → x.cls = some .wet)
         ∧ (l.overdry ≤ l.wet → l.wet ≤ l.redry → l.redry < m → x.cls = some .redry)))

/-- A departure of the head board: its class is settled, an unread one raises the expected sequence, the charge's
statistics take it, it goes to its bin, leaves the queue, the mark outputs follow the boards left, and its reference
is released; the counter of boards departed rises; the line-hold is evaluated last, on the boards left and the labels
queued (R134, R151, R152, R153). The line-hold: asserted at 56 boards or 7 labels, released at 48 boards and 4 labels,
and else as it was; a change raises LINE_HOLD, and a release clears the lost-notice flag (R155, R156). A count: each
board's pattern and stacker point follow its travel, a stacker point once reached is kept, and the boards depart from
the head, one after the other in queue order, while the head has reached its own (R150, R152). -/
def Obligations.DeparturesAndTheLineHold : Prop :=
  (∀ (s : State) (b : Board) (rest : List Board), s.line.queue = b :: rest →
     let settled : Board := if b.state = .inView then { b with cls := some .noRead, long := true }
       else if b.state = .awaitRead then { b with cls := some .noRead } else b
     let unread : Prop := b.state = .inView ∨ b.state = .awaitRead
     let passed : State := { s with line := { s.line with
       expected := if b.state = .inView ∨ b.state = .awaitRead then s.line.expected.map (fun e => e + 1) else s.line.expected } }
     let counted := passed.countInCharge settled
     let t := s.depart
     t.line.queue = rest ∧ t.line.counters.departed = bump16 s.line.counters.departed
     ∧ (unread → t.line.expected = s.line.expected.map (fun e => e + 1)) ∧ (¬ unread → t.line.expected = s.line.expected)
     ∧ t.line.position = s.line.position ∧ t.line.infeed = s.line.infeed ∧ t.line.nextSerial = s.line.nextSerial
     ∧ (∀ n c, b.charge = some n → s.charge? n = some c → counted.charge? n = some { c with
         stats := c.stats.take (settled.cls.getD .noRead) b.mc })
     ∧ (b.charge = none → counted.charges = s.charges)
     ∧ (∀ bin, counted.chooseBin settled = bin → let placed := counted.placeBoard bin settled
         t.bins = placed.bins ∧ t.packLog = placed.packLog ∧ t.lots = placed.lots ∧ t.labels.queue = placed.labels.queue
         ∧ t.charges = (placed.releaseRef b.charge).charges ∧ t.reuse = (placed.releaseRef b.charge).reuse
         ∧ t.line.holdAsserted = (if placed.line.holdAsserted = true
             then !(decide (rest.length ≤ 48) && decide (placed.labels.queue.length ≤ 4))
             else decide (56 ≤ rest.length) || decide (7 ≤ placed.labels.queue.length))
         ∧ t = ({ placed.releaseRef b.charge with line := { t.line with
             holdAsserted := placed.line.holdAsserted, lostNotice := placed.line.lostNotice } } : State).evaluateHold)
     ∧ (∀ j : Fin 4, t.line.marks.getLsbD j.val = true ↔ ∃ x ∈ rest, ∃ y, x.pattern = some y
         ∧ y.mask.getLsbD j.val = true
         ∧ (s.line.settings.markDistance : Int) + y.first ≤ (s.line.position - x.leading).toInt
         ∧ (s.line.position - x.leading).toInt < (s.line.settings.markDistance : Int) + y.last)
     ∧ (∀ (x : PlanerStats) (cls : MoistureClass) (mc : Option Nat),
         (x.take cls mc).boards = bump16 x.boards
         ∧ (x.take cls mc).target = (if cls = .target then bump16 x.target else x.target)
         ∧ (x.take cls mc).noRead = (if cls = .noRead then bump16 x.noRead else x.noRead)
         ∧ (x.take cls mc).overdry = (if cls = .overdry then bump16 x.overdry else x.overdry)
         ∧ (x.take cls mc).wet = (if cls = .wet then bump16 x.wet else x.wet)
         ∧ (x.take cls mc).redry = (if cls = .redry then bump16 x.redry else x.redry)
         ∧ (mc = none → (x.take cls mc).mcSum = x.mcSum ∧ (x.take cls mc).reads = x.reads)
         ∧ (∀ m, mc = some m → (x.take cls mc).mcSum = min 4294967295 (x.mcSum + m)
             ∧ (x.take cls mc).reads = bump16 x.reads)))
  ∧ (∀ s : State, let boards := s.line.queue.length
     let labels := s.labels.queue.length
     let next : Bool := if s.line.holdAsserted = true then !(decide (boards ≤ 48) && decide (labels ≤ 4))
       else decide (56 ≤ boards) || decide (7 ≤ labels)
     (next = s.line.holdAsserted → s.evaluateHold = s)
     ∧ (next ≠ s.line.holdAsserted → s.evaluateHold =
         ({ s with line := { s.line with holdAsserted := next, lostNotice := next && s.line.lostNotice } } : State).raise
           ⟨.lineHold, none, be8 (if next = true then 1 else 0) ++ be8 boards ++ be8 labels⟩))
  ∧ (∀ (s : State) (encA encB : Bool) (dir : Direction), countDirection s.line.encA s.line.encB encA encB = some dir →
     let l := s.line
     let position := dir.move l.position
     let travel (b : Board) : Int := (position - b.leading).toInt
     let index (b : Board) : Fin 6 := if b.cls = some .noRead then 0 else if b.cls = some .overdry then 1
       else if b.cls = some .target then 2 else if b.cls = some .wet then 3 else if b.cls = some .redry then 4 else 5
     let queue := l.queue.map (fun b => { b with
       pattern := if b.pattern = none ∧ (l.settings.markDistance : Int) ≤ travel b
         then some ⟨(index b).val, l.patterns[index b].mask, l.patterns[index b].first, l.patterns[index b].last⟩
         else b.pattern
       reachedStacker := b.reachedStacker || decide ((l.settings.stackerDistance : Int) ≤ travel b) })
     ∃ marks : BitVec 4, exec (.encoderCount encA encB) s =
       .next (State.depart^[(queue.takeWhile Board.reachedStacker).length] { s with line := { l with
         encA := encA, encB := encB, position := position, direction := dir, queue := queue, marks := marks } }))

/-- LINE_RESET: refused with arguments; else the boards are discarded with their references, the marks off, the
expected sequence UNSET, every open pack closed, the line and bin counters 0 and the line-hold evaluated, while the
position, the eye, the next serial, the settings, the patterns and the infeed stay; the reply counts the boards and
the packs. Each live record's reference count falls by its discarded boards and its entries in the closed packs'
lists, its statistics as they were, and a PLANED record whose count so comes to 0 is CLOSED and joins the reuse order;
each closed pack, in bin order, leaves a log entry with reason LINE_RESET, PENDING while its label finds room and
NO_LABEL after (R127, R131, R134, R159, R170 to R172). The parts follow one another: the boards' references are
released in an order that nothing fixes (log 8) and the line-hold is evaluated as the tracking queue becomes empty
(R155), which is taken as one change of its count (DEDUCED, log 11); the open packs close in bin order, each as
ClosePackRecordsThePack states; and the line-hold is evaluated last (R159, R170). So where at most 4 labels are queued
as the boards go, the line-hold is released, and the labels of fewer packs than bring the queue to 7 leave it so. -/
def Obligations.LineResetDiscardsTheBoards : Prop :=
  ∀ (s : State) (d : StationId) (p : PortId) (g : Byte) (a : List Byte), s.Ready d .lineReset →
    let r := requestFor .lineReset d p g a
    let l := s.line
    (a ≠ [] → exec (.lineReset d p g a) s = .next (answer r ⟨s, .badArgument, []⟩))
    ∧ (a = [] → ∃ t, exec (.lineReset d p g a) s = .next (answer r
          ⟨t, .ok, be8 l.queue.length ++ be8 (s.bins.toList.countP (fun b => b.pack.isSome))⟩)
        ∧ t.line.queue = [] ∧ t.line.lastLeading = none ∧ t.line.lastOpened = none ∧ t.line.expected = none
        ∧ t.line.marks = 0 ∧ t.line.counters = ⟨0, 0, 0, 0, 0, 0, 0⟩
        ∧ (∀ b : Fin 16, t.bins[b].pack = none ∧ t.bins[b].counter = 0 ∧ t.bins[b].target = s.bins[b].target
            ∧ t.bins[b].kind = s.bins[b].kind)
        ∧ t.line.position = l.position ∧ t.line.direction = l.direction ∧ t.line.eyeBlocked = l.eyeBlocked
        ∧ t.line.nextSerial = l.nextSerial ∧ t.line.settings = l.settings ∧ t.line.patterns = l.patterns
        ∧ t.line.infeed = l.infeed ∧ t.sortList = s.sortList ∧ t.nextPack = s.nextPack ∧ t.kilns = s.kilns
        ∧ t.clock = s.clock ∧ t.directory = s.directory
        ∧ (∀ (n : Nat) (i : Fin 48), s.findLive n = some i → let c := s.charges[i]
            let gone := l.queue.countP (fun b => b.charge == some n)
              + (s.bins.toList.map (fun b => (b.pack.elim [] Pack.charges).count (some n))).sum
            let closes : Prop := c.state = .planed ∧ 1 ≤ c.refs ∧ c.refs ≤ gone
            (¬ closes → t.charges[i] = { c with refs := c.refs - gone })
            ∧ (closes → t.charges[i] = { c with
                refs := 0, state := .closed, closedStamp := some ⟨s.clock.value, s.clock.isSet⟩ } ∧ i ∈ t.reuse))
        ∧ (∀ i : Fin 48, s.charges[i].state = .closed → t.charges[i] = s.charges[i])
        ∧ (∃ joined, t.reuse = s.reuse ++ joined)
        ∧ (∃ kept added, t.packLog = kept ++ added
            ∧ added.map (fun e => (e.bin, e.pack)) =
              (List.finRange 16).filterMap (fun b => s.bins[b].pack.map (fun k => (b, k)))
            ∧ ∀ (j : Nat) (e : LogEntry), added[j]? = some e →
              e.reason = .lineReset ∧ e.closed = ⟨s.clock.value, s.clock.isSet⟩
                ∧ e.outcome = (if s.labels.queue.length + j < 8 then .pending else .noLabel))
        ∧ (∃ (order : List (Option Nat)) (n : Nat), order.Perm (l.queue.map Board.charge)
            ∧ (let emptied : State := { s with line := { l with
                 queue := [], lastLeading := none, lastOpened := none, expected := none, marks := 0 } }
               let discarded : State :=
                 ({ order.foldl (fun u c => u.releaseRef c) emptied with freeCount := n } : State).evaluateHold
               let closed : State := (List.finRange 16).foldl (fun u b => match u.bins[b].pack with
                 | none => u
                 | some k => u.closePack b k .lineReset) discarded
               t = ({ closed with
                 bins := t.bins, line := { closed.line with counters := ⟨0, 0, 0, 0, 0, 0, 0⟩ } } : State).evaluateHold))
        ∧ (s.labels.queue.length ≤ 4 → s.labels.queue.length + s.bins.toList.countP (fun b => b.pack.isSome) < 7 →
            t.line.holdAsserted = false)
        ∧ (t.line.holdAsserted = true → 5 ≤ t.labels.queue.length) ∧ (7 ≤ t.labels.queue.length → t.line.holdAsserted = true))

/-- WRITE_LINE and WRITE_MARK: the checks of R158 and R149; an accepted write replaces all the line settings, clamped,
or the whole mark pattern, and nothing else (R56, R149, R157, R158). -/
def Obligations.WriteLineAndMarkReplaceSettings : Prop :=
  ReqKind.cls .writeLine = .configure ∧ ReqKind.cls .writeMark = .configure ∧
  ∀ (s : State) (d : StationId) (p : PortId) (g : Byte) (a : List Byte),
    (s.Ready d .writeLine → let r := requestFor .writeLine d p g a
      let refused (res : Result) : Prop := exec (.writeLine d p g a) s = .next (answer r ⟨s, res, []⟩)
      let mark := max 1 (min 4194304 (u24 a 3))
      let stacker := max 1 (min 4194304 (u24 a 6))
      let overdry := min 600 (u16 a 11)
      let wet := min 600 (u16 a 13)
      let redry := min 600 (u16 a 15)
      ((a.length ≠ 18 ∨ 1 < u8 a 2 ∨ 15 < u8 a 9 ∨ 15 < u8 a 10 ∨ stacker ≤ mark ∨ wet ≤ overdry ∨ redry < wet) →
        refused .badArgument)
      ∧ ∀ (policy : EdgePolicy) (species bin : Fin 16), a.length = 18 → u8 a 2 = policy.code → u8 a 9 = species.val →
        u8 a 10 = bin.val → mark < stacker → overdry < wet → wet ≤ redry →
        let x : LineSettings := ⟨max 1 (u16 a 0), policy, mark, stacker, species, bin, overdry, wet, redry,
          max 5 (min 120 (u8 a 17))⟩
        let same : Prop := x.minSpacing = u16 a 0 ∧ mark = u24 a 3 ∧ stacker = u24 a 6 ∧ overdry = u16 a 11 ∧ wet = u16 a 13
          ∧ redry = u16 a 15 ∧ x.labelTimeout = u8 a 17
        let free : Prop := s.line.queue = [] ∨ (mark = s.line.settings.markDistance
          ∧ stacker = s.line.settings.stackerDistance ∧ policy = s.line.settings.policy)
        (¬ free → refused .wrongState)
        ∧ (free → ∃ res, exec (.writeLine d p g a) s = .next (answer r
            ⟨{ s with line := { s.line with settings := x } }, res, []⟩)
          ∧ (same → res = .ok) ∧ (¬ same → res = .okClamped)))
    ∧ (s.Ready d .writeMark → let r := requestFor .writeMark d p g a
      ((a.length ≠ 6 ∨ 5 < u8 a 0) → exec (.writeMark d p g a) s = .next (answer r ⟨s, .badArgument, []⟩))
      ∧ ∀ i : Fin 6, a.length = 6 → u8 a 0 = i.val → exec (.writeMark d p g a) s = .next (answer r
          ⟨{ s with line := { s.line with
            patterns := s.line.patterns.set i ⟨BitVec.ofNat 4 (u8 a 1), u16 a 2, u16 a 4⟩ } }, .ok, []⟩))

/-! ## Chapter 9: sorting and packs -/

/-- WRITE_SORT, WRITE_BIN and SET_PACK_BASE: the checks of R162, R164 and R165; an accepted write replaces the sort list
entry (emptied by an empty mask), the bin's target and kind, or the next pack number, and nothing else. -/
def Obligations.SortBinAndPackBaseAreWritten : Prop :=
  ∀ (s : State) (d : StationId) (p : PortId) (g : Byte) (a : List Byte),
    (s.Ready d .writeSort → let r := requestFor .writeSort d p g a
      let mask := BitVec.ofNat 5 (u8 a 1)
      let low := min 15 (u8 a 2)
      let high := min 15 (u8 a 3)
      ((a.length ≠ 9 ∨ 15 < u8 a 0 ∨ (mask ≠ 0 ∧ (15 < u8 a 8 ∨ high < low ∨ u16 a 6 < u16 a 4))) →
        exec (.writeSort d p g a) s = .next (answer r ⟨s, .badArgument, []⟩))
      ∧ ∀ i : Fin 16, a.length = 9 → u8 a 0 = i.val →
        (mask = 0 → exec (.writeSort d p g a) s = .next (answer r
          ⟨{ s with sortList := s.sortList.set i ⟨0, 0, 0, 0, 0, 0⟩ }, .ok, []⟩))
        ∧ ∀ bin : Fin 16, mask ≠ 0 → u8 a 8 = bin.val → low ≤ high → u16 a 4 ≤ u16 a 6 →
          exec (.writeSort d p g a) s = .next (answer r
            ⟨{ s with sortList := s.sortList.set i ⟨mask, low, high, u16 a 4, u16 a 6, bin⟩ },
              if low = u8 a 2 ∧ high = u8 a 3 then .ok else .okClamped, []⟩))
    ∧ (s.Ready d .writeBin → let r := requestFor .writeBin d p g a
      ((a.length ≠ 4 ∨ 15 < u8 a 0 ∨ 1 < u8 a 3) → exec (.writeBin d p g a) s = .next (answer r ⟨s, .badArgument, []⟩))
      ∧ ∀ (i : Fin 16) (kind : PackKind), a.length = 4 → u8 a 0 = i.val → u8 a 3 = kind.code →
        exec (.writeBin d p g a) s = .next (answer r
          ⟨{ s with bins := s.bins.set i { s.bins[i] with target := min 500 (u16 a 1), kind := kind } },
            if u16 a 1 ≤ 500 then .ok else .okClamped, []⟩))
    ∧ (s.Ready d .setPackBase → let r := requestFor .setPackBase d p g a
      ((a.length ≠ 4 ∨ u32 a 0 = 0) → exec (.setPackBase d p g a) s = .next (answer r ⟨s, .badArgument, []⟩))
      ∧ (a.length = 4 → u32 a 0 ≠ 0 → exec (.setPackBase d p g a) s = .next (answer r
          ⟨{ s with nextPack := BitVec.ofNat 32 (u32 a 0) }, .ok, []⟩)))

/-- Where a board goes: the fall-through bin with LONG; else the bin of the first entry, from index 0, whose mask
includes its class and, for a board with a scan, whose ranges hold its grade and length; else the fall-through bin
(R163). A board placed in a bin goes into the chute at target 0, into a pack opened with the next number, which at
target 1 closes on it at once, or into the open pack, whose count-down, counts, charge list, moisture and grade and
length ranges follow and which closes at 0; a charge new to the pack's list takes a reference; a board of a fifth
charge closes the pack first with reason CHARGE_MIX and is then placed as in a bin without an open pack (R127, R164 to
R168). -/
def Obligations.BoardsAreSortedIntoPacks : Prop :=
  (∀ (s : State) (b : Board) (cls : MoistureClass), b.cls = some cls →
     let matchesEntry (e : SortEntry) : Prop := e.mask.getLsbD cls.code = true ∧ ∀ x, b.scan = some x →
       e.gradeLow ≤ x.grade ∧ x.grade ≤ e.gradeHigh ∧ e.lengthLow ≤ x.length ∧ x.length ≤ e.lengthHigh
     (b.long = true → s.chooseBin b = s.line.settings.fallThrough)
     ∧ (∀ i : Fin 16, b.long = false → matchesEntry s.sortList[i] → (∀ j : Fin 16, j < i → ¬ matchesEntry s.sortList[j]) →
         s.chooseBin b = s.sortList[i].bin)
     ∧ (b.long = false → (∀ i : Fin 16, ¬ matchesEntry s.sortList[i]) → s.chooseBin b = s.line.settings.fallThrough))
  ∧ (∀ (s : State) (bin : Fin 16) (b : Board), let x := s.bins[bin]
     let t := s.placeBoard bin b
     (x.pack = none → x.target = 0 →
       t = { s with bins := s.bins.set bin { x with counter := bump16 x.counter } })
     ∧ (x.pack = none → 1 ≤ x.target →
       let first : Pack :=
         { number := s.nextPack, kind := x.kind, target := x.target, countdown := x.target - 1, count := 1
           opened := ⟨s.clock.value, s.clock.isSet⟩, mcSum := b.mc.getD 0, reads := if b.mc = none then 0 else 1
           mcMin := b.mc, mcMax := b.mc
           grades := b.scan.map (fun y => ⟨y.grade, y.grade⟩), lengths := b.scan.map (fun y => ⟨y.length, y.length⟩)
           charges := [b.charge] }
       let started : State := { s.takeRef b.charge with
         nextPack := if s.nextPack + 1 = 0 then 1 else s.nextPack + 1
         bins := s.bins.set bin { x with counter := bump16 x.counter, pack := some first } }
       (2 ≤ x.target → t = started) ∧ (x.target = 1 → t = started.closePack bin first .countReached))
     ∧ (x.pack = none → 2 ≤ x.target → t.nextPack = (if s.nextPack + 1 = 0 then 1 else s.nextPack + 1)
       ∧ t.bins[bin] = { x with
           counter := bump16 x.counter
           pack := some
             { number := s.nextPack, kind := x.kind, target := x.target, countdown := x.target - 1, count := 1
               opened := ⟨s.clock.value, s.clock.isSet⟩, mcSum := b.mc.getD 0, reads := if b.mc = none then 0 else 1
               mcMin := b.mc, mcMax := b.mc
               grades := b.scan.map (fun y => ⟨y.grade, y.grade⟩), lengths := b.scan.map (fun y => ⟨y.length, y.length⟩)
               charges := [b.charge] } })
     ∧ (∀ k : Pack, x.pack = some k → (b.charge ∈ k.charges ∨ k.charges.length < 4) →
       let full : Pack := { k with
         countdown := k.countdown - 1, count := k.count + 1
         charges := if b.charge ∈ k.charges then k.charges else k.charges ++ [b.charge]
         mcSum := k.mcSum + b.mc.getD 0, reads := if b.mc = none then k.reads else k.reads + 1
         mcMin := if b.mc = none then k.mcMin else some (min (k.mcMin.getD (b.mc.getD 0)) (b.mc.getD 0))
         mcMax := if b.mc = none then k.mcMax else some (max (k.mcMax.getD (b.mc.getD 0)) (b.mc.getD 0))
         grades := (k.add b).grades, lengths := (k.add b).lengths }
       let added : State := { (if b.charge ∈ k.charges then s else s.takeRef b.charge) with
         bins := s.bins.set bin { x with counter := bump16 x.counter, pack := some full } }
       (2 ≤ k.countdown → t = added) ∧ (k.countdown = 1 → t = added.closePack bin full .countReached)
       ∧ (2 ≤ k.countdown → t.bins[bin] = { x with counter := bump16 x.counter, pack := some full })
       ∧ (k.countdown = 1 → t.bins[bin] = { x with counter := bump16 x.counter, pack := none }
         ∧ ∃ e, t.packLog.getLast? = some e ∧ e.pack = full ∧ e.bin = bin ∧ e.reason = .countReached)
       ∧ (∀ y, b.scan = some y → k.grades = none → full.grades = some ⟨y.grade, y.grade⟩)
       ∧ (∀ y z, b.scan = some y → k.grades = some z → full.grades = some ⟨min z.low y.grade, max z.high y.grade⟩)
       ∧ (∀ y, b.scan = some y → k.lengths = none → full.lengths = some ⟨y.length, y.length⟩)
       ∧ (∀ y z, b.scan = some y → k.lengths = some z →
           full.lengths = some ⟨min z.low y.length, max z.high y.length⟩)
       ∧ (b.scan = none → full.grades = k.grades ∧ full.lengths = k.lengths))
     ∧ (∀ k : Pack, x.pack = some k → b.charge ∉ k.charges → 4 ≤ k.charges.length →
       t = (s.closePack bin k .chargeMix).placeBoard bin b)
     ∧ (∀ k : Pack, x.pack = some k → b.charge ∉ k.charges → 4 ≤ k.charges.length → 2 ≤ x.target →
       ∃ k', t.bins[bin].pack = some k' ∧ k'.charges = [b.charge] ∧ k'.count = 1 ∧ k'.countdown = x.target - 1
         ∧ k'.number = s.nextPack ∧ ∃ e, t.packLog.getLast? = some e ∧ e.pack = k ∧ e.bin = bin ∧ e.reason = .chargeMix))

/-- CLOSE_PACK: refused on a wrong count or bin and for a bin without an open pack; else that pack closes FORCED, and
the reply gives its number, board count and label outcome at close (R169). A pack that closes, whatever the reason:
its label, rendered from the pack and the records as they stand, joins a label queue of fewer than 8, where the
line-hold is evaluated and a first label is started; a REDRY pack leaves a lot unless 32 are held or its number is; a
log entry is written, the oldest leaving a full log; PACK_CLOSED is raised with its eleven bytes, then LABEL_FAILED
where no label joined, then LOT_LOST with its cause where a lot was refused; its references are released, in an order
that nothing fixes (log 8), a PLANED record closing at 0; and the bin has no open pack (R127, R131, R155, R171 to
R173, R175). The line-hold is evaluated at the join, so its LINE_HOLD comes before PACK_CLOSED (DEDUCED, log 28). A
pack's species group is that of the first entry of its charge list that is a charge, else the default one (R173). -/
def Obligations.ClosePackRecordsThePack : Prop :=
  ReqKind.cls .closePack = .operate ∧
  (∀ (s : State) (d : StationId) (p : PortId) (g : Byte) (a : List Byte), s.Ready d .closePack →
     let r := requestFor .closePack d p g a
     ((a.length ≠ 1 ∨ 15 < u8 a 0) → exec (.closePack d p g a) s = .next (answer r ⟨s, .badArgument, []⟩))
     ∧ ∀ i : Fin 16, a.length = 1 → u8 a 0 = i.val →
       (s.bins[i].pack = none → exec (.closePack d p g a) s = .next (answer r ⟨s, .wrongState, []⟩))
       ∧ ∀ k, s.bins[i].pack = some k → exec (.closePack d p g a) s = .next (answer r
           ⟨s.closePack i k .forced, .ok, be32 k.number.toNat ++ be16 k.count
             ++ be8 (if s.labels.queue.length < 8 then 0 else 4)⟩))
  ∧ (∀ (s : State) (bin : Fin 16) (k : Pack) (reason : CloseReason),
     let t := s.closePack bin k reason
     let refused : Prop := 32 ≤ s.lots.length ∨ ∃ l ∈ s.lots, l.id = k.number
     (s.labels.queue.length < 8 → ∃ label, t.labels.queue = s.labels.queue ++ [label] ∧ label.pack = k.number
         ∧ label.bin = bin ∧ label.rows.length = 8)
     ∧ (8 ≤ s.labels.queue.length → t.labels.queue = s.labels.queue)
     ∧ (k.kind = .redry → ¬ refused → t.lots = s.lots ++
         [{ id := k.number, species := s.packSpecies k, count := k.count
            mean := if k.reads = 0 then none else some ((k.mcSum + k.reads / 2) / k.reads)
            origins := k.charges.filterMap id }])
     ∧ ((k.kind = .normal ∨ refused) → t.lots = s.lots)
     ∧ (∃ e, t.packLog = (if 64 ≤ s.packLog.length then s.packLog.tail else s.packLog) ++ [e] ∧ e.pack = k ∧ e.bin = bin
         ∧ e.reason = reason ∧ e.outcome = (if s.labels.queue.length < 8 then .pending else .noLabel)
         ∧ (e.noLot = true ↔ k.kind = .redry ∧ refused) ∧ e.closed = ⟨s.clock.value, s.clock.isSet⟩)
     ∧ t.bins = s.bins.set bin { s.bins[bin] with pack := none } ∧ t.nextPack = s.nextPack
     ∧ t.line.queue = s.line.queue ∧ t.kilns = s.kilns
     ∧ (s.labels.queue.length < 8 → t.labels.queue = s.labels.queue ++ [s.render k bin reason])
     ∧ (∀ (n : Nat) (i : Fin 48), s.findLive n = some i → let c := s.charges[i]
         let gone := k.charges.count (some n)
         let closes : Prop := c.state = .planed ∧ 1 ≤ c.refs ∧ c.refs ≤ gone
         (¬ closes → t.charges[i] = { c with refs := c.refs - gone })
         ∧ (closes → t.charges[i] = { c with
             refs := 0, state := .closed, closedStamp := some ⟨s.clock.value, s.clock.isSet⟩ } ∧ i ∈ t.reuse))
     ∧ (∃ (handed : State) (order : List (Option Nat)) (n : Nat),
         (8 ≤ s.labels.queue.length → handed = s)
         ∧ (let joined : State := { s with labels := { s.labels with
              queue := s.labels.queue ++ [s.render k bin reason] } }.evaluateHold
            (s.labels.queue.length < 8 → s.labels.queue ≠ [] → handed = joined)
            ∧ (s.labels.queue = [] → handed = joined.startHead))
         ∧ order.Perm k.charges
         ∧ (let logged : State := { handed with lots := t.lots, packLog := t.packLog }
            let told := logged.raise ⟨.packClosed, none, be32 k.number.toNat ++ be8 bin.val
              ++ be8 (if k.kind = .redry then 1 else 0) ++ be8 (if reason = .countReached then 0 else if reason = .chargeMix
                then 1 else if reason = .forced then 2 else 3) ++ be16 k.count
              ++ be8 (if s.labels.queue.length < 8 then 0 else 4)
              ++ be8 (if k.kind = .redry ∧ s.lots.length < 32 ∧ ∀ l ∈ s.lots, l.id ≠ k.number then 1 else 0)⟩
            let failed := if s.labels.queue.length < 8 then told
              else told.raise ⟨.labelFailed, none, be32 k.number.toNat ++ be8 4 ++ be8 bin.val⟩
            let lost (cause : Nat) : State := failed.raise ⟨.lotLost, none, be32 k.number.toNat ++ be8 cause⟩
            let noted := if k.kind = .redry ∧ 32 ≤ s.lots.length then lost 0
              else if k.kind = .redry ∧ ∃ l ∈ s.lots, l.id = k.number then lost 1 else failed
            t = { order.foldl (fun u c => u.releaseRef c) noted with bins := t.bins, freeCount := n })))
  ∧ (∀ (s : State) (k : Pack),
     ((∀ c ∈ k.charges, c = none) → s.packSpecies k = s.line.settings.defaultSpecies)
     ∧ ∀ before n after c, k.charges = before ++ some n :: after → (∀ x ∈ before, x = none) → s.charge? n = some c →
         s.packSpecies k = c.species)

/-- READ_CHARGE, READ_LOT, READ_PACK_LOG and READ_LINE: which record, lot, entry or board each shows, by number, id,
position or index, byte by byte in the layouts of R137, R138, R174, R175 and R161; the refusals of each; nothing
changes (R136, R161, R174, R175). The flag byte 0 of a zone without a value (log 29) and the code 1 or 0 of the follow
flag (log 33) are DEDUCED. -/
def Obligations.ReadsShowTheRecords : Prop :=
  ∀ (s : State) (d : StationId) (p : PortId) (g : Byte) (a : List Byte),
    let moist (x : Option Nat) : List Byte := x.elim [0xFF, 0xFF] be16
    (s.Ready d .readCharge → let r := requestFor .readCharge d p g a
      let n := u16 a 0
      let byte (x : Option Nat) : List Byte := x.elim [0xFF] be8
      let stamp (x : Option Stamp) : List Byte :=
        x.elim [0, 0, 0, 0, 0xFF] (fun t => be32 t.value.toNat ++ be8 (if t.isSet = true then 1 else 0))
      let header (c : Charge) : List Byte :=
        be16 c.number
          ++ be8 (if c.state = .loaded then 0 else if c.state = .drying then 1 else if c.state = .dried then 2
            else if c.state = .stored then 3 else if c.state = .planing then 4 else if c.state = .planed then 5 else 6)
          ++ byte (c.kiln.map Fin.val) ++ be8 c.entry.val ++ be16 c.generation ++ be8 (if c.follow = true then 1 else 0)
          ++ be8 c.species.val ++ be16 c.mask.toNat ++ stamp c.loadStamp ++ stamp c.startStamp ++ stamp c.dryEndStamp
          ++ byte (c.endReason.map (fun x => if x = .complete then 0 else if x = .stopped then 1 else 2))
          ++ moist c.finalEstimate ++ moist c.finalWettest ++ be16 c.pushes ++ be8 c.refs ++ be8 c.history.length
          ++ stamp c.closedStamp
      let slot (c : Charge) (j : Nat) : List Byte :=
        (c.history[j]?).elim [0xFF, 0, 0, 0, 0, 0] (fun h => be8 h.index
          ++ be8 (if h.reason = .time then 0 else if h.reason = .moisture then 1 else 2) ++ be16 h.elapsed
          ++ moist h.estimate)
      let steps (c : Charge) : List Byte :=
        be8 c.history.length ++ (List.range 8).flatMap (fun j => slot c (8 * (u8 a 2 - 1) + j))
      let planer (c : Charge) : List Byte :=
        be8 ((if c.redry = true then 1 else 0) + (if c.truncated = true then 2 else 0)) ++ be8 c.origins.length
          ++ (List.range 8).flatMap (fun i => be16 (c.origins.getD i 0)) ++ be16 c.stats.boards ++ be16 c.stats.noRead
          ++ be16 c.stats.overdry ++ be16 c.stats.target ++ be16 c.stats.wet ++ be16 c.stats.redry
          ++ be32 c.stats.mcSum ++ be16 c.stats.reads
      let shows (c : Charge) : Prop := exec (.readCharge d p g a) s = .next (answer r
        ⟨s, .ok, if u8 a 2 = 0 then header c else if u8 a 2 ≤ 3 then steps c else planer c⟩)
      ((a.length ≠ 3 ∨ n = 0 ∨ 4 < u8 a 2) → exec (.readCharge d p g a) s = .next (answer r ⟨s, .badArgument, []⟩))
      ∧ (a.length = 3 → n ≠ 0 → u8 a 2 ≤ 4 →
        (∀ c, s.charge? n = some c → shows c)
        ∧ (s.charge? n = none → (∀ i ∈ s.reuse, s.charges[i].number ≠ n) →
            exec (.readCharge d p g a) s = .next (answer r ⟨s, .notFound, []⟩))
        ∧ (∀ before i after x, s.charge? n = none → s.reuse = before ++ i :: after → s.charges[i].number = n →
            s.charges[i].closedStamp = some x →
            (∀ j ∈ before, s.charges[j].number = n → ∃ y, s.charges[j].closedStamp = some y ∧ x.older y = false) →
            (∀ j ∈ after, s.charges[j].number = n → ∃ y, s.charges[j].closedStamp = some y ∧ y.older x = true) →
            shows s.charges[i])))
    ∧ (s.Ready d .readLot → let r := requestFor .readLot d p g a
      let bytes (l : Lot) : List Byte := be8 s.lots.length ++ be32 l.id.toNat ++ be8 l.species.val ++ be16 l.count
        ++ moist l.mean ++ be8 l.origins.length ++ (List.range 4).flatMap (fun i => be16 (l.origins.getD i 0))
      ((a.length ≠ 1 ∧ a.length ≠ 4 ∨ (a.length = 1 ∧ 31 < u8 a 0)) →
        exec (.readLot d p g a) s = .next (answer r ⟨s, .badArgument, []⟩))
      ∧ (a.length = 4 → (∀ l ∈ s.lots, l.id.toNat ≠ u32 a 0) →
          exec (.readLot d p g a) s = .next (answer r ⟨s, .notFound, []⟩))
      ∧ (∀ before l after, a.length = 4 → s.lots = before ++ l :: after → l.id.toNat = u32 a 0 →
          (∀ x ∈ before, x.id.toNat ≠ u32 a 0) → exec (.readLot d p g a) s = .next (answer r ⟨s, .ok, bytes l⟩))
      ∧ (a.length = 1 → u8 a 0 ≤ 31 → s.lots[u8 a 0]? = none →
          exec (.readLot d p g a) s = .next (answer r ⟨s, .notFound, []⟩))
      ∧ (∀ l, a.length = 1 → u8 a 0 ≤ 31 → s.lots[u8 a 0]? = some l →
          exec (.readLot d p g a) s = .next (answer r ⟨s, .ok, bytes l⟩)))
    ∧ (s.Ready d .readPackLog → let r := requestFor .readPackLog d p g a
      ((a.length ≠ 1 ∨ 63 < u8 a 0) → exec (.readPackLog d p g a) s = .next (answer r ⟨s, .badArgument, []⟩))
      ∧ (a.length = 1 → u8 a 0 ≤ 63 → s.packLog.length ≤ u8 a 0 →
          exec (.readPackLog d p g a) s = .next (answer r ⟨s, .notFound, []⟩))
      ∧ (∀ e, a.length = 1 → u8 a 0 ≤ 63 → s.packLog.reverse[u8 a 0]? = some e → let k := e.pack
          exec (.readPackLog d p g a) s = .next (answer r ⟨s, .ok,
            be8 s.packLog.length ++ be32 k.number.toNat ++ be8 e.bin.val ++ be8 k.kind.code ++ be8 e.reason.code
              ++ be8 e.outcome.code ++ be8 (if e.noLot = true then 1 else 0) ++ be16 k.count ++ be16 k.target
              ++ be32 k.opened.value.toNat ++ beBool k.opened.isSet ++ be32 e.closed.value.toNat ++ beBool e.closed.isSet
              ++ moist (if k.reads = 0 then none else some ((k.mcSum + k.reads / 2) / k.reads)) ++ moist k.mcMin
              ++ moist k.mcMax ++ be16 k.reads ++ be8 ((k.grades.map Range.low).getD 255)
              ++ be8 ((k.grades.map Range.high).getD 255) ++ moist (k.lengths.map Range.low)
              ++ moist (k.lengths.map Range.high) ++ be8 k.charges.length
              ++ (List.range 4).flatMap (fun i => be16 ((k.charges.getD i none).getD 0))⟩)))
    ∧ (s.Ready d .readLine → let r := requestFor .readLine d p g a
      let l := s.line
      ((a.length ≠ 2 ∨ 2 < u8 a 0 ∨ (u8 a 0 = 2 ∧ 63 < u8 a 1)) →
        exec (.readLine d p g a) s = .next (answer r ⟨s, .badArgument, []⟩))
      ∧ (a.length = 2 → u8 a 0 = 0 → exec (.readLine d p g a) s = .next (answer r ⟨s, .ok,
          be24 l.position.toNat ++ be8 (if l.direction = .backward then 1 else 0) ++ beBool l.eyeBlocked
            ++ be8 l.queue.length ++ beBool l.expected.isSome ++ [l.expected.getD 0] ++ be16 (l.infeed.getD 0)
            ++ be8 ((if l.holdAsserted = true then 1 else 0) + (if l.lostNotice = true then 2 else 0))
            ++ be8 l.marks.toNat ++ be8 s.labels.queue.length ++ be32 s.clock.value.toNat ++ beBool s.clock.isSet
            ++ be16 l.nextSerial.toNat⟩))
      ∧ (a.length = 2 → u8 a 0 = 1 → let x := l.settings
          exec (.readLine d p g a) s = .next (answer r ⟨s, .ok,
            be16 x.minSpacing ++ be8 x.policy.code ++ be24 x.markDistance ++ be24 x.stackerDistance ++ be8 x.defaultSpecies.val
              ++ be8 x.fallThrough.val ++ be16 x.overdry ++ be16 x.wet ++ be16 x.redry ++ be8 x.labelTimeout⟩))
      ∧ (a.length = 2 → u8 a 0 = 2 → u8 a 1 ≤ 63 → l.queue[u8 a 1]? = none →
          exec (.readLine d p g a) s = .next (answer r ⟨s, .notFound, []⟩))
      ∧ (∀ b, a.length = 2 → u8 a 0 = 2 → u8 a 1 ≤ 63 → l.queue[u8 a 1]? = some b → ∃ zones, zones.length = 24
          ∧ exec (.readLine d p g a) s = .next (answer r ⟨s, .ok,
            be16 b.serial.toNat ++ be16 (b.charge.getD 0) ++ be24 b.leading.toNat ++ be8 b.state.code
              ++ be8 ((b.cls.map MoistureClass.code).getD 255) ++ be8 ((b.pattern.map FixedPattern.index).getD 255)
              ++ be8 ((if b.split = true then 1 else 0) + (if b.lateRead = true then 2 else 0)
                + (if b.long = true then 4 else 0) + (if b.clamped = true then 8 else 0)
                + (if b.overRange = true then 16 else 0))
              ++ [(b.scan.map ScanData.sequence).getD 0] ++ be8 ((b.scan.map ScanData.grade).getD 255)
              ++ moist (b.scan.map ScanData.length) ++ beI16 ((b.scan.map ScanData.headTemp).getD (-32768))
              ++ moist b.mc ++ moist b.mean ++ be8 b.zones.length ++ zones⟩)
          ∧ (∀ (i : Nat) (z : Option Corrected), i < 8 → b.zones[i]? = some z → (zones.drop (3 * i)).take 3 =
              moist (z.map Corrected.value) ++ be8 ((z.map (fun c => c.flag.code)).getD 0))
          ∧ ∀ i : Nat, i < 8 → b.zones.length ≤ i → (zones.drop (3 * i)).take 3 = [0, 0, 0]))

/-! ## Chapter 10: labels -/

/-- WRITE_LABEL_FIELD: the refusals of R178; kind 255 with five bytes empties the entry; any other accepted write
replaces it whole with the clamped width; nothing else changes, labels already queued among it (R178). A rendered
label has the pack's number and bin and eight rows of forty characters; the text of a field fits its width: a number
right- aligned or all '#', a text left-aligned or cut, an absent value all '-' (R179, R180). The value of each of the
sixteen field kinds (R179, R181), a number without leading zeros, in decimal digits of ten places at most. The rows:
eight rows of forty spaces, onto which the entries are written in index order, each from its column onward over its
effective width, a later one over an earlier (R180). -/
def Obligations.LabelFieldsAreWrittenAndRendered : Prop :=
  (∀ (s : State) (d : StationId) (p : PortId) (g : Byte) (a : List Byte), s.Ready d .writeLabelField →
     let r := requestFor .writeLabelField d p g a
     let printableText : Prop := ∀ b ∈ a.drop 5, 0x20 ≤ b.toNat ∧ b.toNat ≤ 0x7E
     ((a.length < 5 ∨ 21 < a.length ∨ 15 < u8 a 0 ∨ (15 < u8 a 1 ∧ u8 a 1 ≠ 255) ∨ (u8 a 1 = 255 ∧ a.length ≠ 5)
         ∨ (u8 a 1 ≤ 15 ∧ (7 < u8 a 2 ∨ 39 < u8 a 3 ∨ (u8 a 1 ≠ 15 ∧ a.length ≠ 5) ∨ ¬ printableText))) →
       exec (.writeLabelField d p g a) s = .next (answer r ⟨s, .badArgument, []⟩))
     ∧ ∀ i : Fin 16, 5 ≤ a.length → a.length ≤ 21 → u8 a 0 = i.val →
       (u8 a 1 = 255 → a.length = 5 → exec (.writeLabelField d p g a) s = .next (answer r
         ⟨{ s with labels := { s.labels with layout := s.labels.layout.set i none } }, .ok, []⟩))
       ∧ ∀ what : FieldKind, u8 a 1 = what.code → u8 a 2 ≤ 7 → u8 a 3 ≤ 39 → (what ≠ .text → a.length = 5) → printableText →
         let width := max 1 (min 40 (u8 a 4))
         exec (.writeLabelField d p g a) s = .next (answer r
           ⟨{ s with labels := { s.labels with
               layout := s.labels.layout.set i (some ⟨what, u8 a 2, u8 a 3, width, a.drop 5⟩) } },
             if width = u8 a 4 then .ok else .okClamped, []⟩))
  ∧ ((∀ (s : State) (k : Pack) (bin : Fin 16) (reason : CloseReason),
     (∀ f, some f ∈ s.labels.layout.toList → f.row ≤ 7 ∧ f.column ≤ 39) →
     let label := s.render k bin reason
     label.pack = k.number ∧ label.bin = bin ∧ label.rows.length = 8 ∧ ∀ row ∈ label.rows, row.length = 40)
   ∧ ∀ (w : Nat) (x : List Byte),
     (FieldValue.absent.fit w = List.replicate w 0x2D)
     ∧ (x.length ≤ w → (FieldValue.number x).fit w = List.replicate (w - x.length) 0x20 ++ x)
     ∧ (w < x.length → (FieldValue.number x).fit w = List.replicate w 0x23)
     ∧ (FieldValue.text x).fit w = x.take w ++ List.replicate (w - x.length) 0x20)
  ∧ ((∀ (s : State) (k : Pack) (bin : Fin 16) (reason : CloseReason) (what : FieldKind) (row column width : Nat)
       (text : List Byte),
     let v := s.fieldValue k bin reason ⟨what, row, column, width, text⟩
     let ascii (x : String) : List Byte := x.toList.map (fun c => BitVec.ofNat 8 c.toNat)
     let dec (n : Nat) : List Byte := (Nat.toDigits 10 n).map (fun c => BitVec.ofNat 8 c.toNat)
     let tenths (n : Nat) : List Byte := dec (n / 10) ++ ascii "." ++ dec (n % 10)
     let two (n : Nat) : List Byte := dec (n / 10) ++ dec (n % 10)
     let time (x : Stamp) : List Byte := ascii "D" ++ dec (x.value.toNat / 1440) ++ ascii " "
       ++ two (x.value.toNat % 1440 / 60) ++ ascii ":" ++ two (x.value.toNat % 60)
     let shown (x : Stamp) : FieldValue := if x.isSet = true then .number (time x) else .absent
     let range (x : Range) : List Byte := if x.low = x.high then dec x.low else dec x.low ++ ascii "-" ++ dec x.high
     let kilnOf (n : Nat) : Option KilnId := (s.charge? n).bind Charge.kiln
     let dried : List Stamp := ((k.charges.filterMap id).filterMap s.charge?).filterMap Charge.dryEndStamp
     let small (n : Nat) : Prop := n < 10000000000
     (what = .packNumber → v = .number (dec k.number.toNat)) ∧ (what = .bin → v = .number (dec bin.val))
     ∧ (what = .grade → k.grades = none → v = .absent)
     ∧ (∀ x, what = .grade → k.grades = some x → small x.low → small x.high → v = .number (range x))
     ∧ (what = .length → k.lengths = none → v = .absent)
     ∧ (∀ x, what = .length → k.lengths = some x → small x.low → small x.high → v = .number (range x))
     ∧ (what = .boardCount → small k.count → v = .number (dec k.count))
     ∧ (what = .mcMean → k.reads = 0 → v = .absent)
     ∧ (what = .mcMean → k.reads ≠ 0 → small k.mcSum →
         v = .number (tenths ((k.mcSum + k.reads / 2) / k.reads)))
     ∧ (what = .mcMax → k.mcMax = none → v = .absent)
     ∧ (∀ m, what = .mcMax → k.mcMax = some m → small m → v = .number (tenths m))
     ∧ (what = .mcMin → k.mcMin = none → v = .absent)
     ∧ (∀ m, what = .mcMin → k.mcMin = some m → small m → v = .number (tenths m))
     ∧ (what = .species → v = .number (dec (s.packSpecies k).val))
     ∧ (what = .charges → (∀ n, some n ∈ k.charges → small n) →
         v = .text ((ascii "/").intercalate (k.charges.map (fun c => c.elim (ascii "-") dec))))
     ∧ (what = .kilns → v = .text ((ascii "/").intercalate (k.charges.map (fun c =>
         (c.bind kilnOf).elim (ascii "-") (fun x => dec x.val)))))
     ∧ (what = .dryEnd → dried = [] → v = .absent)
     ∧ (∀ x ∈ dried, what = .dryEnd → (∀ y ∈ dried, x.older y = false) → v = shown x)
     ∧ (what = .closeTime → v = shown ⟨s.clock.value, s.clock.isSet⟩)
     ∧ (what = .kind → v = .text (if k.kind = .redry then ascii "REDRY" else ascii "NORMAL"))
     ∧ (what = .closeReason → v = .text (if reason = .countReached then ascii "COUNT_REACHED"
         else if reason = .chargeMix then ascii "CHARGE_MIX" else if reason = .forced then ascii "FORCED"
         else ascii "LINE_RESET"))
     ∧ (what = .text → v = .text text))
   ∧ ∀ (s : State) (k : Pack) (bin : Fin 16) (reason : CloseReason),
     let write (rows : List (List Byte)) (e : Option LabelField) : List (List Byte) :=
       match e with
       | none => rows
       | some f =>
         let width := min f.width (40 - f.column)
         rows.modify f.row (fun row => row.take f.column ++ (s.fieldValue k bin reason f).fit width
           ++ row.drop (f.column + width))
     (s.render k bin reason).rows =
       s.labels.layout.toList.foldl write (List.replicate 8 (List.replicate 40 0x20)))

/-- A PRINT_DONE is accepted when the head waits for the printer and the pack numbers agree: status 0 finishes it
PRINTED, any other PRINTER_FAULT; any other PRINT_DONE only counts LATE_PRINT, and the head, its state and its timer
stay (R185). LABEL_TIMEOUT in AWAIT_PRINT finishes the head with TIMEOUT (R186); that it does so at every count of the
timer is the model's choice (log 3), and so is that it does nothing otherwise (log 4). A finished head stops the
timer, the timeout in use staying (the model's choice, log 30), raises LABEL_FAILED with the pack number, the outcome and the bin where it was not PRINTED, reports its outcome
into the newest PENDING log entry of its pack number, leaves the queue, where the line-hold is evaluated, and starts
the next label, SENDING from row 0 where a station holds PRINTER and WAITING otherwise (R155, R172, R176, R183, R187).
-/
def Obligations.HeadLabelsAreFinished : Prop :=
  (∀ (s : State) (x : List Byte),
     let accepted : Prop := ∃ l rest, s.labels.queue = l :: rest ∧ s.labels.head = some .awaitPrint ∧ l.pack.toNat = u32 x 0
     (accepted → u8 x 4 = 0 → s.printDone x = s.finishHead .printed)
     ∧ (accepted → u8 x 4 ≠ 0 → s.printDone x = s.finishHead .printerFault)
     ∧ (¬ accepted → s.printDone x = { s with line := { s.line with
         counters := { s.line.counters with latePrint := bump16 s.line.counters.latePrint } } }))
  ∧ ((∀ s : State, (s.labels.head = some .awaitPrint → exec .labelTimeout s = .next (s.finishHead .timeout))
     ∧ (s.labels.head ≠ some .awaitPrint → exec .labelTimeout s = .next s))
   ∧ ∀ (s : State) (l : Label) (rest : List Label) (o : LabelOutcome), s.labels.queue = l :: rest →
     let t := s.finishHead o
     t.labels.timer = none ∧ t.labels.timeoutInUse = s.labels.timeoutInUse ∧ t.labels.queue = rest
     ∧ t.labels.layout = s.labels.layout
     ∧ (t.labels.head = if rest = [] then none else if s.holder .printer = none then some .waiting else some .sending)
     ∧ t.line.holdAsserted = holdNext s.line.holdAsserted s.line.queue.length rest.length
     ∧ (∀ before e after, s.packLog = before ++ e :: after → e.pack.number = l.pack → e.outcome = .pending →
         (∀ y ∈ after, ¬ (y.pack.number = l.pack ∧ y.outcome = .pending)) →
         t.packLog = before ++ { e with outcome := o } :: after)
     ∧ ((∀ e ∈ s.packLog, ¬ (e.pack.number = l.pack ∧ e.outcome = .pending)) → t.packLog = s.packLog)
     ∧ ((o = .printed ∨ o = .printerFault ∨ o = .timeout) →
         let stopped : State := { s with labels := { s.labels with timer := none } }
         let told := if o = .printed then stopped else stopped.raise
           ⟨.labelFailed, none, be32 l.pack.toNat ++ be8 (if o = .printerFault then 2 else 3) ++ be8 l.bin.val⟩
         t = ({ told with
           packLog := t.packLog
           labels := { told.labels with queue := rest, head := none, nextRow := 0 } } : State).evaluateHold.startHead))
  ∧ (∀ s : State,
     (s.labels.queue = [] → s.startHead = { s with labels := { s.labels with head := none, nextRow := 0 } })
     ∧ (s.labels.queue ≠ [] → s.holder .printer = none →
         s.startHead = { s with labels := { s.labels with head := some .waiting, nextRow := 0 } })
     ∧ (s.labels.queue ≠ [] → s.holder .printer ≠ none →
         s.startHead = State.produceRows { s with labels := { s.labels with head := some .sending, nextRow := 0 } }))

/-! ## Frames -/

/-- A request on one kiln, served at once, leaves every other kiln, the station map, the tables, the clock and the
finishing side as they were: LOAD_CHARGE, START_KILN, OVERRIDE, RESUME, STOP, RESTART, UNLOAD, WRITE_KILN_LIMITS and
WRITE_FAULT_ACTIONS. -/
def Obligations.KilnRequestsTouchTheirKilnOnly : Prop :=
  ∀ (i : Instr) (kind : ReqKind) (s t : State) (d : StationId) (p : PortId) (g : Byte) (a : List Byte),
    kind ∈ [.loadCharge, .startKiln, .override, .resume, .stop, .restart, .unload, .writeKilnLimits, .writeFaultActions] →
    requestOfCommand i = some (requestFor kind d p g a) → s.Ready d kind → exec i s = .next t →
    (∀ j : KilnId, j.val ≠ u8 a 0 → t.kiln j = s.kiln j)
    ∧ t.own = s.own ∧ t.stations = s.stations ∧ t.watchdog = s.watchdog ∧ t.clock = s.clock ∧ t.minutes = s.minutes
    ∧ t.species = s.species ∧ t.staging = s.staging ∧ t.line = s.line ∧ t.sortList = s.sortList ∧ t.bins = s.bins
    ∧ t.nextPack = s.nextPack ∧ t.packLog = s.packLog ∧ t.labels.queue = s.labels.queue
    ∧ t.labels.layout = s.labels.layout ∧ t.labels.timer = s.labels.timer
    ∧ t.labels.timeoutInUse = s.labels.timeoutInUse ∧ t.requests = []
    ∧ (kind ≠ .loadCharge → t.lots = s.lots ∧ t.reuse = s.reuse)
    ∧ (∀ e : Fin 32, t.directory[e].valid = s.directory[e].valid ∧ t.directory[e].generation = s.directory[e].generation
        ∧ t.directory[e].header = s.directory[e].header ∧ t.directory[e].steps = s.directory[e].steps)

/-- Each table is written by its own request alone: a request served at once whose kind is not the table's leaves the
table as it was. The directory's committed content changes by EDIT_COMMIT and ENTRY_DELETE only (R11, R44, R58, R76,
R78, R115, R149, R157, R162, R165, R178, R30, R34). -/
def Obligations.TablesAreWrittenByTheirRequests : Prop :=
  ∀ (i : Instr) (kind : ReqKind) (s t : State) (d : StationId) (p : PortId) (g : Byte) (a : List Byte),
    requestOfCommand i = some (requestFor kind d p g a) → s.Ready d kind → exec i s = .next t →
    t.own = s.own ∧ t.minutes = s.minutes ∧ t.line.position = s.line.position ∧ t.line.direction = s.line.direction
    ∧ t.line.eyeBlocked = s.line.eyeBlocked ∧ t.line.nextSerial = s.line.nextSerial
    ∧ (kind ≠ .writeStation → t.stations = s.stations) ∧ (kind ≠ .writeSpecies → t.species = s.species)
    ∧ (kind ≠ .writeKilnLimits → ∀ k : KilnId, (t.kiln k).written = (s.kiln k).written)
    ∧ (kind ≠ .writeFaultActions → ∀ k : KilnId, (t.kiln k).actions = (s.kiln k).actions)
    ∧ (kind ≠ .writeLine → t.line.settings = s.line.settings) ∧ (kind ≠ .writeMark → t.line.patterns = s.line.patterns)
    ∧ (kind ≠ .writeSort → t.sortList = s.sortList)
    ∧ (kind ≠ .writeBin → ∀ b : Fin 16, t.bins[b].target = s.bins[b].target ∧ t.bins[b].kind = s.bins[b].kind)
    ∧ (kind ≠ .setPackBase → t.nextPack = s.nextPack) ∧ (kind ≠ .writeLabelField → t.labels.layout = s.labels.layout)
    ∧ (kind ≠ .setClock → t.clock = s.clock)
    ∧ (kind ≠ .writeWatchdog → t.watchdog.upperWritten = s.watchdog.upperWritten
        ∧ t.watchdog.lowerWritten = s.watchdog.lowerWritten)
    ∧ (kind ≠ .heartbeat → t.watchdog.state = s.watchdog.state ∧ t.watchdog.elapsed = s.watchdog.elapsed
        ∧ t.watchdog.upperInUse = s.watchdog.upperInUse ∧ t.watchdog.lowerInUse = s.watchdog.lowerInUse)
    ∧ (kind ≠ .planerFeed → t.line.infeed = s.line.infeed)
    ∧ (kind.cls ≠ .schedule → t.staging = s.staging)
    ∧ (kind ≠ .editCommit → kind ≠ .entryDelete → ∀ e : Fin 32, t.directory[e].valid = s.directory[e].valid
        ∧ t.directory[e].generation = s.directory[e].generation ∧ t.directory[e].header = s.directory[e].header
        ∧ t.directory[e].steps = s.directory[e].steps)

/-- The events of the timers, the eye and the encoder leave what is not theirs: ENCODER_COUNT, LEADING_EDGE,
TRAILING_EDGE and LABEL_TIMEOUT leave the kilns, the schedule store and the supervision unit's state; KILN_MINUTE_EXPIRY
and WATCHDOG_EXPIRY leave the line, the packs and the labels; EDIT_EXPIRY, MILL_CLOCK_MINUTE and RESET_MINUTE_COUNT
leave all of these. -/
def Obligations.EventsLeaveTheOtherBlocks : Prop :=
  ∀ (i : Instr) (s t : State), exec i s = .next t →
    let finishing : Prop := (∃ x y, i = .encoderCount x y) ∨ i = .leadingEdge ∨ i = .trailingEdge ∨ i = .labelTimeout
    let drying : Prop := (∃ k, i = .kilnMinuteExpiry k) ∨ i = .watchdogExpiry
    let timers : Prop := i = .editExpiry ∨ i = .millClockMinute ∨ i = .resetMinuteCount
    ((finishing ∨ drying ∨ timers) → t.own = s.own ∧ t.stations = s.stations ∧ t.species = s.species
      ∧ t.sortList = s.sortList ∧ t.requests = s.requests ∧ t.replySlot = s.replySlot
      ∧ t.portA.passQueue = s.portA.passQueue ∧ t.portB.passQueue = s.portB.passQueue
      ∧ t.portA.counters = s.portA.counters ∧ t.portB.counters = s.portB.counters)
    ∧ (finishing → t.kilns = s.kilns ∧ t.directory = s.directory ∧ t.staging = s.staging ∧ t.watchdog = s.watchdog
      ∧ t.clock = s.clock ∧ t.minutes = s.minutes ∧ t.line.settings = s.line.settings ∧ t.line.patterns = s.line.patterns
      ∧ t.line.infeed = s.line.infeed ∧ t.labels.layout = s.labels.layout)
    ∧ (drying → t.line = s.line ∧ t.bins = s.bins ∧ t.packLog = s.packLog ∧ t.lots = s.lots ∧ t.nextPack = s.nextPack
      ∧ t.labels.queue = s.labels.queue ∧ t.labels.head = s.labels.head ∧ t.staging = s.staging ∧ t.clock = s.clock
      ∧ t.minutes = s.minutes ∧ t.reuse = s.reuse)
    ∧ (timers → t.kilns = s.kilns ∧ t.line = s.line ∧ t.bins = s.bins ∧ t.packLog = s.packLog ∧ t.lots = s.lots
      ∧ t.charges = s.charges ∧ t.directory = s.directory ∧ t.watchdog = s.watchdog ∧ t.labels = s.labels
      ∧ t.nextPack = s.nextPack ∧ t.reuse = s.reuse)

/-! ## Invariants that every step keeps -/

/-- Every queue and collection stays within its bound, whatever a step does: the queues of the ports, the requests,
the notices and the INFO ones among them, the boards, the labels, the pack log, the lots, a pack's charge list, a
lot's and a charge's origins (R7, R15, R21, R38, R126, R141, R167, R173, R175, R182). The line-hold keeps its bounds:
RELEASED only below 56 boards and 7 labels, ASSERTED only above 48 boards or 4 labels (R155). A committed step below
its entry's count keeps the three conditions of R60, and generation 0 marks exactly the INVALID entries (R64). -/
def Obligations.StepsKeepTheBounds : Prop :=
  (∀ s t : State, s.Bounded → step s = .next t → t.Bounded)
  ∧ (∀ s t : State, s.HoldInBounds → step s = .next t → t.HoldInBounds)
  ∧ ∀ s t : State, s.CommittedLegal → s.StagedCountLegal → step s = .next t → t.CommittedLegal ∧ t.StagedCountLegal

/-- Every kiln unit stays legal: its hold stack as R104 states it, each FAULT entry backed by its latch; a charge, a
position and a running timer exactly outside IDLE; its limits in order; its setpoints absent in IDLE and otherwise
within the limits in use. The charge table stays in agreement: a record's reference count equals its boards plus the
open packs that list it (R127), live numbers are distinct (R136), the reuse order lists the CLOSED records (R133), the
PLANING one is the infeed's (R130); a kiln and its charge record agree in state and name each other (R77); a history
has at most 24 entries (R95); an entry's in-use count is the number of kilns bound to it (R62). -/
def Obligations.StepsKeepTheKilnsLegal : Prop :=
  (∀ s t : State, s.HoldsLegal → s.KilnsOccupied → s.SetpointsLegal → step s = .next t →
    t.HoldsLegal ∧ t.KilnsOccupied ∧ t.SetpointsLegal)
  ∧ ∀ s t : State, s.RecordsAgree → s.KilnsAgree → s.HoldsLegal → s.KilnsOccupied → s.CommittedLegal →
    s.StagedCountLegal → step s = .next t → t.RecordsAgree ∧ t.KilnsAgree

/-- The station map keeps each unique role and the notify flag with one station at most, the flag with a supervisor, and
the part's own number without a role. -/
def Obligations.StepsKeepTheMapLegal : Prop :=
  ∀ s t : State, s.MapLegal → step s = .next t → t.MapLegal

/-- The reset state meets all of these invariants; it is the state that a DEVICE_RESET answers with every input low, which is
the model's choice of levels (log 5). After every device reset the timeout in use is 20 s, which is the model's choice
(log 30). -/
def Obligations.ResetMeetsTheInvariants : Prop :=
  (∀ s : State, exec (.deviceReset 0 false false false) s =
    .next { State.reset with pending := s.pending, freeCount := s.freeCount })
  ∧ State.reset.Bounded ∧ State.reset.HoldsLegal ∧ State.reset.KilnsOccupied ∧ State.reset.SetpointsLegal ∧ State.reset.MapLegal
  ∧ State.reset.HoldInBounds ∧ State.reset.CommittedLegal ∧ State.reset.StagedCountLegal ∧ State.reset.RecordsAgree
  ∧ State.reset.KilnsAgree
  ∧ ∀ (straps : Byte) (eye encA encB : Bool), (State.afterReset straps eye encA encB).labels.timeoutInUse = 20
end

