-- ==== Sys2Proof/Laws/State.lean ====
section
/-! SUPPORT. One lemma per field per update of State, and reading what an update has written: no proof needs to unfold a
record update. -/

namespace Sys2Proof.Machine

/-! ### setPort -/

@[simp] theorem State.setPort_pending (p : PortId) (x : Port) (s : State) : (s.setPort p x).pending = s.pending := by cases p <;> rfl
@[simp] theorem State.setPort_freeCount (p : PortId) (x : Port) (s : State) : (s.setPort p x).freeCount = s.freeCount := by cases p <;> rfl
@[simp] theorem State.setPort_own (p : PortId) (x : Port) (s : State) : (s.setPort p x).own = s.own := by cases p <;> rfl
@[simp] theorem State.setPort_sendCounter (p : PortId) (x : Port) (s : State) : (s.setPort p x).sendCounter = s.sendCounter := by cases p <;> rfl
@[simp] theorem State.setPort_stations (p : PortId) (x : Port) (s : State) : (s.setPort p x).stations = s.stations := by cases p <;> rfl
@[simp] theorem State.setPort_requests (p : PortId) (x : Port) (s : State) : (s.setPort p x).requests = s.requests := by cases p <;> rfl
@[simp] theorem State.setPort_replySlot (p : PortId) (x : Port) (s : State) : (s.setPort p x).replySlot = s.replySlot := by cases p <;> rfl
@[simp] theorem State.setPort_watchdog (p : PortId) (x : Port) (s : State) : (s.setPort p x).watchdog = s.watchdog := by cases p <;> rfl
@[simp] theorem State.setPort_clock (p : PortId) (x : Port) (s : State) : (s.setPort p x).clock = s.clock := by cases p <;> rfl
@[simp] theorem State.setPort_minutes (p : PortId) (x : Port) (s : State) : (s.setPort p x).minutes = s.minutes := by cases p <;> rfl
@[simp] theorem State.setPort_minutePhase (p : PortId) (x : Port) (s : State) : (s.setPort p x).minutePhase = s.minutePhase := by cases p <;> rfl
@[simp] theorem State.setPort_supervision (p : PortId) (x : Port) (s : State) : (s.setPort p x).supervision = s.supervision := by cases p <;> rfl
@[simp] theorem State.setPort_notices (p : PortId) (x : Port) (s : State) : (s.setPort p x).notices = s.notices := by cases p <;> rfl
@[simp] theorem State.setPort_dropCount (p : PortId) (x : Port) (s : State) : (s.setPort p x).dropCount = s.dropCount := by cases p <;> rfl
@[simp] theorem State.setPort_species (p : PortId) (x : Port) (s : State) : (s.setPort p x).species = s.species := by cases p <;> rfl
@[simp] theorem State.setPort_directory (p : PortId) (x : Port) (s : State) : (s.setPort p x).directory = s.directory := by cases p <;> rfl
@[simp] theorem State.setPort_staging (p : PortId) (x : Port) (s : State) : (s.setPort p x).staging = s.staging := by cases p <;> rfl
@[simp] theorem State.setPort_kilns (p : PortId) (x : Port) (s : State) : (s.setPort p x).kilns = s.kilns := by cases p <;> rfl
@[simp] theorem State.setPort_charges (p : PortId) (x : Port) (s : State) : (s.setPort p x).charges = s.charges := by cases p <;> rfl
@[simp] theorem State.setPort_reuse (p : PortId) (x : Port) (s : State) : (s.setPort p x).reuse = s.reuse := by cases p <;> rfl
@[simp] theorem State.setPort_line (p : PortId) (x : Port) (s : State) : (s.setPort p x).line = s.line := by cases p <;> rfl
@[simp] theorem State.setPort_sortList (p : PortId) (x : Port) (s : State) : (s.setPort p x).sortList = s.sortList := by cases p <;> rfl
@[simp] theorem State.setPort_bins (p : PortId) (x : Port) (s : State) : (s.setPort p x).bins = s.bins := by cases p <;> rfl
@[simp] theorem State.setPort_nextPack (p : PortId) (x : Port) (s : State) : (s.setPort p x).nextPack = s.nextPack := by cases p <;> rfl
@[simp] theorem State.setPort_packLog (p : PortId) (x : Port) (s : State) : (s.setPort p x).packLog = s.packLog := by cases p <;> rfl
@[simp] theorem State.setPort_lots (p : PortId) (x : Port) (s : State) : (s.setPort p x).lots = s.lots := by cases p <;> rfl
@[simp] theorem State.setPort_labels (p : PortId) (x : Port) (s : State) : (s.setPort p x).labels = s.labels := by cases p <;> rfl

/-! ### modPort -/

@[simp] theorem State.modPort_pending (p : PortId) (f : Port → Port) (s : State) : (s.modPort p f).pending = s.pending := by cases p <;> rfl
@[simp] theorem State.modPort_freeCount (p : PortId) (f : Port → Port) (s : State) : (s.modPort p f).freeCount = s.freeCount := by cases p <;> rfl
@[simp] theorem State.modPort_own (p : PortId) (f : Port → Port) (s : State) : (s.modPort p f).own = s.own := by cases p <;> rfl
@[simp] theorem State.modPort_sendCounter (p : PortId) (f : Port → Port) (s : State) : (s.modPort p f).sendCounter = s.sendCounter := by cases p <;> rfl
@[simp] theorem State.modPort_stations (p : PortId) (f : Port → Port) (s : State) : (s.modPort p f).stations = s.stations := by cases p <;> rfl
@[simp] theorem State.modPort_requests (p : PortId) (f : Port → Port) (s : State) : (s.modPort p f).requests = s.requests := by cases p <;> rfl
@[simp] theorem State.modPort_replySlot (p : PortId) (f : Port → Port) (s : State) : (s.modPort p f).replySlot = s.replySlot := by cases p <;> rfl
@[simp] theorem State.modPort_watchdog (p : PortId) (f : Port → Port) (s : State) : (s.modPort p f).watchdog = s.watchdog := by cases p <;> rfl
@[simp] theorem State.modPort_clock (p : PortId) (f : Port → Port) (s : State) : (s.modPort p f).clock = s.clock := by cases p <;> rfl
@[simp] theorem State.modPort_minutes (p : PortId) (f : Port → Port) (s : State) : (s.modPort p f).minutes = s.minutes := by cases p <;> rfl
@[simp] theorem State.modPort_minutePhase (p : PortId) (f : Port → Port) (s : State) : (s.modPort p f).minutePhase = s.minutePhase := by cases p <;> rfl
@[simp] theorem State.modPort_supervision (p : PortId) (f : Port → Port) (s : State) : (s.modPort p f).supervision = s.supervision := by cases p <;> rfl
@[simp] theorem State.modPort_notices (p : PortId) (f : Port → Port) (s : State) : (s.modPort p f).notices = s.notices := by cases p <;> rfl
@[simp] theorem State.modPort_dropCount (p : PortId) (f : Port → Port) (s : State) : (s.modPort p f).dropCount = s.dropCount := by cases p <;> rfl
@[simp] theorem State.modPort_species (p : PortId) (f : Port → Port) (s : State) : (s.modPort p f).species = s.species := by cases p <;> rfl
@[simp] theorem State.modPort_directory (p : PortId) (f : Port → Port) (s : State) : (s.modPort p f).directory = s.directory := by cases p <;> rfl
@[simp] theorem State.modPort_staging (p : PortId) (f : Port → Port) (s : State) : (s.modPort p f).staging = s.staging := by cases p <;> rfl
@[simp] theorem State.modPort_kilns (p : PortId) (f : Port → Port) (s : State) : (s.modPort p f).kilns = s.kilns := by cases p <;> rfl
@[simp] theorem State.modPort_charges (p : PortId) (f : Port → Port) (s : State) : (s.modPort p f).charges = s.charges := by cases p <;> rfl
@[simp] theorem State.modPort_reuse (p : PortId) (f : Port → Port) (s : State) : (s.modPort p f).reuse = s.reuse := by cases p <;> rfl
@[simp] theorem State.modPort_line (p : PortId) (f : Port → Port) (s : State) : (s.modPort p f).line = s.line := by cases p <;> rfl
@[simp] theorem State.modPort_sortList (p : PortId) (f : Port → Port) (s : State) : (s.modPort p f).sortList = s.sortList := by cases p <;> rfl
@[simp] theorem State.modPort_bins (p : PortId) (f : Port → Port) (s : State) : (s.modPort p f).bins = s.bins := by cases p <;> rfl
@[simp] theorem State.modPort_nextPack (p : PortId) (f : Port → Port) (s : State) : (s.modPort p f).nextPack = s.nextPack := by cases p <;> rfl
@[simp] theorem State.modPort_packLog (p : PortId) (f : Port → Port) (s : State) : (s.modPort p f).packLog = s.packLog := by cases p <;> rfl
@[simp] theorem State.modPort_lots (p : PortId) (f : Port → Port) (s : State) : (s.modPort p f).lots = s.lots := by cases p <;> rfl
@[simp] theorem State.modPort_labels (p : PortId) (f : Port → Port) (s : State) : (s.modPort p f).labels = s.labels := by cases p <;> rfl

/-! ### setKiln -/

@[simp] theorem State.setKiln_pending (k : KilnId) (q : Kiln) (s : State) : (s.setKiln k q).pending = s.pending := rfl
@[simp] theorem State.setKiln_freeCount (k : KilnId) (q : Kiln) (s : State) : (s.setKiln k q).freeCount = s.freeCount := rfl
@[simp] theorem State.setKiln_own (k : KilnId) (q : Kiln) (s : State) : (s.setKiln k q).own = s.own := rfl
@[simp] theorem State.setKiln_sendCounter (k : KilnId) (q : Kiln) (s : State) : (s.setKiln k q).sendCounter = s.sendCounter := rfl
@[simp] theorem State.setKiln_portA (k : KilnId) (q : Kiln) (s : State) : (s.setKiln k q).portA = s.portA := rfl
@[simp] theorem State.setKiln_portB (k : KilnId) (q : Kiln) (s : State) : (s.setKiln k q).portB = s.portB := rfl
@[simp] theorem State.setKiln_stations (k : KilnId) (q : Kiln) (s : State) : (s.setKiln k q).stations = s.stations := rfl
@[simp] theorem State.setKiln_requests (k : KilnId) (q : Kiln) (s : State) : (s.setKiln k q).requests = s.requests := rfl
@[simp] theorem State.setKiln_replySlot (k : KilnId) (q : Kiln) (s : State) : (s.setKiln k q).replySlot = s.replySlot := rfl
@[simp] theorem State.setKiln_watchdog (k : KilnId) (q : Kiln) (s : State) : (s.setKiln k q).watchdog = s.watchdog := rfl
@[simp] theorem State.setKiln_clock (k : KilnId) (q : Kiln) (s : State) : (s.setKiln k q).clock = s.clock := rfl
@[simp] theorem State.setKiln_minutes (k : KilnId) (q : Kiln) (s : State) : (s.setKiln k q).minutes = s.minutes := rfl
@[simp] theorem State.setKiln_minutePhase (k : KilnId) (q : Kiln) (s : State) : (s.setKiln k q).minutePhase = s.minutePhase := rfl
@[simp] theorem State.setKiln_supervision (k : KilnId) (q : Kiln) (s : State) : (s.setKiln k q).supervision = s.supervision := rfl
@[simp] theorem State.setKiln_notices (k : KilnId) (q : Kiln) (s : State) : (s.setKiln k q).notices = s.notices := rfl
@[simp] theorem State.setKiln_dropCount (k : KilnId) (q : Kiln) (s : State) : (s.setKiln k q).dropCount = s.dropCount := rfl
@[simp] theorem State.setKiln_species (k : KilnId) (q : Kiln) (s : State) : (s.setKiln k q).species = s.species := rfl
@[simp] theorem State.setKiln_directory (k : KilnId) (q : Kiln) (s : State) : (s.setKiln k q).directory = s.directory := rfl
@[simp] theorem State.setKiln_staging (k : KilnId) (q : Kiln) (s : State) : (s.setKiln k q).staging = s.staging := rfl
@[simp] theorem State.setKiln_charges (k : KilnId) (q : Kiln) (s : State) : (s.setKiln k q).charges = s.charges := rfl
@[simp] theorem State.setKiln_reuse (k : KilnId) (q : Kiln) (s : State) : (s.setKiln k q).reuse = s.reuse := rfl
@[simp] theorem State.setKiln_line (k : KilnId) (q : Kiln) (s : State) : (s.setKiln k q).line = s.line := rfl
@[simp] theorem State.setKiln_sortList (k : KilnId) (q : Kiln) (s : State) : (s.setKiln k q).sortList = s.sortList := rfl
@[simp] theorem State.setKiln_bins (k : KilnId) (q : Kiln) (s : State) : (s.setKiln k q).bins = s.bins := rfl
@[simp] theorem State.setKiln_nextPack (k : KilnId) (q : Kiln) (s : State) : (s.setKiln k q).nextPack = s.nextPack := rfl
@[simp] theorem State.setKiln_packLog (k : KilnId) (q : Kiln) (s : State) : (s.setKiln k q).packLog = s.packLog := rfl
@[simp] theorem State.setKiln_lots (k : KilnId) (q : Kiln) (s : State) : (s.setKiln k q).lots = s.lots := rfl
@[simp] theorem State.setKiln_labels (k : KilnId) (q : Kiln) (s : State) : (s.setKiln k q).labels = s.labels := rfl

/-! ### modKiln -/

@[simp] theorem State.modKiln_pending (k : KilnId) (f : Kiln → Kiln) (s : State) : (s.modKiln k f).pending = s.pending := rfl
@[simp] theorem State.modKiln_freeCount (k : KilnId) (f : Kiln → Kiln) (s : State) : (s.modKiln k f).freeCount = s.freeCount := rfl
@[simp] theorem State.modKiln_own (k : KilnId) (f : Kiln → Kiln) (s : State) : (s.modKiln k f).own = s.own := rfl
@[simp] theorem State.modKiln_sendCounter (k : KilnId) (f : Kiln → Kiln) (s : State) : (s.modKiln k f).sendCounter = s.sendCounter := rfl
@[simp] theorem State.modKiln_portA (k : KilnId) (f : Kiln → Kiln) (s : State) : (s.modKiln k f).portA = s.portA := rfl
@[simp] theorem State.modKiln_portB (k : KilnId) (f : Kiln → Kiln) (s : State) : (s.modKiln k f).portB = s.portB := rfl
@[simp] theorem State.modKiln_stations (k : KilnId) (f : Kiln → Kiln) (s : State) : (s.modKiln k f).stations = s.stations := rfl
@[simp] theorem State.modKiln_requests (k : KilnId) (f : Kiln → Kiln) (s : State) : (s.modKiln k f).requests = s.requests := rfl
@[simp] theorem State.modKiln_replySlot (k : KilnId) (f : Kiln → Kiln) (s : State) : (s.modKiln k f).replySlot = s.replySlot := rfl
@[simp] theorem State.modKiln_watchdog (k : KilnId) (f : Kiln → Kiln) (s : State) : (s.modKiln k f).watchdog = s.watchdog := rfl
@[simp] theorem State.modKiln_clock (k : KilnId) (f : Kiln → Kiln) (s : State) : (s.modKiln k f).clock = s.clock := rfl
@[simp] theorem State.modKiln_minutes (k : KilnId) (f : Kiln → Kiln) (s : State) : (s.modKiln k f).minutes = s.minutes := rfl
@[simp] theorem State.modKiln_minutePhase (k : KilnId) (f : Kiln → Kiln) (s : State) : (s.modKiln k f).minutePhase = s.minutePhase := rfl
@[simp] theorem State.modKiln_supervision (k : KilnId) (f : Kiln → Kiln) (s : State) : (s.modKiln k f).supervision = s.supervision := rfl
@[simp] theorem State.modKiln_notices (k : KilnId) (f : Kiln → Kiln) (s : State) : (s.modKiln k f).notices = s.notices := rfl
@[simp] theorem State.modKiln_dropCount (k : KilnId) (f : Kiln → Kiln) (s : State) : (s.modKiln k f).dropCount = s.dropCount := rfl
@[simp] theorem State.modKiln_species (k : KilnId) (f : Kiln → Kiln) (s : State) : (s.modKiln k f).species = s.species := rfl
@[simp] theorem State.modKiln_directory (k : KilnId) (f : Kiln → Kiln) (s : State) : (s.modKiln k f).directory = s.directory := rfl
@[simp] theorem State.modKiln_staging (k : KilnId) (f : Kiln → Kiln) (s : State) : (s.modKiln k f).staging = s.staging := rfl
@[simp] theorem State.modKiln_charges (k : KilnId) (f : Kiln → Kiln) (s : State) : (s.modKiln k f).charges = s.charges := rfl
@[simp] theorem State.modKiln_reuse (k : KilnId) (f : Kiln → Kiln) (s : State) : (s.modKiln k f).reuse = s.reuse := rfl
@[simp] theorem State.modKiln_line (k : KilnId) (f : Kiln → Kiln) (s : State) : (s.modKiln k f).line = s.line := rfl
@[simp] theorem State.modKiln_sortList (k : KilnId) (f : Kiln → Kiln) (s : State) : (s.modKiln k f).sortList = s.sortList := rfl
@[simp] theorem State.modKiln_bins (k : KilnId) (f : Kiln → Kiln) (s : State) : (s.modKiln k f).bins = s.bins := rfl
@[simp] theorem State.modKiln_nextPack (k : KilnId) (f : Kiln → Kiln) (s : State) : (s.modKiln k f).nextPack = s.nextPack := rfl
@[simp] theorem State.modKiln_packLog (k : KilnId) (f : Kiln → Kiln) (s : State) : (s.modKiln k f).packLog = s.packLog := rfl
@[simp] theorem State.modKiln_lots (k : KilnId) (f : Kiln → Kiln) (s : State) : (s.modKiln k f).lots = s.lots := rfl
@[simp] theorem State.modKiln_labels (k : KilnId) (f : Kiln → Kiln) (s : State) : (s.modKiln k f).labels = s.labels := rfl

/-! ### modLine -/

@[simp] theorem State.modLine_pending (f : Line → Line) (s : State) : (s.modLine f).pending = s.pending := rfl
@[simp] theorem State.modLine_freeCount (f : Line → Line) (s : State) : (s.modLine f).freeCount = s.freeCount := rfl
@[simp] theorem State.modLine_own (f : Line → Line) (s : State) : (s.modLine f).own = s.own := rfl
@[simp] theorem State.modLine_sendCounter (f : Line → Line) (s : State) : (s.modLine f).sendCounter = s.sendCounter := rfl
@[simp] theorem State.modLine_portA (f : Line → Line) (s : State) : (s.modLine f).portA = s.portA := rfl
@[simp] theorem State.modLine_portB (f : Line → Line) (s : State) : (s.modLine f).portB = s.portB := rfl
@[simp] theorem State.modLine_stations (f : Line → Line) (s : State) : (s.modLine f).stations = s.stations := rfl
@[simp] theorem State.modLine_requests (f : Line → Line) (s : State) : (s.modLine f).requests = s.requests := rfl
@[simp] theorem State.modLine_replySlot (f : Line → Line) (s : State) : (s.modLine f).replySlot = s.replySlot := rfl
@[simp] theorem State.modLine_watchdog (f : Line → Line) (s : State) : (s.modLine f).watchdog = s.watchdog := rfl
@[simp] theorem State.modLine_clock (f : Line → Line) (s : State) : (s.modLine f).clock = s.clock := rfl
@[simp] theorem State.modLine_minutes (f : Line → Line) (s : State) : (s.modLine f).minutes = s.minutes := rfl
@[simp] theorem State.modLine_minutePhase (f : Line → Line) (s : State) : (s.modLine f).minutePhase = s.minutePhase := rfl
@[simp] theorem State.modLine_supervision (f : Line → Line) (s : State) : (s.modLine f).supervision = s.supervision := rfl
@[simp] theorem State.modLine_notices (f : Line → Line) (s : State) : (s.modLine f).notices = s.notices := rfl
@[simp] theorem State.modLine_dropCount (f : Line → Line) (s : State) : (s.modLine f).dropCount = s.dropCount := rfl
@[simp] theorem State.modLine_species (f : Line → Line) (s : State) : (s.modLine f).species = s.species := rfl
@[simp] theorem State.modLine_directory (f : Line → Line) (s : State) : (s.modLine f).directory = s.directory := rfl
@[simp] theorem State.modLine_staging (f : Line → Line) (s : State) : (s.modLine f).staging = s.staging := rfl
@[simp] theorem State.modLine_kilns (f : Line → Line) (s : State) : (s.modLine f).kilns = s.kilns := rfl
@[simp] theorem State.modLine_charges (f : Line → Line) (s : State) : (s.modLine f).charges = s.charges := rfl
@[simp] theorem State.modLine_reuse (f : Line → Line) (s : State) : (s.modLine f).reuse = s.reuse := rfl
@[simp] theorem State.modLine_sortList (f : Line → Line) (s : State) : (s.modLine f).sortList = s.sortList := rfl
@[simp] theorem State.modLine_bins (f : Line → Line) (s : State) : (s.modLine f).bins = s.bins := rfl
@[simp] theorem State.modLine_nextPack (f : Line → Line) (s : State) : (s.modLine f).nextPack = s.nextPack := rfl
@[simp] theorem State.modLine_packLog (f : Line → Line) (s : State) : (s.modLine f).packLog = s.packLog := rfl
@[simp] theorem State.modLine_lots (f : Line → Line) (s : State) : (s.modLine f).lots = s.lots := rfl
@[simp] theorem State.modLine_labels (f : Line → Line) (s : State) : (s.modLine f).labels = s.labels := rfl

/-! ### modLabels -/

@[simp] theorem State.modLabels_pending (f : LabelUnit → LabelUnit) (s : State) : (s.modLabels f).pending = s.pending := rfl
@[simp] theorem State.modLabels_freeCount (f : LabelUnit → LabelUnit) (s : State) : (s.modLabels f).freeCount = s.freeCount := rfl
@[simp] theorem State.modLabels_own (f : LabelUnit → LabelUnit) (s : State) : (s.modLabels f).own = s.own := rfl
@[simp] theorem State.modLabels_sendCounter (f : LabelUnit → LabelUnit) (s : State) : (s.modLabels f).sendCounter = s.sendCounter := rfl
@[simp] theorem State.modLabels_portA (f : LabelUnit → LabelUnit) (s : State) : (s.modLabels f).portA = s.portA := rfl
@[simp] theorem State.modLabels_portB (f : LabelUnit → LabelUnit) (s : State) : (s.modLabels f).portB = s.portB := rfl
@[simp] theorem State.modLabels_stations (f : LabelUnit → LabelUnit) (s : State) : (s.modLabels f).stations = s.stations := rfl
@[simp] theorem State.modLabels_requests (f : LabelUnit → LabelUnit) (s : State) : (s.modLabels f).requests = s.requests := rfl
@[simp] theorem State.modLabels_replySlot (f : LabelUnit → LabelUnit) (s : State) : (s.modLabels f).replySlot = s.replySlot := rfl
@[simp] theorem State.modLabels_watchdog (f : LabelUnit → LabelUnit) (s : State) : (s.modLabels f).watchdog = s.watchdog := rfl
@[simp] theorem State.modLabels_clock (f : LabelUnit → LabelUnit) (s : State) : (s.modLabels f).clock = s.clock := rfl
@[simp] theorem State.modLabels_minutes (f : LabelUnit → LabelUnit) (s : State) : (s.modLabels f).minutes = s.minutes := rfl
@[simp] theorem State.modLabels_minutePhase (f : LabelUnit → LabelUnit) (s : State) : (s.modLabels f).minutePhase = s.minutePhase := rfl
@[simp] theorem State.modLabels_supervision (f : LabelUnit → LabelUnit) (s : State) : (s.modLabels f).supervision = s.supervision := rfl
@[simp] theorem State.modLabels_notices (f : LabelUnit → LabelUnit) (s : State) : (s.modLabels f).notices = s.notices := rfl
@[simp] theorem State.modLabels_dropCount (f : LabelUnit → LabelUnit) (s : State) : (s.modLabels f).dropCount = s.dropCount := rfl
@[simp] theorem State.modLabels_species (f : LabelUnit → LabelUnit) (s : State) : (s.modLabels f).species = s.species := rfl
@[simp] theorem State.modLabels_directory (f : LabelUnit → LabelUnit) (s : State) : (s.modLabels f).directory = s.directory := rfl
@[simp] theorem State.modLabels_staging (f : LabelUnit → LabelUnit) (s : State) : (s.modLabels f).staging = s.staging := rfl
@[simp] theorem State.modLabels_kilns (f : LabelUnit → LabelUnit) (s : State) : (s.modLabels f).kilns = s.kilns := rfl
@[simp] theorem State.modLabels_charges (f : LabelUnit → LabelUnit) (s : State) : (s.modLabels f).charges = s.charges := rfl
@[simp] theorem State.modLabels_reuse (f : LabelUnit → LabelUnit) (s : State) : (s.modLabels f).reuse = s.reuse := rfl
@[simp] theorem State.modLabels_line (f : LabelUnit → LabelUnit) (s : State) : (s.modLabels f).line = s.line := rfl
@[simp] theorem State.modLabels_sortList (f : LabelUnit → LabelUnit) (s : State) : (s.modLabels f).sortList = s.sortList := rfl
@[simp] theorem State.modLabels_bins (f : LabelUnit → LabelUnit) (s : State) : (s.modLabels f).bins = s.bins := rfl
@[simp] theorem State.modLabels_nextPack (f : LabelUnit → LabelUnit) (s : State) : (s.modLabels f).nextPack = s.nextPack := rfl
@[simp] theorem State.modLabels_packLog (f : LabelUnit → LabelUnit) (s : State) : (s.modLabels f).packLog = s.packLog := rfl
@[simp] theorem State.modLabels_lots (f : LabelUnit → LabelUnit) (s : State) : (s.modLabels f).lots = s.lots := rfl

/-! ### modBin -/

@[simp] theorem State.modBin_pending (b : Fin 16) (f : Bin → Bin) (s : State) : (s.modBin b f).pending = s.pending := rfl
@[simp] theorem State.modBin_freeCount (b : Fin 16) (f : Bin → Bin) (s : State) : (s.modBin b f).freeCount = s.freeCount := rfl
@[simp] theorem State.modBin_own (b : Fin 16) (f : Bin → Bin) (s : State) : (s.modBin b f).own = s.own := rfl
@[simp] theorem State.modBin_sendCounter (b : Fin 16) (f : Bin → Bin) (s : State) : (s.modBin b f).sendCounter = s.sendCounter := rfl
@[simp] theorem State.modBin_portA (b : Fin 16) (f : Bin → Bin) (s : State) : (s.modBin b f).portA = s.portA := rfl
@[simp] theorem State.modBin_portB (b : Fin 16) (f : Bin → Bin) (s : State) : (s.modBin b f).portB = s.portB := rfl
@[simp] theorem State.modBin_stations (b : Fin 16) (f : Bin → Bin) (s : State) : (s.modBin b f).stations = s.stations := rfl
@[simp] theorem State.modBin_requests (b : Fin 16) (f : Bin → Bin) (s : State) : (s.modBin b f).requests = s.requests := rfl
@[simp] theorem State.modBin_replySlot (b : Fin 16) (f : Bin → Bin) (s : State) : (s.modBin b f).replySlot = s.replySlot := rfl
@[simp] theorem State.modBin_watchdog (b : Fin 16) (f : Bin → Bin) (s : State) : (s.modBin b f).watchdog = s.watchdog := rfl
@[simp] theorem State.modBin_clock (b : Fin 16) (f : Bin → Bin) (s : State) : (s.modBin b f).clock = s.clock := rfl
@[simp] theorem State.modBin_minutes (b : Fin 16) (f : Bin → Bin) (s : State) : (s.modBin b f).minutes = s.minutes := rfl
@[simp] theorem State.modBin_minutePhase (b : Fin 16) (f : Bin → Bin) (s : State) : (s.modBin b f).minutePhase = s.minutePhase := rfl
@[simp] theorem State.modBin_supervision (b : Fin 16) (f : Bin → Bin) (s : State) : (s.modBin b f).supervision = s.supervision := rfl
@[simp] theorem State.modBin_notices (b : Fin 16) (f : Bin → Bin) (s : State) : (s.modBin b f).notices = s.notices := rfl
@[simp] theorem State.modBin_dropCount (b : Fin 16) (f : Bin → Bin) (s : State) : (s.modBin b f).dropCount = s.dropCount := rfl
@[simp] theorem State.modBin_species (b : Fin 16) (f : Bin → Bin) (s : State) : (s.modBin b f).species = s.species := rfl
@[simp] theorem State.modBin_directory (b : Fin 16) (f : Bin → Bin) (s : State) : (s.modBin b f).directory = s.directory := rfl
@[simp] theorem State.modBin_staging (b : Fin 16) (f : Bin → Bin) (s : State) : (s.modBin b f).staging = s.staging := rfl
@[simp] theorem State.modBin_kilns (b : Fin 16) (f : Bin → Bin) (s : State) : (s.modBin b f).kilns = s.kilns := rfl
@[simp] theorem State.modBin_charges (b : Fin 16) (f : Bin → Bin) (s : State) : (s.modBin b f).charges = s.charges := rfl
@[simp] theorem State.modBin_reuse (b : Fin 16) (f : Bin → Bin) (s : State) : (s.modBin b f).reuse = s.reuse := rfl
@[simp] theorem State.modBin_line (b : Fin 16) (f : Bin → Bin) (s : State) : (s.modBin b f).line = s.line := rfl
@[simp] theorem State.modBin_sortList (b : Fin 16) (f : Bin → Bin) (s : State) : (s.modBin b f).sortList = s.sortList := rfl
@[simp] theorem State.modBin_nextPack (b : Fin 16) (f : Bin → Bin) (s : State) : (s.modBin b f).nextPack = s.nextPack := rfl
@[simp] theorem State.modBin_packLog (b : Fin 16) (f : Bin → Bin) (s : State) : (s.modBin b f).packLog = s.packLog := rfl
@[simp] theorem State.modBin_lots (b : Fin 16) (f : Bin → Bin) (s : State) : (s.modBin b f).lots = s.lots := rfl
@[simp] theorem State.modBin_labels (b : Fin 16) (f : Bin → Bin) (s : State) : (s.modBin b f).labels = s.labels := rfl

/-! ### setCharge -/

@[simp] theorem State.setCharge_pending (i : Fin 48) (c : Charge) (s : State) : (s.setCharge i c).pending = s.pending := rfl
@[simp] theorem State.setCharge_freeCount (i : Fin 48) (c : Charge) (s : State) : (s.setCharge i c).freeCount = s.freeCount := rfl
@[simp] theorem State.setCharge_own (i : Fin 48) (c : Charge) (s : State) : (s.setCharge i c).own = s.own := rfl
@[simp] theorem State.setCharge_sendCounter (i : Fin 48) (c : Charge) (s : State) : (s.setCharge i c).sendCounter = s.sendCounter := rfl
@[simp] theorem State.setCharge_portA (i : Fin 48) (c : Charge) (s : State) : (s.setCharge i c).portA = s.portA := rfl
@[simp] theorem State.setCharge_portB (i : Fin 48) (c : Charge) (s : State) : (s.setCharge i c).portB = s.portB := rfl
@[simp] theorem State.setCharge_stations (i : Fin 48) (c : Charge) (s : State) : (s.setCharge i c).stations = s.stations := rfl
@[simp] theorem State.setCharge_requests (i : Fin 48) (c : Charge) (s : State) : (s.setCharge i c).requests = s.requests := rfl
@[simp] theorem State.setCharge_replySlot (i : Fin 48) (c : Charge) (s : State) : (s.setCharge i c).replySlot = s.replySlot := rfl
@[simp] theorem State.setCharge_watchdog (i : Fin 48) (c : Charge) (s : State) : (s.setCharge i c).watchdog = s.watchdog := rfl
@[simp] theorem State.setCharge_clock (i : Fin 48) (c : Charge) (s : State) : (s.setCharge i c).clock = s.clock := rfl
@[simp] theorem State.setCharge_minutes (i : Fin 48) (c : Charge) (s : State) : (s.setCharge i c).minutes = s.minutes := rfl
@[simp] theorem State.setCharge_minutePhase (i : Fin 48) (c : Charge) (s : State) : (s.setCharge i c).minutePhase = s.minutePhase := rfl
@[simp] theorem State.setCharge_supervision (i : Fin 48) (c : Charge) (s : State) : (s.setCharge i c).supervision = s.supervision := rfl
@[simp] theorem State.setCharge_notices (i : Fin 48) (c : Charge) (s : State) : (s.setCharge i c).notices = s.notices := rfl
@[simp] theorem State.setCharge_dropCount (i : Fin 48) (c : Charge) (s : State) : (s.setCharge i c).dropCount = s.dropCount := rfl
@[simp] theorem State.setCharge_species (i : Fin 48) (c : Charge) (s : State) : (s.setCharge i c).species = s.species := rfl
@[simp] theorem State.setCharge_directory (i : Fin 48) (c : Charge) (s : State) : (s.setCharge i c).directory = s.directory := rfl
@[simp] theorem State.setCharge_staging (i : Fin 48) (c : Charge) (s : State) : (s.setCharge i c).staging = s.staging := rfl
@[simp] theorem State.setCharge_kilns (i : Fin 48) (c : Charge) (s : State) : (s.setCharge i c).kilns = s.kilns := rfl
@[simp] theorem State.setCharge_reuse (i : Fin 48) (c : Charge) (s : State) : (s.setCharge i c).reuse = s.reuse := rfl
@[simp] theorem State.setCharge_line (i : Fin 48) (c : Charge) (s : State) : (s.setCharge i c).line = s.line := rfl
@[simp] theorem State.setCharge_sortList (i : Fin 48) (c : Charge) (s : State) : (s.setCharge i c).sortList = s.sortList := rfl
@[simp] theorem State.setCharge_bins (i : Fin 48) (c : Charge) (s : State) : (s.setCharge i c).bins = s.bins := rfl
@[simp] theorem State.setCharge_nextPack (i : Fin 48) (c : Charge) (s : State) : (s.setCharge i c).nextPack = s.nextPack := rfl
@[simp] theorem State.setCharge_packLog (i : Fin 48) (c : Charge) (s : State) : (s.setCharge i c).packLog = s.packLog := rfl
@[simp] theorem State.setCharge_lots (i : Fin 48) (c : Charge) (s : State) : (s.setCharge i c).lots = s.lots := rfl
@[simp] theorem State.setCharge_labels (i : Fin 48) (c : Charge) (s : State) : (s.setCharge i c).labels = s.labels := rfl

/-! ### modEntry -/

@[simp] theorem State.modEntry_pending (d : Fin 32) (f : DirEntry → DirEntry) (s : State) : (s.modEntry d f).pending = s.pending := rfl
@[simp] theorem State.modEntry_freeCount (d : Fin 32) (f : DirEntry → DirEntry) (s : State) : (s.modEntry d f).freeCount = s.freeCount := rfl
@[simp] theorem State.modEntry_own (d : Fin 32) (f : DirEntry → DirEntry) (s : State) : (s.modEntry d f).own = s.own := rfl
@[simp] theorem State.modEntry_sendCounter (d : Fin 32) (f : DirEntry → DirEntry) (s : State) : (s.modEntry d f).sendCounter = s.sendCounter := rfl
@[simp] theorem State.modEntry_portA (d : Fin 32) (f : DirEntry → DirEntry) (s : State) : (s.modEntry d f).portA = s.portA := rfl
@[simp] theorem State.modEntry_portB (d : Fin 32) (f : DirEntry → DirEntry) (s : State) : (s.modEntry d f).portB = s.portB := rfl
@[simp] theorem State.modEntry_stations (d : Fin 32) (f : DirEntry → DirEntry) (s : State) : (s.modEntry d f).stations = s.stations := rfl
@[simp] theorem State.modEntry_requests (d : Fin 32) (f : DirEntry → DirEntry) (s : State) : (s.modEntry d f).requests = s.requests := rfl
@[simp] theorem State.modEntry_replySlot (d : Fin 32) (f : DirEntry → DirEntry) (s : State) : (s.modEntry d f).replySlot = s.replySlot := rfl
@[simp] theorem State.modEntry_watchdog (d : Fin 32) (f : DirEntry → DirEntry) (s : State) : (s.modEntry d f).watchdog = s.watchdog := rfl
@[simp] theorem State.modEntry_clock (d : Fin 32) (f : DirEntry → DirEntry) (s : State) : (s.modEntry d f).clock = s.clock := rfl
@[simp] theorem State.modEntry_minutes (d : Fin 32) (f : DirEntry → DirEntry) (s : State) : (s.modEntry d f).minutes = s.minutes := rfl
@[simp] theorem State.modEntry_minutePhase (d : Fin 32) (f : DirEntry → DirEntry) (s : State) : (s.modEntry d f).minutePhase = s.minutePhase := rfl
@[simp] theorem State.modEntry_supervision (d : Fin 32) (f : DirEntry → DirEntry) (s : State) : (s.modEntry d f).supervision = s.supervision := rfl
@[simp] theorem State.modEntry_notices (d : Fin 32) (f : DirEntry → DirEntry) (s : State) : (s.modEntry d f).notices = s.notices := rfl
@[simp] theorem State.modEntry_dropCount (d : Fin 32) (f : DirEntry → DirEntry) (s : State) : (s.modEntry d f).dropCount = s.dropCount := rfl
@[simp] theorem State.modEntry_species (d : Fin 32) (f : DirEntry → DirEntry) (s : State) : (s.modEntry d f).species = s.species := rfl
@[simp] theorem State.modEntry_staging (d : Fin 32) (f : DirEntry → DirEntry) (s : State) : (s.modEntry d f).staging = s.staging := rfl
@[simp] theorem State.modEntry_kilns (d : Fin 32) (f : DirEntry → DirEntry) (s : State) : (s.modEntry d f).kilns = s.kilns := rfl
@[simp] theorem State.modEntry_charges (d : Fin 32) (f : DirEntry → DirEntry) (s : State) : (s.modEntry d f).charges = s.charges := rfl
@[simp] theorem State.modEntry_reuse (d : Fin 32) (f : DirEntry → DirEntry) (s : State) : (s.modEntry d f).reuse = s.reuse := rfl
@[simp] theorem State.modEntry_line (d : Fin 32) (f : DirEntry → DirEntry) (s : State) : (s.modEntry d f).line = s.line := rfl
@[simp] theorem State.modEntry_sortList (d : Fin 32) (f : DirEntry → DirEntry) (s : State) : (s.modEntry d f).sortList = s.sortList := rfl
@[simp] theorem State.modEntry_bins (d : Fin 32) (f : DirEntry → DirEntry) (s : State) : (s.modEntry d f).bins = s.bins := rfl
@[simp] theorem State.modEntry_nextPack (d : Fin 32) (f : DirEntry → DirEntry) (s : State) : (s.modEntry d f).nextPack = s.nextPack := rfl
@[simp] theorem State.modEntry_packLog (d : Fin 32) (f : DirEntry → DirEntry) (s : State) : (s.modEntry d f).packLog = s.packLog := rfl
@[simp] theorem State.modEntry_lots (d : Fin 32) (f : DirEntry → DirEntry) (s : State) : (s.modEntry d f).lots = s.lots := rfl
@[simp] theorem State.modEntry_labels (d : Fin 32) (f : DirEntry → DirEntry) (s : State) : (s.modEntry d f).labels = s.labels := rfl

/-! ### modStation -/

@[simp] theorem State.modStation_pending (d : StationId) (f : Station → Station) (s : State) : (s.modStation d f).pending = s.pending := rfl
@[simp] theorem State.modStation_freeCount (d : StationId) (f : Station → Station) (s : State) : (s.modStation d f).freeCount = s.freeCount := rfl
@[simp] theorem State.modStation_own (d : StationId) (f : Station → Station) (s : State) : (s.modStation d f).own = s.own := rfl
@[simp] theorem State.modStation_sendCounter (d : StationId) (f : Station → Station) (s : State) : (s.modStation d f).sendCounter = s.sendCounter := rfl
@[simp] theorem State.modStation_portA (d : StationId) (f : Station → Station) (s : State) : (s.modStation d f).portA = s.portA := rfl
@[simp] theorem State.modStation_portB (d : StationId) (f : Station → Station) (s : State) : (s.modStation d f).portB = s.portB := rfl
@[simp] theorem State.modStation_requests (d : StationId) (f : Station → Station) (s : State) : (s.modStation d f).requests = s.requests := rfl
@[simp] theorem State.modStation_replySlot (d : StationId) (f : Station → Station) (s : State) : (s.modStation d f).replySlot = s.replySlot := rfl
@[simp] theorem State.modStation_watchdog (d : StationId) (f : Station → Station) (s : State) : (s.modStation d f).watchdog = s.watchdog := rfl
@[simp] theorem State.modStation_clock (d : StationId) (f : Station → Station) (s : State) : (s.modStation d f).clock = s.clock := rfl
@[simp] theorem State.modStation_minutes (d : StationId) (f : Station → Station) (s : State) : (s.modStation d f).minutes = s.minutes := rfl
@[simp] theorem State.modStation_minutePhase (d : StationId) (f : Station → Station) (s : State) : (s.modStation d f).minutePhase = s.minutePhase := rfl
@[simp] theorem State.modStation_supervision (d : StationId) (f : Station → Station) (s : State) : (s.modStation d f).supervision = s.supervision := rfl
@[simp] theorem State.modStation_notices (d : StationId) (f : Station → Station) (s : State) : (s.modStation d f).notices = s.notices := rfl
@[simp] theorem State.modStation_dropCount (d : StationId) (f : Station → Station) (s : State) : (s.modStation d f).dropCount = s.dropCount := rfl
@[simp] theorem State.modStation_species (d : StationId) (f : Station → Station) (s : State) : (s.modStation d f).species = s.species := rfl
@[simp] theorem State.modStation_directory (d : StationId) (f : Station → Station) (s : State) : (s.modStation d f).directory = s.directory := rfl
@[simp] theorem State.modStation_staging (d : StationId) (f : Station → Station) (s : State) : (s.modStation d f).staging = s.staging := rfl
@[simp] theorem State.modStation_kilns (d : StationId) (f : Station → Station) (s : State) : (s.modStation d f).kilns = s.kilns := rfl
@[simp] theorem State.modStation_charges (d : StationId) (f : Station → Station) (s : State) : (s.modStation d f).charges = s.charges := rfl
@[simp] theorem State.modStation_reuse (d : StationId) (f : Station → Station) (s : State) : (s.modStation d f).reuse = s.reuse := rfl
@[simp] theorem State.modStation_line (d : StationId) (f : Station → Station) (s : State) : (s.modStation d f).line = s.line := rfl
@[simp] theorem State.modStation_sortList (d : StationId) (f : Station → Station) (s : State) : (s.modStation d f).sortList = s.sortList := rfl
@[simp] theorem State.modStation_bins (d : StationId) (f : Station → Station) (s : State) : (s.modStation d f).bins = s.bins := rfl
@[simp] theorem State.modStation_nextPack (d : StationId) (f : Station → Station) (s : State) : (s.modStation d f).nextPack = s.nextPack := rfl
@[simp] theorem State.modStation_packLog (d : StationId) (f : Station → Station) (s : State) : (s.modStation d f).packLog = s.packLog := rfl
@[simp] theorem State.modStation_lots (d : StationId) (f : Station → Station) (s : State) : (s.modStation d f).lots = s.lots := rfl
@[simp] theorem State.modStation_labels (d : StationId) (f : Station → Station) (s : State) : (s.modStation d f).labels = s.labels := rfl

/-! ### drewFree -/

@[simp] theorem State.drewFree_pending (n : Nat) (s : State) : (s.drewFree n).pending = s.pending := rfl
@[simp] theorem State.drewFree_own (n : Nat) (s : State) : (s.drewFree n).own = s.own := rfl
@[simp] theorem State.drewFree_sendCounter (n : Nat) (s : State) : (s.drewFree n).sendCounter = s.sendCounter := rfl
@[simp] theorem State.drewFree_portA (n : Nat) (s : State) : (s.drewFree n).portA = s.portA := rfl
@[simp] theorem State.drewFree_portB (n : Nat) (s : State) : (s.drewFree n).portB = s.portB := rfl
@[simp] theorem State.drewFree_stations (n : Nat) (s : State) : (s.drewFree n).stations = s.stations := rfl
@[simp] theorem State.drewFree_requests (n : Nat) (s : State) : (s.drewFree n).requests = s.requests := rfl
@[simp] theorem State.drewFree_replySlot (n : Nat) (s : State) : (s.drewFree n).replySlot = s.replySlot := rfl
@[simp] theorem State.drewFree_watchdog (n : Nat) (s : State) : (s.drewFree n).watchdog = s.watchdog := rfl
@[simp] theorem State.drewFree_clock (n : Nat) (s : State) : (s.drewFree n).clock = s.clock := rfl
@[simp] theorem State.drewFree_minutes (n : Nat) (s : State) : (s.drewFree n).minutes = s.minutes := rfl
@[simp] theorem State.drewFree_minutePhase (n : Nat) (s : State) : (s.drewFree n).minutePhase = s.minutePhase := rfl
@[simp] theorem State.drewFree_supervision (n : Nat) (s : State) : (s.drewFree n).supervision = s.supervision := rfl
@[simp] theorem State.drewFree_notices (n : Nat) (s : State) : (s.drewFree n).notices = s.notices := rfl
@[simp] theorem State.drewFree_dropCount (n : Nat) (s : State) : (s.drewFree n).dropCount = s.dropCount := rfl
@[simp] theorem State.drewFree_species (n : Nat) (s : State) : (s.drewFree n).species = s.species := rfl
@[simp] theorem State.drewFree_directory (n : Nat) (s : State) : (s.drewFree n).directory = s.directory := rfl
@[simp] theorem State.drewFree_staging (n : Nat) (s : State) : (s.drewFree n).staging = s.staging := rfl
@[simp] theorem State.drewFree_kilns (n : Nat) (s : State) : (s.drewFree n).kilns = s.kilns := rfl
@[simp] theorem State.drewFree_charges (n : Nat) (s : State) : (s.drewFree n).charges = s.charges := rfl
@[simp] theorem State.drewFree_reuse (n : Nat) (s : State) : (s.drewFree n).reuse = s.reuse := rfl
@[simp] theorem State.drewFree_line (n : Nat) (s : State) : (s.drewFree n).line = s.line := rfl
@[simp] theorem State.drewFree_sortList (n : Nat) (s : State) : (s.drewFree n).sortList = s.sortList := rfl
@[simp] theorem State.drewFree_bins (n : Nat) (s : State) : (s.drewFree n).bins = s.bins := rfl
@[simp] theorem State.drewFree_nextPack (n : Nat) (s : State) : (s.drewFree n).nextPack = s.nextPack := rfl
@[simp] theorem State.drewFree_packLog (n : Nat) (s : State) : (s.drewFree n).packLog = s.packLog := rfl
@[simp] theorem State.drewFree_lots (n : Nat) (s : State) : (s.drewFree n).lots = s.lots := rfl
@[simp] theorem State.drewFree_labels (n : Nat) (s : State) : (s.drewFree n).labels = s.labels := rfl

/-! ### Reading what was written -/

@[simp] theorem State.port_setPort_self (p : PortId) (x : Port) (s : State) : (s.setPort p x).port p = x := by
  cases p <;> rfl

theorem State.port_setPort_other (p r : PortId) (h : r ≠ p) (x : Port) (s : State) : (s.setPort p x).port r = s.port r := by
  cases p <;> cases r <;> first | rfl | exact absurd rfl h

@[simp] theorem State.port_modPort_self (p : PortId) (f : Port → Port) (s : State) :
    (s.modPort p f).port p = f (s.port p) := by cases p <;> rfl

theorem State.port_modPort_other (p r : PortId) (h : r ≠ p) (f : Port → Port) (s : State) :
    (s.modPort p f).port r = s.port r := State.port_setPort_other p r h _ s

@[simp] theorem State.port_a (s : State) : s.port .a = s.portA := rfl

@[simp] theorem State.port_b (s : State) : s.port .b = s.portB := rfl

@[simp] theorem State.kiln_setKiln_self (k : KilnId) (q : Kiln) (s : State) : (s.setKiln k q).kiln k = q := by
  simp [State.kiln, State.setKiln]

theorem State.kiln_setKiln_other (k j : KilnId) (h : j ≠ k) (q : Kiln) (s : State) : (s.setKiln k q).kiln j = s.kiln j := by
  have h' : k.val ≠ j.val := fun e => h (Fin.ext e.symm)
  simp [State.kiln, State.setKiln, Vector.getElem_set_ne _ _ h']

@[simp] theorem State.kiln_modKiln_self (k : KilnId) (f : Kiln → Kiln) (s : State) :
    (s.modKiln k f).kiln k = f (s.kiln k) := State.kiln_setKiln_self k _ s

theorem State.kiln_modKiln_other (k j : KilnId) (h : j ≠ k) (f : Kiln → Kiln) (s : State) :
    (s.modKiln k f).kiln j = s.kiln j := State.kiln_setKiln_other k j h _ s

/-- A kiln depends on the kilns alone. -/
theorem State.kiln_congr {s t : State} (h : s.kilns = t.kilns) (k : KilnId) : s.kiln k = t.kiln k := by
  simp [State.kiln, h]

/-! ### tick -/

/-- A second counts in each kiln's own timer and touches nothing else of it (R87). -/
@[simp] theorem State.kiln_tick (s : State) (k : KilnId) : s.tick.kiln k = { s.kiln k with timer := tickCount (s.kiln k).timer } := by
  simp [State.kiln, State.tick, Kiln.tick]

theorem Watchdog.tick_armed {w : Watchdog} (h : w.state = .armed) : w.tick = { w with elapsed := w.elapsed + 1 } := if_pos h

theorem Watchdog.tick_unarmed {w : Watchdog} (h : w.state ≠ .armed) : w.tick = w := if_neg h

@[simp] theorem State.modLine_line (f : Line → Line) (s : State) : (s.modLine f).line = f s.line := rfl

@[simp] theorem State.modLabels_labels (f : LabelUnit → LabelUnit) (s : State) : (s.modLabels f).labels = f s.labels := rfl

@[simp] theorem State.drewFree_freeCount (n : Nat) (s : State) : (s.drewFree n).freeCount = s.freeCount + n := rfl

@[simp] theorem State.drewFree_zero (s : State) : s.drewFree 0 = s := rfl

@[simp] theorem State.modBin_bins (b : Fin 16) (f : Bin → Bin) (s : State) :
    (s.modBin b f).bins = s.bins.set b (f s.bins[b]) := rfl

@[simp] theorem State.setCharge_charges (i : Fin 48) (c : Charge) (s : State) :
    (s.setCharge i c).charges = s.charges.set i c := rfl

@[simp] theorem State.modEntry_directory (d : Fin 32) (f : DirEntry → DirEntry) (s : State) :
    (s.modEntry d f).directory = s.directory.set d (f s.directory[d]) := rfl

@[simp] theorem State.modStation_stations (d : StationId) (f : Station → Station) (s : State) :
    (s.modStation d f).stations = s.stations.set d (f s.stations[d]) := rfl

end Sys2Proof.Machine
end

