-- ==== Sys2Proof/Laws/Output.lean ====
section
/-! SUPPORT. What placing, producing, offering and raising can do: they touch the ports, the send counter, the reply slot,
the notice queue, the SUPERVISION counters and the head label's next row, and nothing else. -/

namespace Sys2Proof.Machine

/-- The part without what its outgoing traffic touches. -/
def State.inner (s : State) : State :=
  { s with
    portA := {}, portB := {}, sendCounter := 0, replySlot := none, notices := [], dropCount := 0, supervision := {}
    labels := { s.labels with nextRow := 0 } }

@[simp] theorem State.setPort_inner (p : PortId) (x : Port) (s : State) : (s.setPort p x).inner = s.inner := by
  cases p <;> rfl

@[simp] theorem State.modPort_inner (p : PortId) (f : Port → Port) (s : State) : (s.modPort p f).inner = s.inner := by
  cases p <;> rfl

@[simp] theorem State.place_inner (p : PortId) (d : StationId) (kind : Byte) (x : List Byte) (s : State) :
    (s.place p d kind x).inner = s.inner := by cases p <;> rfl

@[simp] theorem State.placeReply_inner (s : State) : s.placeReply.inner = s.inner := by
  unfold State.placeReply
  split
  · next r _ => exact State.place_inner r.port r.dest kindReply r.payload s
  · rfl

@[simp] theorem State.placeSetpoint_inner (k : KilnId) (p : PortId) (s : State) : (s.placeSetpoint k p).inner = s.inner := by
  unfold State.placeSetpoint
  split
  · exact State.place_inner _ _ _ _ s
  · rfl

@[simp] theorem State.placeNotice_inner (p : PortId) (s : State) : (s.placeNotice p).inner = s.inner := by
  unfold State.placeNotice
  split
  · exact State.place_inner _ _ _ _ s
  · rfl

@[simp] theorem State.placeRow_inner (p : PortId) (s : State) : (s.placeRow p).inner = s.inner := by
  unfold State.placeRow
  split
  · exact State.place_inner _ _ _ _ s
  · rfl

@[simp] theorem State.produceReply_inner (s : State) : s.produceReply.inner = s.inner := by
  unfold State.produceReply
  split
  · split <;> simp
  · rfl

@[simp] theorem State.produceSetpoint_inner (k : KilnId) (s : State) : (s.produceSetpoint k).inner = s.inner := by
  unfold State.produceSetpoint
  split
  · rfl
  · split
    · rfl
    · split <;> simp

@[simp] theorem State.withdrawSetpoint_inner (k : KilnId) (s : State) : (s.withdrawSetpoint k).inner = s.inner := by
  simp [State.withdrawSetpoint]

theorem produceNoticesFuel_inner (n : Nat) (s : State) : (produceNoticesFuel n s).inner = s.inner := by
  induction n generalizing s with
  | zero => rfl
  | succ n ih =>
    unfold produceNoticesFuel
    split
    · rfl
    · split
      · rw [ih]; simp
      · rfl

@[simp] theorem State.produceNotices_inner (s : State) : s.produceNotices.inner = s.inner :=
  produceNoticesFuel_inner _ s

theorem produceRowsFuel_inner (n : Nat) (s : State) : (produceRowsFuel n s).inner = s.inner := by
  induction n generalizing s with
  | zero => rfl
  | succ n ih =>
    unfold produceRowsFuel
    split
    · rfl
    · split
      · rw [ih]; simp
      · rfl

@[simp] theorem State.produceRows_inner (s : State) : s.produceRows.inner = s.inner := produceRowsFuel_inner _ s

@[simp] theorem State.placeFrom_inner (p : PortId) (c : SourceClass) (s : State) : (s.placeFrom p c).inner = s.inner := by
  unfold State.placeFrom
  split
  · exact State.placeReply_inner s
  · split
    · simp
    · rfl
  · exact State.placeNotice_inner p s
  · exact State.placeRow_inner p s

@[simp] theorem State.offer_inner (p : PortId) (s : State) : (s.offer p).inner = s.inner := by
  unfold State.offer
  split
  · simp
  · rfl

@[simp] theorem State.dropNotice_inner (s : State) : s.dropNotice.inner = s.inner := rfl

@[simp] theorem State.judgeNotice_inner (n : Notice) (s : State) : (s.judgeNotice n).inner = s.inner := by
  unfold State.judgeNotice
  split
  · rfl
  · split
    · rfl
    · split
      · split
        · rfl
        · split <;> rfl
      · split <;> rfl

@[simp] theorem State.raise_inner (n : Notice) (s : State) : (s.raise n).inner = s.inner := by
  simp [State.raise]

/-! ### place -/

@[simp] theorem State.place_pending (p : PortId) (d : StationId) (kind : Byte) (x : List Byte) (s : State) : (s.place p d kind x).pending = s.pending :=
  (congrArg State.pending (State.place_inner p d kind x s) :)
@[simp] theorem State.place_freeCount (p : PortId) (d : StationId) (kind : Byte) (x : List Byte) (s : State) : (s.place p d kind x).freeCount = s.freeCount :=
  (congrArg State.freeCount (State.place_inner p d kind x s) :)
@[simp] theorem State.place_own (p : PortId) (d : StationId) (kind : Byte) (x : List Byte) (s : State) : (s.place p d kind x).own = s.own :=
  (congrArg State.own (State.place_inner p d kind x s) :)
@[simp] theorem State.place_stations (p : PortId) (d : StationId) (kind : Byte) (x : List Byte) (s : State) : (s.place p d kind x).stations = s.stations :=
  (congrArg State.stations (State.place_inner p d kind x s) :)
@[simp] theorem State.place_requests (p : PortId) (d : StationId) (kind : Byte) (x : List Byte) (s : State) : (s.place p d kind x).requests = s.requests :=
  (congrArg State.requests (State.place_inner p d kind x s) :)
@[simp] theorem State.place_watchdog (p : PortId) (d : StationId) (kind : Byte) (x : List Byte) (s : State) : (s.place p d kind x).watchdog = s.watchdog :=
  (congrArg State.watchdog (State.place_inner p d kind x s) :)
@[simp] theorem State.place_clock (p : PortId) (d : StationId) (kind : Byte) (x : List Byte) (s : State) : (s.place p d kind x).clock = s.clock :=
  (congrArg State.clock (State.place_inner p d kind x s) :)
@[simp] theorem State.place_minutes (p : PortId) (d : StationId) (kind : Byte) (x : List Byte) (s : State) : (s.place p d kind x).minutes = s.minutes :=
  (congrArg State.minutes (State.place_inner p d kind x s) :)
@[simp] theorem State.place_minutePhase (p : PortId) (d : StationId) (kind : Byte) (x : List Byte) (s : State) : (s.place p d kind x).minutePhase = s.minutePhase :=
  (congrArg State.minutePhase (State.place_inner p d kind x s) :)
@[simp] theorem State.place_species (p : PortId) (d : StationId) (kind : Byte) (x : List Byte) (s : State) : (s.place p d kind x).species = s.species :=
  (congrArg State.species (State.place_inner p d kind x s) :)
@[simp] theorem State.place_directory (p : PortId) (d : StationId) (kind : Byte) (x : List Byte) (s : State) : (s.place p d kind x).directory = s.directory :=
  (congrArg State.directory (State.place_inner p d kind x s) :)
@[simp] theorem State.place_staging (p : PortId) (d : StationId) (kind : Byte) (x : List Byte) (s : State) : (s.place p d kind x).staging = s.staging :=
  (congrArg State.staging (State.place_inner p d kind x s) :)
@[simp] theorem State.place_kilns (p : PortId) (d : StationId) (kind : Byte) (x : List Byte) (s : State) : (s.place p d kind x).kilns = s.kilns :=
  (congrArg State.kilns (State.place_inner p d kind x s) :)
@[simp] theorem State.place_charges (p : PortId) (d : StationId) (kind : Byte) (x : List Byte) (s : State) : (s.place p d kind x).charges = s.charges :=
  (congrArg State.charges (State.place_inner p d kind x s) :)
@[simp] theorem State.place_reuse (p : PortId) (d : StationId) (kind : Byte) (x : List Byte) (s : State) : (s.place p d kind x).reuse = s.reuse :=
  (congrArg State.reuse (State.place_inner p d kind x s) :)
@[simp] theorem State.place_line (p : PortId) (d : StationId) (kind : Byte) (x : List Byte) (s : State) : (s.place p d kind x).line = s.line :=
  (congrArg State.line (State.place_inner p d kind x s) :)
@[simp] theorem State.place_sortList (p : PortId) (d : StationId) (kind : Byte) (x : List Byte) (s : State) : (s.place p d kind x).sortList = s.sortList :=
  (congrArg State.sortList (State.place_inner p d kind x s) :)
@[simp] theorem State.place_bins (p : PortId) (d : StationId) (kind : Byte) (x : List Byte) (s : State) : (s.place p d kind x).bins = s.bins :=
  (congrArg State.bins (State.place_inner p d kind x s) :)
@[simp] theorem State.place_nextPack (p : PortId) (d : StationId) (kind : Byte) (x : List Byte) (s : State) : (s.place p d kind x).nextPack = s.nextPack :=
  (congrArg State.nextPack (State.place_inner p d kind x s) :)
@[simp] theorem State.place_packLog (p : PortId) (d : StationId) (kind : Byte) (x : List Byte) (s : State) : (s.place p d kind x).packLog = s.packLog :=
  (congrArg State.packLog (State.place_inner p d kind x s) :)
@[simp] theorem State.place_lots (p : PortId) (d : StationId) (kind : Byte) (x : List Byte) (s : State) : (s.place p d kind x).lots = s.lots :=
  (congrArg State.lots (State.place_inner p d kind x s) :)
@[simp] theorem State.place_labels_layout (p : PortId) (d : StationId) (kind : Byte) (x : List Byte) (s : State) : (s.place p d kind x).labels.layout = s.labels.layout :=
  congrArg (fun t => t.labels.layout) (State.place_inner p d kind x s)
@[simp] theorem State.place_labels_queue (p : PortId) (d : StationId) (kind : Byte) (x : List Byte) (s : State) : (s.place p d kind x).labels.queue = s.labels.queue :=
  congrArg (fun t => t.labels.queue) (State.place_inner p d kind x s)
@[simp] theorem State.place_labels_head (p : PortId) (d : StationId) (kind : Byte) (x : List Byte) (s : State) : (s.place p d kind x).labels.head = s.labels.head :=
  congrArg (fun t => t.labels.head) (State.place_inner p d kind x s)
@[simp] theorem State.place_labels_timer (p : PortId) (d : StationId) (kind : Byte) (x : List Byte) (s : State) : (s.place p d kind x).labels.timer = s.labels.timer :=
  congrArg (fun t => t.labels.timer) (State.place_inner p d kind x s)
@[simp] theorem State.place_labels_timeoutInUse (p : PortId) (d : StationId) (kind : Byte) (x : List Byte) (s : State) : (s.place p d kind x).labels.timeoutInUse = s.labels.timeoutInUse :=
  congrArg (fun t => t.labels.timeoutInUse) (State.place_inner p d kind x s)
@[simp] theorem State.place_kiln (p : PortId) (d : StationId) (kind : Byte) (x : List Byte) (s : State) (j : KilnId) : (s.place p d kind x).kiln j = s.kiln j :=
  State.kiln_congr (by simp) j

/-! ### produceReply -/

@[simp] theorem State.produceReply_pending (s : State) : s.produceReply.pending = s.pending :=
  (congrArg State.pending (State.produceReply_inner s) :)
@[simp] theorem State.produceReply_freeCount (s : State) : s.produceReply.freeCount = s.freeCount :=
  (congrArg State.freeCount (State.produceReply_inner s) :)
@[simp] theorem State.produceReply_own (s : State) : s.produceReply.own = s.own :=
  (congrArg State.own (State.produceReply_inner s) :)
@[simp] theorem State.produceReply_stations (s : State) : s.produceReply.stations = s.stations :=
  (congrArg State.stations (State.produceReply_inner s) :)
@[simp] theorem State.produceReply_requests (s : State) : s.produceReply.requests = s.requests :=
  (congrArg State.requests (State.produceReply_inner s) :)
@[simp] theorem State.produceReply_watchdog (s : State) : s.produceReply.watchdog = s.watchdog :=
  (congrArg State.watchdog (State.produceReply_inner s) :)
@[simp] theorem State.produceReply_clock (s : State) : s.produceReply.clock = s.clock :=
  (congrArg State.clock (State.produceReply_inner s) :)
@[simp] theorem State.produceReply_minutes (s : State) : s.produceReply.minutes = s.minutes :=
  (congrArg State.minutes (State.produceReply_inner s) :)
@[simp] theorem State.produceReply_minutePhase (s : State) : s.produceReply.minutePhase = s.minutePhase :=
  (congrArg State.minutePhase (State.produceReply_inner s) :)
@[simp] theorem State.produceReply_species (s : State) : s.produceReply.species = s.species :=
  (congrArg State.species (State.produceReply_inner s) :)
@[simp] theorem State.produceReply_directory (s : State) : s.produceReply.directory = s.directory :=
  (congrArg State.directory (State.produceReply_inner s) :)
@[simp] theorem State.produceReply_staging (s : State) : s.produceReply.staging = s.staging :=
  (congrArg State.staging (State.produceReply_inner s) :)
@[simp] theorem State.produceReply_kilns (s : State) : s.produceReply.kilns = s.kilns :=
  (congrArg State.kilns (State.produceReply_inner s) :)
@[simp] theorem State.produceReply_charges (s : State) : s.produceReply.charges = s.charges :=
  (congrArg State.charges (State.produceReply_inner s) :)
@[simp] theorem State.produceReply_reuse (s : State) : s.produceReply.reuse = s.reuse :=
  (congrArg State.reuse (State.produceReply_inner s) :)
@[simp] theorem State.produceReply_line (s : State) : s.produceReply.line = s.line :=
  (congrArg State.line (State.produceReply_inner s) :)
@[simp] theorem State.produceReply_sortList (s : State) : s.produceReply.sortList = s.sortList :=
  (congrArg State.sortList (State.produceReply_inner s) :)
@[simp] theorem State.produceReply_bins (s : State) : s.produceReply.bins = s.bins :=
  (congrArg State.bins (State.produceReply_inner s) :)
@[simp] theorem State.produceReply_nextPack (s : State) : s.produceReply.nextPack = s.nextPack :=
  (congrArg State.nextPack (State.produceReply_inner s) :)
@[simp] theorem State.produceReply_packLog (s : State) : s.produceReply.packLog = s.packLog :=
  (congrArg State.packLog (State.produceReply_inner s) :)
@[simp] theorem State.produceReply_lots (s : State) : s.produceReply.lots = s.lots :=
  (congrArg State.lots (State.produceReply_inner s) :)
@[simp] theorem State.produceReply_labels_layout (s : State) : s.produceReply.labels.layout = s.labels.layout :=
  congrArg (fun t => t.labels.layout) (State.produceReply_inner s)
@[simp] theorem State.produceReply_labels_queue (s : State) : s.produceReply.labels.queue = s.labels.queue :=
  congrArg (fun t => t.labels.queue) (State.produceReply_inner s)
@[simp] theorem State.produceReply_labels_head (s : State) : s.produceReply.labels.head = s.labels.head :=
  congrArg (fun t => t.labels.head) (State.produceReply_inner s)
@[simp] theorem State.produceReply_labels_timer (s : State) : s.produceReply.labels.timer = s.labels.timer :=
  congrArg (fun t => t.labels.timer) (State.produceReply_inner s)
@[simp] theorem State.produceReply_labels_timeoutInUse (s : State) : s.produceReply.labels.timeoutInUse = s.labels.timeoutInUse :=
  congrArg (fun t => t.labels.timeoutInUse) (State.produceReply_inner s)
@[simp] theorem State.produceReply_kiln (s : State) (j : KilnId) : s.produceReply.kiln j = s.kiln j :=
  State.kiln_congr (by simp) j

/-! ### produceSetpoint -/

@[simp] theorem State.produceSetpoint_pending (k : KilnId) (s : State) : (s.produceSetpoint k).pending = s.pending :=
  (congrArg State.pending (State.produceSetpoint_inner k s) :)
@[simp] theorem State.produceSetpoint_freeCount (k : KilnId) (s : State) : (s.produceSetpoint k).freeCount = s.freeCount :=
  (congrArg State.freeCount (State.produceSetpoint_inner k s) :)
@[simp] theorem State.produceSetpoint_own (k : KilnId) (s : State) : (s.produceSetpoint k).own = s.own :=
  (congrArg State.own (State.produceSetpoint_inner k s) :)
@[simp] theorem State.produceSetpoint_stations (k : KilnId) (s : State) : (s.produceSetpoint k).stations = s.stations :=
  (congrArg State.stations (State.produceSetpoint_inner k s) :)
@[simp] theorem State.produceSetpoint_requests (k : KilnId) (s : State) : (s.produceSetpoint k).requests = s.requests :=
  (congrArg State.requests (State.produceSetpoint_inner k s) :)
@[simp] theorem State.produceSetpoint_watchdog (k : KilnId) (s : State) : (s.produceSetpoint k).watchdog = s.watchdog :=
  (congrArg State.watchdog (State.produceSetpoint_inner k s) :)
@[simp] theorem State.produceSetpoint_clock (k : KilnId) (s : State) : (s.produceSetpoint k).clock = s.clock :=
  (congrArg State.clock (State.produceSetpoint_inner k s) :)
@[simp] theorem State.produceSetpoint_minutes (k : KilnId) (s : State) : (s.produceSetpoint k).minutes = s.minutes :=
  (congrArg State.minutes (State.produceSetpoint_inner k s) :)
@[simp] theorem State.produceSetpoint_minutePhase (k : KilnId) (s : State) : (s.produceSetpoint k).minutePhase = s.minutePhase :=
  (congrArg State.minutePhase (State.produceSetpoint_inner k s) :)
@[simp] theorem State.produceSetpoint_species (k : KilnId) (s : State) : (s.produceSetpoint k).species = s.species :=
  (congrArg State.species (State.produceSetpoint_inner k s) :)
@[simp] theorem State.produceSetpoint_directory (k : KilnId) (s : State) : (s.produceSetpoint k).directory = s.directory :=
  (congrArg State.directory (State.produceSetpoint_inner k s) :)
@[simp] theorem State.produceSetpoint_staging (k : KilnId) (s : State) : (s.produceSetpoint k).staging = s.staging :=
  (congrArg State.staging (State.produceSetpoint_inner k s) :)
@[simp] theorem State.produceSetpoint_kilns (k : KilnId) (s : State) : (s.produceSetpoint k).kilns = s.kilns :=
  (congrArg State.kilns (State.produceSetpoint_inner k s) :)
@[simp] theorem State.produceSetpoint_charges (k : KilnId) (s : State) : (s.produceSetpoint k).charges = s.charges :=
  (congrArg State.charges (State.produceSetpoint_inner k s) :)
@[simp] theorem State.produceSetpoint_reuse (k : KilnId) (s : State) : (s.produceSetpoint k).reuse = s.reuse :=
  (congrArg State.reuse (State.produceSetpoint_inner k s) :)
@[simp] theorem State.produceSetpoint_line (k : KilnId) (s : State) : (s.produceSetpoint k).line = s.line :=
  (congrArg State.line (State.produceSetpoint_inner k s) :)
@[simp] theorem State.produceSetpoint_sortList (k : KilnId) (s : State) : (s.produceSetpoint k).sortList = s.sortList :=
  (congrArg State.sortList (State.produceSetpoint_inner k s) :)
@[simp] theorem State.produceSetpoint_bins (k : KilnId) (s : State) : (s.produceSetpoint k).bins = s.bins :=
  (congrArg State.bins (State.produceSetpoint_inner k s) :)
@[simp] theorem State.produceSetpoint_nextPack (k : KilnId) (s : State) : (s.produceSetpoint k).nextPack = s.nextPack :=
  (congrArg State.nextPack (State.produceSetpoint_inner k s) :)
@[simp] theorem State.produceSetpoint_packLog (k : KilnId) (s : State) : (s.produceSetpoint k).packLog = s.packLog :=
  (congrArg State.packLog (State.produceSetpoint_inner k s) :)
@[simp] theorem State.produceSetpoint_lots (k : KilnId) (s : State) : (s.produceSetpoint k).lots = s.lots :=
  (congrArg State.lots (State.produceSetpoint_inner k s) :)
@[simp] theorem State.produceSetpoint_labels_layout (k : KilnId) (s : State) : (s.produceSetpoint k).labels.layout = s.labels.layout :=
  congrArg (fun t => t.labels.layout) (State.produceSetpoint_inner k s)
@[simp] theorem State.produceSetpoint_labels_queue (k : KilnId) (s : State) : (s.produceSetpoint k).labels.queue = s.labels.queue :=
  congrArg (fun t => t.labels.queue) (State.produceSetpoint_inner k s)
@[simp] theorem State.produceSetpoint_labels_head (k : KilnId) (s : State) : (s.produceSetpoint k).labels.head = s.labels.head :=
  congrArg (fun t => t.labels.head) (State.produceSetpoint_inner k s)
@[simp] theorem State.produceSetpoint_labels_timer (k : KilnId) (s : State) : (s.produceSetpoint k).labels.timer = s.labels.timer :=
  congrArg (fun t => t.labels.timer) (State.produceSetpoint_inner k s)
@[simp] theorem State.produceSetpoint_labels_timeoutInUse (k : KilnId) (s : State) : (s.produceSetpoint k).labels.timeoutInUse = s.labels.timeoutInUse :=
  congrArg (fun t => t.labels.timeoutInUse) (State.produceSetpoint_inner k s)
@[simp] theorem State.produceSetpoint_kiln (k : KilnId) (s : State) (j : KilnId) : (s.produceSetpoint k).kiln j = s.kiln j :=
  State.kiln_congr (by simp) j

/-! ### withdrawSetpoint -/

@[simp] theorem State.withdrawSetpoint_pending (k : KilnId) (s : State) : (s.withdrawSetpoint k).pending = s.pending :=
  (congrArg State.pending (State.withdrawSetpoint_inner k s) :)
@[simp] theorem State.withdrawSetpoint_freeCount (k : KilnId) (s : State) : (s.withdrawSetpoint k).freeCount = s.freeCount :=
  (congrArg State.freeCount (State.withdrawSetpoint_inner k s) :)
@[simp] theorem State.withdrawSetpoint_own (k : KilnId) (s : State) : (s.withdrawSetpoint k).own = s.own :=
  (congrArg State.own (State.withdrawSetpoint_inner k s) :)
@[simp] theorem State.withdrawSetpoint_stations (k : KilnId) (s : State) : (s.withdrawSetpoint k).stations = s.stations :=
  (congrArg State.stations (State.withdrawSetpoint_inner k s) :)
@[simp] theorem State.withdrawSetpoint_requests (k : KilnId) (s : State) : (s.withdrawSetpoint k).requests = s.requests :=
  (congrArg State.requests (State.withdrawSetpoint_inner k s) :)
@[simp] theorem State.withdrawSetpoint_watchdog (k : KilnId) (s : State) : (s.withdrawSetpoint k).watchdog = s.watchdog :=
  (congrArg State.watchdog (State.withdrawSetpoint_inner k s) :)
@[simp] theorem State.withdrawSetpoint_clock (k : KilnId) (s : State) : (s.withdrawSetpoint k).clock = s.clock :=
  (congrArg State.clock (State.withdrawSetpoint_inner k s) :)
@[simp] theorem State.withdrawSetpoint_minutes (k : KilnId) (s : State) : (s.withdrawSetpoint k).minutes = s.minutes :=
  (congrArg State.minutes (State.withdrawSetpoint_inner k s) :)
@[simp] theorem State.withdrawSetpoint_minutePhase (k : KilnId) (s : State) : (s.withdrawSetpoint k).minutePhase = s.minutePhase :=
  (congrArg State.minutePhase (State.withdrawSetpoint_inner k s) :)
@[simp] theorem State.withdrawSetpoint_species (k : KilnId) (s : State) : (s.withdrawSetpoint k).species = s.species :=
  (congrArg State.species (State.withdrawSetpoint_inner k s) :)
@[simp] theorem State.withdrawSetpoint_directory (k : KilnId) (s : State) : (s.withdrawSetpoint k).directory = s.directory :=
  (congrArg State.directory (State.withdrawSetpoint_inner k s) :)
@[simp] theorem State.withdrawSetpoint_staging (k : KilnId) (s : State) : (s.withdrawSetpoint k).staging = s.staging :=
  (congrArg State.staging (State.withdrawSetpoint_inner k s) :)
@[simp] theorem State.withdrawSetpoint_kilns (k : KilnId) (s : State) : (s.withdrawSetpoint k).kilns = s.kilns :=
  (congrArg State.kilns (State.withdrawSetpoint_inner k s) :)
@[simp] theorem State.withdrawSetpoint_charges (k : KilnId) (s : State) : (s.withdrawSetpoint k).charges = s.charges :=
  (congrArg State.charges (State.withdrawSetpoint_inner k s) :)
@[simp] theorem State.withdrawSetpoint_reuse (k : KilnId) (s : State) : (s.withdrawSetpoint k).reuse = s.reuse :=
  (congrArg State.reuse (State.withdrawSetpoint_inner k s) :)
@[simp] theorem State.withdrawSetpoint_line (k : KilnId) (s : State) : (s.withdrawSetpoint k).line = s.line :=
  (congrArg State.line (State.withdrawSetpoint_inner k s) :)
@[simp] theorem State.withdrawSetpoint_sortList (k : KilnId) (s : State) : (s.withdrawSetpoint k).sortList = s.sortList :=
  (congrArg State.sortList (State.withdrawSetpoint_inner k s) :)
@[simp] theorem State.withdrawSetpoint_bins (k : KilnId) (s : State) : (s.withdrawSetpoint k).bins = s.bins :=
  (congrArg State.bins (State.withdrawSetpoint_inner k s) :)
@[simp] theorem State.withdrawSetpoint_nextPack (k : KilnId) (s : State) : (s.withdrawSetpoint k).nextPack = s.nextPack :=
  (congrArg State.nextPack (State.withdrawSetpoint_inner k s) :)
@[simp] theorem State.withdrawSetpoint_packLog (k : KilnId) (s : State) : (s.withdrawSetpoint k).packLog = s.packLog :=
  (congrArg State.packLog (State.withdrawSetpoint_inner k s) :)
@[simp] theorem State.withdrawSetpoint_lots (k : KilnId) (s : State) : (s.withdrawSetpoint k).lots = s.lots :=
  (congrArg State.lots (State.withdrawSetpoint_inner k s) :)
@[simp] theorem State.withdrawSetpoint_labels_layout (k : KilnId) (s : State) : (s.withdrawSetpoint k).labels.layout = s.labels.layout :=
  congrArg (fun t => t.labels.layout) (State.withdrawSetpoint_inner k s)
@[simp] theorem State.withdrawSetpoint_labels_queue (k : KilnId) (s : State) : (s.withdrawSetpoint k).labels.queue = s.labels.queue :=
  congrArg (fun t => t.labels.queue) (State.withdrawSetpoint_inner k s)
@[simp] theorem State.withdrawSetpoint_labels_head (k : KilnId) (s : State) : (s.withdrawSetpoint k).labels.head = s.labels.head :=
  congrArg (fun t => t.labels.head) (State.withdrawSetpoint_inner k s)
@[simp] theorem State.withdrawSetpoint_labels_timer (k : KilnId) (s : State) : (s.withdrawSetpoint k).labels.timer = s.labels.timer :=
  congrArg (fun t => t.labels.timer) (State.withdrawSetpoint_inner k s)
@[simp] theorem State.withdrawSetpoint_labels_timeoutInUse (k : KilnId) (s : State) : (s.withdrawSetpoint k).labels.timeoutInUse = s.labels.timeoutInUse :=
  congrArg (fun t => t.labels.timeoutInUse) (State.withdrawSetpoint_inner k s)
@[simp] theorem State.withdrawSetpoint_kiln (k : KilnId) (s : State) (j : KilnId) : (s.withdrawSetpoint k).kiln j = s.kiln j :=
  State.kiln_congr (by simp) j

/-! ### produceNotices -/

@[simp] theorem State.produceNotices_pending (s : State) : s.produceNotices.pending = s.pending :=
  (congrArg State.pending (State.produceNotices_inner s) :)
@[simp] theorem State.produceNotices_freeCount (s : State) : s.produceNotices.freeCount = s.freeCount :=
  (congrArg State.freeCount (State.produceNotices_inner s) :)
@[simp] theorem State.produceNotices_own (s : State) : s.produceNotices.own = s.own :=
  (congrArg State.own (State.produceNotices_inner s) :)
@[simp] theorem State.produceNotices_stations (s : State) : s.produceNotices.stations = s.stations :=
  (congrArg State.stations (State.produceNotices_inner s) :)
@[simp] theorem State.produceNotices_requests (s : State) : s.produceNotices.requests = s.requests :=
  (congrArg State.requests (State.produceNotices_inner s) :)
@[simp] theorem State.produceNotices_watchdog (s : State) : s.produceNotices.watchdog = s.watchdog :=
  (congrArg State.watchdog (State.produceNotices_inner s) :)
@[simp] theorem State.produceNotices_clock (s : State) : s.produceNotices.clock = s.clock :=
  (congrArg State.clock (State.produceNotices_inner s) :)
@[simp] theorem State.produceNotices_minutes (s : State) : s.produceNotices.minutes = s.minutes :=
  (congrArg State.minutes (State.produceNotices_inner s) :)
@[simp] theorem State.produceNotices_minutePhase (s : State) : s.produceNotices.minutePhase = s.minutePhase :=
  (congrArg State.minutePhase (State.produceNotices_inner s) :)
@[simp] theorem State.produceNotices_species (s : State) : s.produceNotices.species = s.species :=
  (congrArg State.species (State.produceNotices_inner s) :)
@[simp] theorem State.produceNotices_directory (s : State) : s.produceNotices.directory = s.directory :=
  (congrArg State.directory (State.produceNotices_inner s) :)
@[simp] theorem State.produceNotices_staging (s : State) : s.produceNotices.staging = s.staging :=
  (congrArg State.staging (State.produceNotices_inner s) :)
@[simp] theorem State.produceNotices_kilns (s : State) : s.produceNotices.kilns = s.kilns :=
  (congrArg State.kilns (State.produceNotices_inner s) :)
@[simp] theorem State.produceNotices_charges (s : State) : s.produceNotices.charges = s.charges :=
  (congrArg State.charges (State.produceNotices_inner s) :)
@[simp] theorem State.produceNotices_reuse (s : State) : s.produceNotices.reuse = s.reuse :=
  (congrArg State.reuse (State.produceNotices_inner s) :)
@[simp] theorem State.produceNotices_line (s : State) : s.produceNotices.line = s.line :=
  (congrArg State.line (State.produceNotices_inner s) :)
@[simp] theorem State.produceNotices_sortList (s : State) : s.produceNotices.sortList = s.sortList :=
  (congrArg State.sortList (State.produceNotices_inner s) :)
@[simp] theorem State.produceNotices_bins (s : State) : s.produceNotices.bins = s.bins :=
  (congrArg State.bins (State.produceNotices_inner s) :)
@[simp] theorem State.produceNotices_nextPack (s : State) : s.produceNotices.nextPack = s.nextPack :=
  (congrArg State.nextPack (State.produceNotices_inner s) :)
@[simp] theorem State.produceNotices_packLog (s : State) : s.produceNotices.packLog = s.packLog :=
  (congrArg State.packLog (State.produceNotices_inner s) :)
@[simp] theorem State.produceNotices_lots (s : State) : s.produceNotices.lots = s.lots :=
  (congrArg State.lots (State.produceNotices_inner s) :)
@[simp] theorem State.produceNotices_labels_layout (s : State) : s.produceNotices.labels.layout = s.labels.layout :=
  congrArg (fun t => t.labels.layout) (State.produceNotices_inner s)
@[simp] theorem State.produceNotices_labels_queue (s : State) : s.produceNotices.labels.queue = s.labels.queue :=
  congrArg (fun t => t.labels.queue) (State.produceNotices_inner s)
@[simp] theorem State.produceNotices_labels_head (s : State) : s.produceNotices.labels.head = s.labels.head :=
  congrArg (fun t => t.labels.head) (State.produceNotices_inner s)
@[simp] theorem State.produceNotices_labels_timer (s : State) : s.produceNotices.labels.timer = s.labels.timer :=
  congrArg (fun t => t.labels.timer) (State.produceNotices_inner s)
@[simp] theorem State.produceNotices_labels_timeoutInUse (s : State) : s.produceNotices.labels.timeoutInUse = s.labels.timeoutInUse :=
  congrArg (fun t => t.labels.timeoutInUse) (State.produceNotices_inner s)
@[simp] theorem State.produceNotices_kiln (s : State) (j : KilnId) : s.produceNotices.kiln j = s.kiln j :=
  State.kiln_congr (by simp) j

/-! ### produceRows -/

@[simp] theorem State.produceRows_pending (s : State) : s.produceRows.pending = s.pending :=
  (congrArg State.pending (State.produceRows_inner s) :)
@[simp] theorem State.produceRows_freeCount (s : State) : s.produceRows.freeCount = s.freeCount :=
  (congrArg State.freeCount (State.produceRows_inner s) :)
@[simp] theorem State.produceRows_own (s : State) : s.produceRows.own = s.own :=
  (congrArg State.own (State.produceRows_inner s) :)
@[simp] theorem State.produceRows_stations (s : State) : s.produceRows.stations = s.stations :=
  (congrArg State.stations (State.produceRows_inner s) :)
@[simp] theorem State.produceRows_requests (s : State) : s.produceRows.requests = s.requests :=
  (congrArg State.requests (State.produceRows_inner s) :)
@[simp] theorem State.produceRows_watchdog (s : State) : s.produceRows.watchdog = s.watchdog :=
  (congrArg State.watchdog (State.produceRows_inner s) :)
@[simp] theorem State.produceRows_clock (s : State) : s.produceRows.clock = s.clock :=
  (congrArg State.clock (State.produceRows_inner s) :)
@[simp] theorem State.produceRows_minutes (s : State) : s.produceRows.minutes = s.minutes :=
  (congrArg State.minutes (State.produceRows_inner s) :)
@[simp] theorem State.produceRows_minutePhase (s : State) : s.produceRows.minutePhase = s.minutePhase :=
  (congrArg State.minutePhase (State.produceRows_inner s) :)
@[simp] theorem State.produceRows_species (s : State) : s.produceRows.species = s.species :=
  (congrArg State.species (State.produceRows_inner s) :)
@[simp] theorem State.produceRows_directory (s : State) : s.produceRows.directory = s.directory :=
  (congrArg State.directory (State.produceRows_inner s) :)
@[simp] theorem State.produceRows_staging (s : State) : s.produceRows.staging = s.staging :=
  (congrArg State.staging (State.produceRows_inner s) :)
@[simp] theorem State.produceRows_kilns (s : State) : s.produceRows.kilns = s.kilns :=
  (congrArg State.kilns (State.produceRows_inner s) :)
@[simp] theorem State.produceRows_charges (s : State) : s.produceRows.charges = s.charges :=
  (congrArg State.charges (State.produceRows_inner s) :)
@[simp] theorem State.produceRows_reuse (s : State) : s.produceRows.reuse = s.reuse :=
  (congrArg State.reuse (State.produceRows_inner s) :)
@[simp] theorem State.produceRows_line (s : State) : s.produceRows.line = s.line :=
  (congrArg State.line (State.produceRows_inner s) :)
@[simp] theorem State.produceRows_sortList (s : State) : s.produceRows.sortList = s.sortList :=
  (congrArg State.sortList (State.produceRows_inner s) :)
@[simp] theorem State.produceRows_bins (s : State) : s.produceRows.bins = s.bins :=
  (congrArg State.bins (State.produceRows_inner s) :)
@[simp] theorem State.produceRows_nextPack (s : State) : s.produceRows.nextPack = s.nextPack :=
  (congrArg State.nextPack (State.produceRows_inner s) :)
@[simp] theorem State.produceRows_packLog (s : State) : s.produceRows.packLog = s.packLog :=
  (congrArg State.packLog (State.produceRows_inner s) :)
@[simp] theorem State.produceRows_lots (s : State) : s.produceRows.lots = s.lots :=
  (congrArg State.lots (State.produceRows_inner s) :)
@[simp] theorem State.produceRows_labels_layout (s : State) : s.produceRows.labels.layout = s.labels.layout :=
  congrArg (fun t => t.labels.layout) (State.produceRows_inner s)
@[simp] theorem State.produceRows_labels_queue (s : State) : s.produceRows.labels.queue = s.labels.queue :=
  congrArg (fun t => t.labels.queue) (State.produceRows_inner s)
@[simp] theorem State.produceRows_labels_head (s : State) : s.produceRows.labels.head = s.labels.head :=
  congrArg (fun t => t.labels.head) (State.produceRows_inner s)
@[simp] theorem State.produceRows_labels_timer (s : State) : s.produceRows.labels.timer = s.labels.timer :=
  congrArg (fun t => t.labels.timer) (State.produceRows_inner s)
@[simp] theorem State.produceRows_labels_timeoutInUse (s : State) : s.produceRows.labels.timeoutInUse = s.labels.timeoutInUse :=
  congrArg (fun t => t.labels.timeoutInUse) (State.produceRows_inner s)
@[simp] theorem State.produceRows_kiln (s : State) (j : KilnId) : s.produceRows.kiln j = s.kiln j :=
  State.kiln_congr (by simp) j

/-! ### offer -/

@[simp] theorem State.offer_pending (p : PortId) (s : State) : (s.offer p).pending = s.pending :=
  (congrArg State.pending (State.offer_inner p s) :)
@[simp] theorem State.offer_freeCount (p : PortId) (s : State) : (s.offer p).freeCount = s.freeCount :=
  (congrArg State.freeCount (State.offer_inner p s) :)
@[simp] theorem State.offer_own (p : PortId) (s : State) : (s.offer p).own = s.own :=
  (congrArg State.own (State.offer_inner p s) :)
@[simp] theorem State.offer_stations (p : PortId) (s : State) : (s.offer p).stations = s.stations :=
  (congrArg State.stations (State.offer_inner p s) :)
@[simp] theorem State.offer_requests (p : PortId) (s : State) : (s.offer p).requests = s.requests :=
  (congrArg State.requests (State.offer_inner p s) :)
@[simp] theorem State.offer_watchdog (p : PortId) (s : State) : (s.offer p).watchdog = s.watchdog :=
  (congrArg State.watchdog (State.offer_inner p s) :)
@[simp] theorem State.offer_clock (p : PortId) (s : State) : (s.offer p).clock = s.clock :=
  (congrArg State.clock (State.offer_inner p s) :)
@[simp] theorem State.offer_minutes (p : PortId) (s : State) : (s.offer p).minutes = s.minutes :=
  (congrArg State.minutes (State.offer_inner p s) :)
@[simp] theorem State.offer_minutePhase (p : PortId) (s : State) : (s.offer p).minutePhase = s.minutePhase :=
  (congrArg State.minutePhase (State.offer_inner p s) :)
@[simp] theorem State.offer_species (p : PortId) (s : State) : (s.offer p).species = s.species :=
  (congrArg State.species (State.offer_inner p s) :)
@[simp] theorem State.offer_directory (p : PortId) (s : State) : (s.offer p).directory = s.directory :=
  (congrArg State.directory (State.offer_inner p s) :)
@[simp] theorem State.offer_staging (p : PortId) (s : State) : (s.offer p).staging = s.staging :=
  (congrArg State.staging (State.offer_inner p s) :)
@[simp] theorem State.offer_kilns (p : PortId) (s : State) : (s.offer p).kilns = s.kilns :=
  (congrArg State.kilns (State.offer_inner p s) :)
@[simp] theorem State.offer_charges (p : PortId) (s : State) : (s.offer p).charges = s.charges :=
  (congrArg State.charges (State.offer_inner p s) :)
@[simp] theorem State.offer_reuse (p : PortId) (s : State) : (s.offer p).reuse = s.reuse :=
  (congrArg State.reuse (State.offer_inner p s) :)
@[simp] theorem State.offer_line (p : PortId) (s : State) : (s.offer p).line = s.line :=
  (congrArg State.line (State.offer_inner p s) :)
@[simp] theorem State.offer_sortList (p : PortId) (s : State) : (s.offer p).sortList = s.sortList :=
  (congrArg State.sortList (State.offer_inner p s) :)
@[simp] theorem State.offer_bins (p : PortId) (s : State) : (s.offer p).bins = s.bins :=
  (congrArg State.bins (State.offer_inner p s) :)
@[simp] theorem State.offer_nextPack (p : PortId) (s : State) : (s.offer p).nextPack = s.nextPack :=
  (congrArg State.nextPack (State.offer_inner p s) :)
@[simp] theorem State.offer_packLog (p : PortId) (s : State) : (s.offer p).packLog = s.packLog :=
  (congrArg State.packLog (State.offer_inner p s) :)
@[simp] theorem State.offer_lots (p : PortId) (s : State) : (s.offer p).lots = s.lots :=
  (congrArg State.lots (State.offer_inner p s) :)
@[simp] theorem State.offer_labels_layout (p : PortId) (s : State) : (s.offer p).labels.layout = s.labels.layout :=
  congrArg (fun t => t.labels.layout) (State.offer_inner p s)
@[simp] theorem State.offer_labels_queue (p : PortId) (s : State) : (s.offer p).labels.queue = s.labels.queue :=
  congrArg (fun t => t.labels.queue) (State.offer_inner p s)
@[simp] theorem State.offer_labels_head (p : PortId) (s : State) : (s.offer p).labels.head = s.labels.head :=
  congrArg (fun t => t.labels.head) (State.offer_inner p s)
@[simp] theorem State.offer_labels_timer (p : PortId) (s : State) : (s.offer p).labels.timer = s.labels.timer :=
  congrArg (fun t => t.labels.timer) (State.offer_inner p s)
@[simp] theorem State.offer_labels_timeoutInUse (p : PortId) (s : State) : (s.offer p).labels.timeoutInUse = s.labels.timeoutInUse :=
  congrArg (fun t => t.labels.timeoutInUse) (State.offer_inner p s)
@[simp] theorem State.offer_kiln (p : PortId) (s : State) (j : KilnId) : (s.offer p).kiln j = s.kiln j :=
  State.kiln_congr (by simp) j

/-! ### raise -/

@[simp] theorem State.raise_pending (n : Notice) (s : State) : (s.raise n).pending = s.pending :=
  (congrArg State.pending (State.raise_inner n s) :)
@[simp] theorem State.raise_freeCount (n : Notice) (s : State) : (s.raise n).freeCount = s.freeCount :=
  (congrArg State.freeCount (State.raise_inner n s) :)
@[simp] theorem State.raise_own (n : Notice) (s : State) : (s.raise n).own = s.own :=
  (congrArg State.own (State.raise_inner n s) :)
@[simp] theorem State.raise_stations (n : Notice) (s : State) : (s.raise n).stations = s.stations :=
  (congrArg State.stations (State.raise_inner n s) :)
@[simp] theorem State.raise_requests (n : Notice) (s : State) : (s.raise n).requests = s.requests :=
  (congrArg State.requests (State.raise_inner n s) :)
@[simp] theorem State.raise_watchdog (n : Notice) (s : State) : (s.raise n).watchdog = s.watchdog :=
  (congrArg State.watchdog (State.raise_inner n s) :)
@[simp] theorem State.raise_clock (n : Notice) (s : State) : (s.raise n).clock = s.clock :=
  (congrArg State.clock (State.raise_inner n s) :)
@[simp] theorem State.raise_minutes (n : Notice) (s : State) : (s.raise n).minutes = s.minutes :=
  (congrArg State.minutes (State.raise_inner n s) :)
@[simp] theorem State.raise_minutePhase (n : Notice) (s : State) : (s.raise n).minutePhase = s.minutePhase :=
  (congrArg State.minutePhase (State.raise_inner n s) :)
@[simp] theorem State.raise_species (n : Notice) (s : State) : (s.raise n).species = s.species :=
  (congrArg State.species (State.raise_inner n s) :)
@[simp] theorem State.raise_directory (n : Notice) (s : State) : (s.raise n).directory = s.directory :=
  (congrArg State.directory (State.raise_inner n s) :)
@[simp] theorem State.raise_staging (n : Notice) (s : State) : (s.raise n).staging = s.staging :=
  (congrArg State.staging (State.raise_inner n s) :)
@[simp] theorem State.raise_kilns (n : Notice) (s : State) : (s.raise n).kilns = s.kilns :=
  (congrArg State.kilns (State.raise_inner n s) :)
@[simp] theorem State.raise_charges (n : Notice) (s : State) : (s.raise n).charges = s.charges :=
  (congrArg State.charges (State.raise_inner n s) :)
@[simp] theorem State.raise_reuse (n : Notice) (s : State) : (s.raise n).reuse = s.reuse :=
  (congrArg State.reuse (State.raise_inner n s) :)
@[simp] theorem State.raise_line (n : Notice) (s : State) : (s.raise n).line = s.line :=
  (congrArg State.line (State.raise_inner n s) :)
@[simp] theorem State.raise_sortList (n : Notice) (s : State) : (s.raise n).sortList = s.sortList :=
  (congrArg State.sortList (State.raise_inner n s) :)
@[simp] theorem State.raise_bins (n : Notice) (s : State) : (s.raise n).bins = s.bins :=
  (congrArg State.bins (State.raise_inner n s) :)
@[simp] theorem State.raise_nextPack (n : Notice) (s : State) : (s.raise n).nextPack = s.nextPack :=
  (congrArg State.nextPack (State.raise_inner n s) :)
@[simp] theorem State.raise_packLog (n : Notice) (s : State) : (s.raise n).packLog = s.packLog :=
  (congrArg State.packLog (State.raise_inner n s) :)
@[simp] theorem State.raise_lots (n : Notice) (s : State) : (s.raise n).lots = s.lots :=
  (congrArg State.lots (State.raise_inner n s) :)
@[simp] theorem State.raise_labels_layout (n : Notice) (s : State) : (s.raise n).labels.layout = s.labels.layout :=
  congrArg (fun t => t.labels.layout) (State.raise_inner n s)
@[simp] theorem State.raise_labels_queue (n : Notice) (s : State) : (s.raise n).labels.queue = s.labels.queue :=
  congrArg (fun t => t.labels.queue) (State.raise_inner n s)
@[simp] theorem State.raise_labels_head (n : Notice) (s : State) : (s.raise n).labels.head = s.labels.head :=
  congrArg (fun t => t.labels.head) (State.raise_inner n s)
@[simp] theorem State.raise_labels_timer (n : Notice) (s : State) : (s.raise n).labels.timer = s.labels.timer :=
  congrArg (fun t => t.labels.timer) (State.raise_inner n s)
@[simp] theorem State.raise_labels_timeoutInUse (n : Notice) (s : State) : (s.raise n).labels.timeoutInUse = s.labels.timeoutInUse :=
  congrArg (fun t => t.labels.timeoutInUse) (State.raise_inner n s)
@[simp] theorem State.raise_kiln (n : Notice) (s : State) (j : KilnId) : (s.raise n).kiln j = s.kiln j :=
  State.kiln_congr (by simp) j

end Sys2Proof.Machine
end

