-- ==== Sys2Proof/Laws/Kiln.lean ====
section
/-! SUPPORT. What the operations of one kiln unit can do: outside the part's outgoing traffic they touch that kiln unit, charge
records, in-use counts of the directory and the free-value counter, and they leave every other kiln unit as it was. -/

namespace Sys2Proof.Machine

/-- The part without what one kiln unit's operations touch. -/
def State.aside (s : State) : State :=
  { s.inner with
    kilns := Vector.replicate 16 {}, charges := Vector.replicate 48 {}, directory := Vector.replicate 32 {}
    freeCount := 0 }

/-- Leaving the inner part as it was leaves the rest of it as it was. -/
theorem State.aside_of_inner {s t : State} (h : t.inner = s.inner) : t.aside = s.aside := by
  simp [State.aside, h]

@[simp] theorem State.modKiln_aside (k : KilnId) (f : Kiln → Kiln) (s : State) : (s.modKiln k f).aside = s.aside := rfl

@[simp] theorem State.setCharge_aside (i : Fin 48) (c : Charge) (s : State) : (s.setCharge i c).aside = s.aside := rfl

@[simp] theorem State.modEntry_aside (d : Fin 32) (f : DirEntry → DirEntry) (s : State) :
    (s.modEntry d f).aside = s.aside := rfl

@[simp] theorem State.drewFree_aside (n : Nat) (s : State) : (s.drewFree n).aside = s.aside := rfl

@[simp] theorem State.raise_aside (n : Notice) (s : State) : (s.raise n).aside = s.aside :=
  State.aside_of_inner (State.raise_inner n s)

@[simp] theorem State.produceSetpoint_aside (k : KilnId) (s : State) : (s.produceSetpoint k).aside = s.aside :=
  State.aside_of_inner (State.produceSetpoint_inner k s)

@[simp] theorem State.withdrawSetpoint_aside (k : KilnId) (s : State) : (s.withdrawSetpoint k).aside = s.aside :=
  State.aside_of_inner (State.withdrawSetpoint_inner k s)

@[simp] theorem State.drewFree_kiln (n : Nat) (s : State) (j : KilnId) : (s.drewFree n).kiln j = s.kiln j := rfl

@[simp] theorem State.setCharge_kiln (i : Fin 48) (c : Charge) (s : State) (j : KilnId) :
    (s.setCharge i c).kiln j = s.kiln j := rfl

@[simp] theorem State.modEntry_kiln (d : Fin 32) (f : DirEntry → DirEntry) (s : State) (j : KilnId) :
    (s.modEntry d f).kiln j = s.kiln j := rfl

@[simp] theorem State.modCharge_aside (n : Nat) (f : Charge → Charge) (s : State) : (s.modCharge n f).aside = s.aside := by
  unfold State.modCharge; split <;> rfl

@[simp] theorem State.modCharge_kiln (n : Nat) (f : Charge → Charge) (s : State) (j : KilnId) :
    (s.modCharge n f).kiln j = s.kiln j := by
  unfold State.modCharge; split <;> rfl

@[simp] theorem State.modKilnCharge_aside (k : KilnId) (f : Charge → Charge) (s : State) :
    (s.modKilnCharge k f).aside = s.aside := by
  unfold State.modKilnCharge; split
  · exact State.modCharge_aside _ f s
  · rfl

@[simp] theorem State.modKilnCharge_kiln (k : KilnId) (f : Charge → Charge) (s : State) (j : KilnId) :
    (s.modKilnCharge k f).kiln j = s.kiln j := by
  unfold State.modKilnCharge; split
  · exact State.modCharge_kiln _ f s j
  · rfl

@[simp] theorem State.unbindKiln_aside (k : KilnId) (s : State) : (s.unbindKiln k).aside = s.aside := by
  unfold State.unbindKiln; split <;> rfl

@[simp] theorem State.unbindKiln_kiln (k : KilnId) (s : State) (j : KilnId) : (s.unbindKiln k).kiln j = s.kiln j := by
  unfold State.unbindKiln; split <;> rfl

@[simp] theorem State.adoptGeneration_aside (k : KilnId) (s : State) : (s.adoptGeneration k).aside = s.aside :=
  State.modKilnCharge_aside k _ s

@[simp] theorem State.adoptGeneration_kiln (k : KilnId) (s : State) (j : KilnId) :
    (s.adoptGeneration k).kiln j = s.kiln j := State.modKilnCharge_kiln k _ s j

@[simp] theorem State.drewElapsed_aside (k : KilnId) (s : State) : (s.drewElapsed k).aside = s.aside := by
  unfold State.drewElapsed; split <;> rfl

@[simp] theorem State.drewElapsed_kiln (k : KilnId) (s : State) (j : KilnId) : (s.drewElapsed k).kiln j = s.kiln j := by
  unfold State.drewElapsed; split <;> rfl

@[simp] theorem State.raiseStatus_aside (k : KilnId) (s : State) : (s.raiseStatus k).aside = s.aside := by
  simp [State.raiseStatus]

theorem State.raiseStatus_other (k : KilnId) (s : State) (j : KilnId) (h : j ≠ k) :
    (s.raiseStatus k).kiln j = s.kiln j := by
  simp [State.raiseStatus, State.kiln_modKiln_other _ _ h]

@[simp] theorem State.setpointOnChange_aside (m : Bool) (k : KilnId) (s : State) : (s.setpointOnChange m k).aside = s.aside := by
  cases m <;> simp [State.setpointOnChange]

theorem State.setpointOnChange_other (m : Bool) (k : KilnId) (s : State) (j : KilnId) (_h : j ≠ k) :
    (s.setpointOnChange m k).kiln j = s.kiln j := by
  cases m <;> simp [State.setpointOnChange]

@[simp] theorem State.announceState_aside (m : Bool) (k : KilnId) (s : State) : (s.announceState m k).aside = s.aside := by
  simp [State.announceState]

theorem State.announceState_other (m : Bool) (k : KilnId) (s : State) (j : KilnId) (h : j ≠ k) :
    (s.announceState m k).kiln j = s.kiln j := by
  simp [State.announceState, State.setpointOnChange_other _ _ _ _ h, State.raiseStatus_other _ _ _ h]

@[simp] theorem State.enterStep_aside (k : KilnId) (i e : Nat) (c : EntryCause) (s : State) : (s.enterStep k i e c).aside = s.aside := by
  simp [State.enterStep]

theorem State.enterStep_other (k : KilnId) (i e : Nat) (c : EntryCause) (s : State) (j : KilnId) (h : j ≠ k) :
    (s.enterStep k i e c).kiln j = s.kiln j := by
  simp [State.enterStep, State.kiln_modKiln_other _ _ h]

@[simp] theorem State.completeCharge_aside (m : Bool) (k : KilnId) (s : State) : (s.completeCharge m k).aside = s.aside := by
  simp [State.completeCharge]

theorem State.completeCharge_other (m : Bool) (k : KilnId) (s : State) (j : KilnId) (h : j ≠ k) :
    (s.completeCharge m k).kiln j = s.kiln j := by
  simp [State.completeCharge, State.kiln_modKiln_other _ _ h, State.announceState_other _ _ _ _ h]

@[simp] theorem State.becomeRunning_aside (k : KilnId) (s : State) : (s.becomeRunning k).aside = s.aside := by
  simp [State.becomeRunning]

theorem State.becomeRunning_other (k : KilnId) (s : State) (j : KilnId) (h : j ≠ k) :
    (s.becomeRunning k).kiln j = s.kiln j := by
  simp [State.becomeRunning, State.kiln_modKiln_other _ _ h, State.announceState_other _ _ _ _ h]

@[simp] theorem State.resumeSchedule_aside (f : Kiln → Kiln) (k : KilnId) (s : State) : (s.resumeSchedule f k).aside = s.aside := by
  simp only [State.resumeSchedule]; split <;> simp

theorem State.resumeSchedule_other (f : Kiln → Kiln) (k : KilnId) (s : State) (j : KilnId) (h : j ≠ k) :
    (s.resumeSchedule f k).kiln j = s.kiln j := by
  simp only [State.resumeSchedule]; split <;>
    simp [State.kiln_modKiln_other _ _ h, State.completeCharge_other _ _ _ _ h, State.becomeRunning_other _ _ _ h, State.enterStep_other _ _ _ _ _ _ h]

@[simp] theorem State.stackEntry_aside (e : HoldKind) (k : KilnId) (s : State) : (s.stackEntry e k).aside = s.aside := by
  simp [State.stackEntry]

theorem State.stackEntry_other (e : HoldKind) (k : KilnId) (s : State) (j : KilnId) (h : j ≠ k) :
    (s.stackEntry e k).kiln j = s.kiln j := by
  simp [State.stackEntry, State.kiln_modKiln_other _ _ h]

@[simp] theorem State.pushHold_aside (m : Bool) (e : HoldKind) (k : KilnId) (s : State) : (s.pushHold m e k).aside = s.aside := by
  simp only [State.pushHold]; split <;> simp

theorem State.pushHold_other (m : Bool) (e : HoldKind) (k : KilnId) (s : State) (j : KilnId) (h : j ≠ k) :
    (s.pushHold m e k).kiln j = s.kiln j := by
  simp only [State.pushHold]; split <;> simp [State.announceState_other _ _ _ _ h, State.stackEntry_other _ _ _ _ h]

@[simp] theorem State.stopKiln_aside (m : Bool) (c : StopCause) (k : KilnId) (s : State) : (s.stopKiln m c k).aside = s.aside := by
  simp [State.stopKiln]

theorem State.stopKiln_other (m : Bool) (c : StopCause) (k : KilnId) (s : State) (j : KilnId) (h : j ≠ k) :
    (s.stopKiln m c k).kiln j = s.kiln j := by
  simp [State.stopKiln, State.kiln_modKiln_other _ _ h, State.announceState_other _ _ _ _ h]

@[simp] theorem State.applyAction_aside (m : Bool) (f : FaultKind) (a : FaultAction) (x : Bool) (k : KilnId) (s : State) : (s.applyAction m f a x k).aside = s.aside := by
  cases a <;> simp [State.applyAction]

theorem State.applyAction_other (m : Bool) (f : FaultKind) (a : FaultAction) (x : Bool) (k : KilnId) (s : State) (j : KilnId) (h : j ≠ k) :
    (s.applyAction m f a x k).kiln j = s.kiln j := by
  cases a <;> simp [State.applyAction, State.pushHold_other _ _ _ _ _ h, State.stopKiln_other _ _ _ _ _ h]

@[simp] theorem State.takeFault_aside (m : Bool) (f : FaultKind) (k : KilnId) (s : State) : (s.takeFault m f k).aside = s.aside := by
  simp [State.takeFault]

theorem State.takeFault_other (m : Bool) (f : FaultKind) (k : KilnId) (s : State) (j : KilnId) (h : j ≠ k) :
    (s.takeFault m f k).kiln j = s.kiln j := by
  simp [State.takeFault, State.kiln_modKiln_other _ _ h, State.applyAction_other _ _ _ _ _ _ _ h]

@[simp] theorem State.announceFault_aside (f : FaultKind) (k : KilnId) (s : State) : (s.announceFault f k).aside = s.aside := by
  simp only [State.announceFault]; split <;> simp

theorem State.announceFault_other (f : FaultKind) (k : KilnId) (s : State) (j : KilnId) (h : j ≠ k) :
    (s.announceFault f k).kiln j = s.kiln j := by
  simp only [State.announceFault]; split <;> simp [State.kiln_modKiln_other _ _ h]

@[simp] theorem State.detect_aside (m : Bool) (f : FaultKind) (k : KilnId) (s : State) : (s.detect m f k).aside = s.aside := by
  simp only [State.detect]; split
  · rfl
  · split <;> simp

theorem State.detect_other (m : Bool) (f : FaultKind) (k : KilnId) (s : State) (j : KilnId) (h : j ≠ k) :
    (s.detect m f k).kiln j = s.kiln j := by
  simp only [State.detect]; split
  · rfl
  · split <;> simp [State.takeFault_other _ _ _ _ _ h, State.announceFault_other _ _ _ _ h]

@[simp] theorem State.clearLatch_aside (c : ClearCause) (k : KilnId) (s : State) (f : FaultKind) :
    (s.clearLatch c k f).aside = s.aside := by
  simp [State.clearLatch]

theorem State.clearLatch_other (c : ClearCause) (k : KilnId) (s : State) (f : FaultKind) (j : KilnId) (h : j ≠ k) :
    (s.clearLatch c k f).kiln j = s.kiln j := by
  simp [State.clearLatch, State.kiln_modKiln_other _ _ h]

theorem State.clearLatch_foldl_aside (c : ClearCause) (k : KilnId) (l : List FaultKind) (s : State) :
    (l.foldl (State.clearLatch c k) s).aside = s.aside := by
  induction l generalizing s with
  | nil => rfl
  | cons f l ih => rw [List.foldl_cons, ih]; simp

theorem State.clearLatch_foldl_other (c : ClearCause) (k : KilnId) (l : List FaultKind) (s : State) (j : KilnId)
    (h : j ≠ k) : (l.foldl (State.clearLatch c k) s).kiln j = s.kiln j := by
  induction l generalizing s with
  | nil => rfl
  | cons f l ih => rw [List.foldl_cons, ih]; exact State.clearLatch_other _ _ _ _ _ h

@[simp] theorem State.clearLatches_aside (c : ClearCause) (k : KilnId) (l : List FaultKind) (s : State) : (s.clearLatches c k l).aside = s.aside := by
  simp [State.clearLatches, State.clearLatch_foldl_aside]

theorem State.clearLatches_other (c : ClearCause) (k : KilnId) (l : List FaultKind) (s : State) (j : KilnId) (h : j ≠ k) :
    (s.clearLatches c k l).kiln j = s.kiln j := by
  simp [State.clearLatches, State.clearLatch_foldl_other _ _ _ _ _ h]

@[simp] theorem State.selfClear_aside (k : KilnId) (s : State) : (s.selfClear k).aside = s.aside := by
  simp [State.selfClear]

theorem State.selfClear_other (k : KilnId) (s : State) (j : KilnId) (h : j ≠ k) :
    (s.selfClear k).kiln j = s.kiln j := by
  simp [State.selfClear, State.kiln_modKiln_other _ _ h, State.clearLatches_other _ _ _ _ _ h]

@[simp] theorem State.runIfEmpty_aside (k : KilnId) (s : State) : (s.runIfEmpty k).aside = s.aside := by
  unfold State.runIfEmpty; split <;> simp

theorem State.runIfEmpty_other (k : KilnId) (s : State) (j : KilnId) (h : j ≠ k) :
    (s.runIfEmpty k).kiln j = s.kiln j := by
  unfold State.runIfEmpty; split <;> simp [State.becomeRunning_other _ _ _ h]

@[simp] theorem State.resumeEntry_aside (e : HoldKind) (k : KilnId) (s : State) : (s.resumeEntry e k).aside = s.aside := by
  cases e <;> simp [State.resumeEntry]

theorem State.resumeEntry_other (e : HoldKind) (k : KilnId) (s : State) (j : KilnId) (h : j ≠ k) :
    (s.resumeEntry e k).kiln j = s.kiln j := by
  cases e <;> simp [State.resumeEntry, State.kiln_modKiln_other _ _ h, State.runIfEmpty_other _ _ _ h, State.clearLatch_other _ _ _ _ _ h,
    State.resumeSchedule_other _ _ _ _ h]

@[simp] theorem State.restartKiln_aside (k : KilnId) (s : State) : (s.restartKiln k).aside = s.aside := by
  simp only [State.restartKiln]; split <;> simp

theorem State.restartKiln_other (k : KilnId) (s : State) (j : KilnId) (h : j ≠ k) :
    (s.restartKiln k).kiln j = s.kiln j := by
  simp only [State.restartKiln]; split <;>
    simp [State.kiln_modKiln_other _ _ h, State.resumeSchedule_other _ _ _ _ h, State.becomeRunning_other _ _ _ h, State.clearLatches_other _ _ _ _ _ h]

@[simp] theorem State.beginStart_aside (k : KilnId) (s : State) : (s.beginStart k).aside = s.aside := by
  simp [State.beginStart]

theorem State.beginStart_other (k : KilnId) (s : State) (j : KilnId) (h : j ≠ k) :
    (s.beginStart k).kiln j = s.kiln j := by
  simp [State.beginStart, State.kiln_modKiln_other _ _ h]

@[simp] theorem State.beginStart_self (k : KilnId) (s : State) : (s.beginStart k).kiln k = (s.kiln k).loadCountdown := by
  simp [State.beginStart]

@[simp] theorem State.startRunning_aside (k : KilnId) (p : StepPosition) (s : State) : (s.startRunning k p).aside = s.aside := by
  simp [State.startRunning]

theorem State.startRunning_other (k : KilnId) (p : StepPosition) (s : State) (j : KilnId) (h : j ≠ k) :
    (s.startRunning k p).kiln j = s.kiln j := by
  simp [State.startRunning, State.kiln_modKiln_other _ _ h, State.becomeRunning_other _ _ _ h, State.enterStep_other _ _ _ _ _ _ h]

@[simp] theorem State.startKiln_aside (k : KilnId) (p : StepPosition) (s : State) : (s.startKiln k p).aside = s.aside := by
  simp only [State.startKiln]; split <;> simp

theorem State.startKiln_other (k : KilnId) (p : StepPosition) (s : State) (j : KilnId) (h : j ≠ k) :
    (s.startKiln k p).kiln j = s.kiln j := by
  simp only [State.startKiln]; split <;>
    simp [State.completeCharge_other _ _ _ _ h, State.startRunning_other _ _ _ _ h, State.beginStart_other _ _ _ h]

@[simp] theorem State.testStatus_aside (k : KilnId) (s : State) : (s.testStatus k).aside = s.aside := by
  unfold State.testStatus; split <;> simp

theorem State.testStatus_other (k : KilnId) (s : State) (j : KilnId) (h : j ≠ k) :
    (s.testStatus k).kiln j = s.kiln j := by
  unfold State.testStatus; split <;> simp [State.raiseStatus_other _ _ _ h]

@[simp] theorem State.minuteAgeing_aside (k : KilnId) (s : State) : (s.minuteAgeing k).aside = s.aside := by
  unfold State.minuteAgeing; split <;> simp

theorem State.minuteAgeing_other (k : KilnId) (s : State) (j : KilnId) (h : j ≠ k) :
    (s.minuteAgeing k).kiln j = s.kiln j := by
  unfold State.minuteAgeing; split <;> simp [State.testStatus_other _ _ _ h, State.kiln_modKiln_other _ _ h]

@[simp] theorem State.minuteSilence_aside (k : KilnId) (s : State) : (s.minuteSilence k).aside = s.aside := by
  simp only [State.minuteSilence]; split <;> simp

theorem State.minuteSilence_other (k : KilnId) (s : State) (j : KilnId) (h : j ≠ k) :
    (s.minuteSilence k).kiln j = s.kiln j := by
  simp only [State.minuteSilence]; split <;> simp [State.detect_other _ _ _ _ _ h, State.kiln_modKiln_other _ _ h]

@[simp] theorem State.recordExit_aside (k : KilnId) (p : StepPosition) (r : ExitReason) (s : State) : (s.recordExit k p r).aside = s.aside := by
  simp [State.recordExit]

theorem State.recordExit_other (k : KilnId) (p : StepPosition) (r : ExitReason) (s : State) (j : KilnId) (h : j ≠ k) :
    (s.recordExit k p r).kiln j = s.kiln j := by
  simp [State.recordExit, State.kiln_modKiln_other _ _ h]

@[simp] theorem State.advance_aside (k : KilnId) (i : Nat) (s : State) : (s.advance k i).aside = s.aside := by
  unfold State.advance; split <;> simp

theorem State.advance_other (k : KilnId) (i : Nat) (s : State) (j : KilnId) (h : j ≠ k) :
    (s.advance k i).kiln j = s.kiln j := by
  unfold State.advance; split <;> simp [State.completeCharge_other _ _ _ _ h, State.enterStep_other _ _ _ _ _ _ h]

@[simp] theorem State.follow_aside (k : KilnId) (c : Charge) (s : State) : (s.follow k c).aside = s.aside := by
  simp [State.follow]

theorem State.follow_other (k : KilnId) (c : Charge) (s : State) (j : KilnId) (_h : j ≠ k) :
    (s.follow k c).kiln j = s.kiln j := by
  simp [State.follow]

@[simp] theorem State.holdSchedule_aside (k : KilnId) (c : Charge) (i : Nat) (s : State) : (s.holdSchedule k c i).aside = s.aside := by
  simp [State.holdSchedule]

theorem State.holdSchedule_other (k : KilnId) (c : Charge) (i : Nat) (s : State) (j : KilnId) (h : j ≠ k) :
    (s.holdSchedule k c i).kiln j = s.kiln j := by
  simp [State.holdSchedule, State.announceState_other _ _ _ _ h, State.stackEntry_other _ _ _ _ h]

@[simp] theorem State.exitStep_aside (k : KilnId) (r : ExitReason) (s : State) : (s.exitStep k r).aside = s.aside := by
  unfold State.exitStep; split
  · dsimp only; split
    · simp
    · split <;> simp
  · rfl

theorem State.exitStep_other (k : KilnId) (r : ExitReason) (s : State) (j : KilnId) (h : j ≠ k) :
    (s.exitStep k r).kiln j = s.kiln j := by
  unfold State.exitStep; split
  · dsimp only; split
    · simp [State.advance_other _ _ _ _ h, State.recordExit_other _ _ _ _ _ h]
    · split <;> simp [State.advance_other _ _ _ _ h, State.follow_other _ _ _ _ h, State.recordExit_other _ _ _ _ _ h,
        State.holdSchedule_other _ _ _ _ _ h]
  · rfl

@[simp] theorem State.evaluateExit_aside (k : KilnId) (s : State) : (s.evaluateExit k).aside = s.aside := by
  unfold State.evaluateExit; split <;> simp

theorem State.evaluateExit_other (k : KilnId) (s : State) (j : KilnId) (h : j ≠ k) :
    (s.evaluateExit k).kiln j = s.kiln j := by
  unfold State.evaluateExit; split <;> simp [State.exitStep_other _ _ _ _ h]

@[simp] theorem State.applyDeviation_aside (k : KilnId) (s : State) : (s.applyDeviation k).aside = s.aside := by
  simp only [State.applyDeviation]; split
  · rfl
  · split
    · rfl
    · simp
    · split
      · rfl
      · split <;> simp

theorem State.applyDeviation_other (k : KilnId) (s : State) (j : KilnId) (h : j ≠ k) :
    (s.applyDeviation k).kiln j = s.kiln j := by
  simp only [State.applyDeviation]; split
  · rfl
  · split
    · rfl
    · simp [State.kiln_modKiln_other _ _ h]
    · split
      · rfl
      · split <;> simp [State.detect_other _ _ _ _ _ h, State.kiln_modKiln_other _ _ h]

@[simp] theorem State.minuteRun_aside (k : KilnId) (s : State) : (s.minuteRun k).aside = s.aside := by
  unfold State.minuteRun; split <;> simp

theorem State.minuteRun_other (k : KilnId) (s : State) (j : KilnId) (h : j ≠ k) :
    (s.minuteRun k).kiln j = s.kiln j := by
  unfold State.minuteRun; split <;>
    simp [State.applyDeviation_other _ _ _ h, State.evaluateExit_other _ _ _ h, State.kiln_modKiln_other _ _ h]

@[simp] theorem State.kilnMinute_aside (k : KilnId) (s : State) : (s.kilnMinute k).aside = s.aside := by
  simp [State.kilnMinute]

theorem State.kilnMinute_other (k : KilnId) (s : State) (j : KilnId) (h : j ≠ k) :
    (s.kilnMinute k).kiln j = s.kiln j := by
  simp [State.kilnMinute, State.kiln_modKiln_other _ _ h, State.minuteAgeing_other _ _ _ h, State.minuteSilence_other _ _ _ h,
    State.minuteRun_other _ _ _ h, State.selfClear_other _ _ _ h]

@[simp] theorem State.climateArrival_aside (k : KilnId) (x : List Byte) (s : State) : (s.climateArrival k x).aside = s.aside := by
  simp only [State.climateArrival]; split
  · rfl
  · split <;> simp

theorem State.climateArrival_other (k : KilnId) (x : List Byte) (s : State) (j : KilnId) (h : j ≠ k) :
    (s.climateArrival k x).kiln j = s.kiln j := by
  simp only [State.climateArrival]; split
  · rfl
  · split <;> simp [State.testStatus_other _ _ _ h, State.detect_other _ _ _ _ _ h, State.kiln_modKiln_other _ _ h]

@[simp] theorem State.probeArrival_aside (k : KilnId) (x : List Byte) (s : State) : (s.probeArrival k x).aside = s.aside := by
  unfold State.probeArrival; split <;> simp

theorem State.probeArrival_other (k : KilnId) (x : List Byte) (s : State) (j : KilnId) (h : j ≠ k) :
    (s.probeArrival k x).kiln j = s.kiln j := by
  unfold State.probeArrival; split <;> simp [State.testStatus_other _ _ _ h, State.kiln_modKiln_other _ _ h]

@[simp] theorem State.releaseEntry_aside (k : KilnId) (s : State) : (s.releaseEntry k).aside = s.aside := by
  unfold State.releaseEntry; split <;> simp

theorem State.releaseEntry_other (k : KilnId) (s : State) (j : KilnId) (_h : j ≠ k) :
    (s.releaseEntry k).kiln j = s.kiln j := by
  unfold State.releaseEntry; split <;> simp

@[simp] theorem State.unloadKiln_aside (k : KilnId) (r : EndReason) (s : State) : (s.unloadKiln k r).aside = s.aside := by
  simp [State.unloadKiln]

theorem State.unloadKiln_other (k : KilnId) (r : EndReason) (s : State) (j : KilnId) (h : j ≠ k) :
    (s.unloadKiln k r).kiln j = s.kiln j := by
  simp [State.unloadKiln, State.kiln_modKiln_other _ _ h, State.raiseStatus_other _ _ _ h, State.releaseEntry_other _ _ _ h]

/-! ### What the operations leave of their own kiln -/

@[simp] theorem State.raiseStatus_self (k : KilnId) (s : State) : (s.raiseStatus k).kiln k = (s.kiln k).markReported := by
  simp [State.raiseStatus]

@[simp] theorem State.announceState_self (m : Bool) (k : KilnId) (s : State) :
    (s.announceState m k).kiln k = (s.kiln k).markReported := by
  cases m <;> simp [State.announceState, State.setpointOnChange]

@[simp] theorem State.enterStep_self (k : KilnId) (i e : Nat) (c : EntryCause) (s : State) :
    (s.enterStep k i e c).kiln k = (s.kiln k).enter (s.poolSlot (s.chargeOf k).entry i) i e := by
  simp [State.enterStep]

@[simp] theorem State.completeCharge_self (m : Bool) (k : KilnId) (s : State) :
    (s.completeCharge m k).kiln k = (s.kiln k).finish.markReported := by
  simp [State.completeCharge]

@[simp] theorem State.becomeRunning_self (k : KilnId) (s : State) :
    (s.becomeRunning k).kiln k = { (s.kiln k).loadCountdown with state := .running }.markReported := by
  simp [State.becomeRunning]

@[simp] theorem State.stackEntry_self (e : HoldKind) (k : KilnId) (s : State) :
    (s.stackEntry e k).kiln k = (s.kiln k).pushed ⟨e, s.stamp⟩ := by
  simp [State.stackEntry]

@[simp] theorem State.stopKiln_self (m : Bool) (c : StopCause) (k : KilnId) (s : State) :
    (s.stopKiln m c k).kiln k = { s.kiln k with state := .stopped, stack := [] }.markReported := by
  simp [State.stopKiln]

@[simp] theorem State.unloadKiln_self (k : KilnId) (r : EndReason) (s : State) :
    (s.unloadKiln k r).kiln k = (s.kiln k).unload.markReported := by
  have h : (s.releaseEntry k).kiln k = s.kiln k := by
    unfold State.releaseEntry; split <;> simp
  simp [State.unloadKiln, h]

end Sys2Proof.Machine
end

