-- ==== Sys2Proof/Laws/Line.lean ====
section
/-! SUPPORT. What the operations of the line tracker, the pack builder and the label unit can do: outside the part's outgoing
traffic they touch the line, bins, pack numbers, the pack log, lots, labels, charge records and the free-value counter. -/

namespace Sys2Proof.Machine

/-- The part without what the finishing side's operations touch. -/
def State.beyond (s : State) : State :=
  { s.inner with
    line := {}, bins := Vector.replicate 16 {}, nextPack := 0, packLog := [], lots := [], labels := {}
    charges := Vector.replicate 48 {}, reuse := [], freeCount := 0 }

/-- Leaving the inner part as it was leaves the rest of it as it was. -/
theorem State.beyond_of_inner {s t : State} (h : t.inner = s.inner) : t.beyond = s.beyond := by
  simp [State.beyond, h]

@[simp] theorem State.raise_beyond (n : Notice) (s : State) : (s.raise n).beyond = s.beyond :=
  State.beyond_of_inner (State.raise_inner n s)

@[simp] theorem State.produceRows_beyond (s : State) : s.produceRows.beyond = s.beyond :=
  State.beyond_of_inner (State.produceRows_inner s)

@[simp] theorem State.modLine_beyond (f : Line → Line) (s : State) : (s.modLine f).beyond = s.beyond := rfl

@[simp] theorem State.modLabels_beyond (f : LabelUnit → LabelUnit) (s : State) : (s.modLabels f).beyond = s.beyond := rfl

@[simp] theorem State.modBin_beyond (b : Fin 16) (f : Bin → Bin) (s : State) : (s.modBin b f).beyond = s.beyond := rfl

@[simp] theorem State.drewFree_beyond (n : Nat) (s : State) : (s.drewFree n).beyond = s.beyond := rfl

@[simp] theorem State.closeRecord_beyond (i : Fin 48) (s : State) : (s.closeRecord i).beyond = s.beyond := rfl

@[simp] theorem State.modCharge_beyond (n : Nat) (f : Charge → Charge) (s : State) :
    (s.modCharge n f).beyond = s.beyond := by
  unfold State.modCharge; split <;> rfl

@[simp] theorem State.takeRef_beyond (c : Option Nat) (s : State) : (s.takeRef c).beyond = s.beyond := by
  unfold State.takeRef; split
  · simp
  · rfl

@[simp] theorem State.releaseRef_beyond (c : Option Nat) (s : State) : (s.releaseRef c).beyond = s.beyond := by
  unfold State.releaseRef; split
  · rfl
  · split
    · rfl
    · dsimp only; split <;> rfl

theorem State.releaseRef_foldl_beyond (l : List (Option Nat)) (s : State) :
    (l.foldl (fun t c => t.releaseRef c) s).beyond = s.beyond := by
  induction l generalizing s with
  | nil => rfl
  | cons c l ih => rw [List.foldl_cons, ih]; simp

@[simp] theorem State.releaseRefs_beyond (l : List (Option Nat)) (s : State) : (s.releaseRefs l).beyond = s.beyond := by
  simp [State.releaseRefs, State.releaseRef_foldl_beyond]

@[simp] theorem State.evaluateHold_beyond (s : State) : s.evaluateHold.beyond = s.beyond := by
  simp only [State.evaluateHold]; split
  · rfl
  · simp

/-- Evaluating the line-hold leaves the tracking queue as it was. -/
@[simp] theorem State.evaluateHold_queue (s : State) : s.evaluateHold.line.queue = s.line.queue := by
  simp only [State.evaluateHold]; split
  · rfl
  · simp

/-- Evaluating the line-hold leaves the label queue as it was. -/
@[simp] theorem State.evaluateHold_labels (s : State) : s.evaluateHold.labels.queue = s.labels.queue := by
  simp only [State.evaluateHold]; split
  · rfl
  · simp

@[simp] theorem State.startHead_beyond (s : State) : s.startHead.beyond = s.beyond := by
  unfold State.startHead; split
  · rfl
  · split <;> simp

@[simp] theorem State.startHead_queue (s : State) : s.startHead.labels.queue = s.labels.queue := by
  unfold State.startHead; split
  · rfl
  · split <;> simp

@[simp] theorem State.handOff_beyond (p : Pack) (b : Fin 16) (r : CloseReason) (s : State) :
    (s.handOff p b r).beyond = s.beyond := by
  simp only [State.handOff]; split
  · split <;> simp
  · rfl

@[simp] theorem State.finishHead_beyond (o : LabelOutcome) (s : State) : (s.finishHead o).beyond = s.beyond := by
  unfold State.finishHead; split
  · rfl
  · simp only [State.startHead_beyond, State.evaluateHold_beyond, State.modLabels_beyond]
    split <;> first
      | rfl
      | exact State.raise_beyond _ _

@[simp] theorem State.printDone_beyond (x : List Byte) (s : State) : (s.printDone x).beyond = s.beyond := by
  unfold State.printDone; split <;> simp

@[simp] theorem State.labelTimeout_beyond (s : State) : s.labelTimeout.beyond = s.beyond := by
  unfold State.labelTimeout; split <;> simp

@[simp] theorem State.awaitPrint_beyond (s : State) : s.awaitPrint.beyond = s.beyond := rfl

@[simp] theorem State.followPrinter_beyond (x y : Option StationId) (s : State) :
    (s.followPrinter x y).beyond = s.beyond := by
  unfold State.followPrinter; split
  · split <;> simp
  · split
    · split <;> simp
    · rfl
  · rfl

@[simp] theorem State.makeLot_beyond (p : Pack) (s : State) : (s.makeLot p).beyond = s.beyond := by
  unfold State.makeLot; split <;> rfl

@[simp] theorem State.writeLog_beyond (e : LogEntry) (s : State) : (s.writeLog e).beyond = s.beyond := rfl

@[simp] theorem State.raiseLotLost_beyond (p : Pack) (c : Option Nat) (s : State) :
    (s.raiseLotLost p c).beyond = s.beyond := by
  unfold State.raiseLotLost; split <;> simp

@[simp] theorem State.raiseNoLabel_beyond (p : Pack) (b : Fin 16) (o : LabelOutcome) (s : State) :
    (s.raiseNoLabel p b o).beyond = s.beyond := by
  unfold State.raiseNoLabel; split <;> simp

@[simp] theorem State.closePack_beyond (b : Fin 16) (p : Pack) (r : CloseReason) (s : State) :
    (s.closePack b p r).beyond = s.beyond := by
  simp [State.closePack]

@[simp] theorem State.addBoard_beyond (n : Fin 16) (b : Board) (p : Pack) (s : State) :
    (s.addBoard n b p).beyond = s.beyond := by
  simp only [State.addBoard]; split <;> split <;> simp

@[simp] theorem State.openWith_beyond (n : Fin 16) (b : Board) (s : State) : (s.openWith n b).beyond = s.beyond := by
  unfold State.openWith; split
  · rfl
  · exact (State.addBoard_beyond n b _ _).trans rfl

@[simp] theorem State.placeBoard_beyond (n : Fin 16) (b : Board) (s : State) : (s.placeBoard n b).beyond = s.beyond := by
  unfold State.placeBoard; split
  · simp
  · split <;> simp

@[simp] theorem State.countInCharge_beyond (b : Board) (s : State) : (s.countInCharge b).beyond = s.beyond := by
  unfold State.countInCharge; split <;> simp

@[simp] theorem State.depart_beyond (s : State) : s.depart.beyond = s.beyond := by
  unfold State.depart; split <;> simp

theorem departuresFuel_beyond (n : Nat) (s : State) : (departuresFuel n s).beyond = s.beyond := by
  induction n generalizing s with
  | zero => rfl
  | succ n ih =>
    unfold departuresFuel; split
    · rw [ih]; simp
    · rfl

@[simp] theorem State.departures_beyond (s : State) : s.departures.beyond = s.beyond := departuresFuel_beyond _ s

@[simp] theorem State.encoderChange_beyond (x y : Bool) (s : State) : (s.encoderChange x y).beyond = s.beyond := by
  simp only [State.encoderChange]; split <;> simp

@[simp] theorem State.noteLost_beyond (s : State) : s.noteLost.beyond = s.beyond := by
  unfold State.noteLost; split <;> simp

@[simp] theorem State.openBoard_beyond (s : State) : s.openBoard.beyond = s.beyond := by
  unfold State.openBoard; split <;> simp

@[simp] theorem State.takeLeading_beyond (s : State) : s.takeLeading.beyond = s.beyond := by
  unfold State.takeLeading; split
  · split <;> simp
  · simp

@[simp] theorem State.leadingEdge_beyond (s : State) : s.leadingEdge.beyond = s.beyond := by
  simp only [State.leadingEdge]; split
  · rfl
  · split <;> simp

@[simp] theorem State.trailingEdge_beyond (s : State) : s.trailingEdge.beyond = s.beyond := by
  simp only [State.trailingEdge]; split
  · split <;> simp
  · rfl

@[simp] theorem State.scanArrival_beyond (x : List Byte) (s : State) : (s.scanArrival x).beyond = s.beyond := by
  simp only [State.scanArrival]; split <;> simp [State.matchScan]

@[simp] theorem State.resetBin_beyond (s : State) (b : Fin 16) : (s.resetBin b).beyond = s.beyond := by
  unfold State.resetBin; split <;> simp

theorem State.resetBin_foldl_beyond (l : List (Fin 16)) (s : State) : (l.foldl State.resetBin s).beyond = s.beyond := by
  induction l generalizing s with
  | nil => rfl
  | cons b l ih => rw [List.foldl_cons, ih]; simp

theorem State.withBins_beyond (b : Vector Bin 16) (s : State) : ({ s with bins := b } : State).beyond = s.beyond := rfl

@[simp] theorem State.resetBins_beyond (s : State) : s.resetBins.beyond = s.beyond :=
  (State.withBins_beyond _ ((List.finRange 16).foldl State.resetBin s)).trans
    (State.resetBin_foldl_beyond (List.finRange 16) s)

@[simp] theorem State.discardBoards_beyond (s : State) : s.discardBoards.beyond = s.beyond := by
  simp [State.discardBoards]

@[simp] theorem State.lineReset_beyond (s : State) : s.lineReset.beyond = s.beyond := by
  simp [State.lineReset]

end Sys2Proof.Machine
end

