-- ==== Sys2Proof/Laws/Serve.lean ====
section
/-! SUPPORT. How a request row runs: what taking in, judging, serving and answering come to where the request is served at
once, dropped or discarded. -/

namespace Sys2Proof.Machine

/-- A request row takes its request in. -/
theorem exec_request (i : Instr) (r : Request) (h : requestOfCommand i = some r) (s : State) :
    exec i s = .next (s.takeIn r) := by
  cases i <;> first
    | (cases h; done)
    | (cases h; rfl)

/-- A kind code names its request. -/
@[simp] theorem ReqKind.ofByte_code (k : ReqKind) : ReqKind.ofByte k.code = some k := by cases k <;> decide

@[simp] theorem requestFor_kind (k : ReqKind) (d : StationId) (p : PortId) (g : Byte) (a : List Byte) :
    (requestFor k d p g a).kind = k.code := rfl

@[simp] theorem requestFor_args (k : ReqKind) (d : StationId) (p : PortId) (g : Byte) (a : List Byte) :
    (requestFor k d p g a).args = a := rfl

@[simp] theorem requestFor_station (k : ReqKind) (d : StationId) (p : PortId) (g : Byte) (a : List Byte) :
    (requestFor k d p g a).station = d := rfl

/-- A station that is permitted a class is admitted (R21, R23). -/
theorem State.admits_of_permits (s : State) (d : StationId) (c : ReqClass) (h : s.permits d c = true) :
    s.admits d = true := by
  simp only [State.permits, State.admits, Bool.or_eq_true, Bool.and_eq_true] at h ⊢
  rcases h with h | h
  · exact Or.inr h
  · exact Or.inl h.1

/-- An admitted request is served at once where no request waits and no reply is pending (R21, R23, R24). -/
theorem State.takeIn_atOnce (s : State) (r : Request) (ha : s.admits r.station = true) (hq : s.requests = [])
    (hr : s.replySlot = none) : s.takeIn r = s.serveRequest r := by
  unfold State.takeIn
  rw [if_pos ha, hq, if_pos (by decide)]
  cases s
  subst hq hr
  rfl

/-- A request that a station may make is judged by its owner (R23). -/
theorem State.judge_permitted (s : State) (k : ReqKind) (d : StationId) (p : PortId) (g : Byte) (a : List Byte)
    (h : s.permits d k.cls = true) : s.judge (requestFor k d p g a) = serve k (requestFor k d p g a) s := by
  simp [State.judge, h]

/-- A request row whose request is ready: the owner serves it, and the reply is produced. -/
theorem takeIn_ready (s : State) (k : ReqKind) (d : StationId) (p : PortId) (g : Byte) (a : List Byte)
    (h : s.Ready d k) : s.takeIn (requestFor k d p g a) = answer (requestFor k d p g a) (serve k (requestFor k d p g a) s) := by
  rw [State.takeIn_atOnce s _ (s.admits_of_permits d _ h.2.2) h.1 h.2.1, State.serveRequest,
    State.judge_permitted s k d p g a h.2.2]

/-- The same, as the outcome of the row. -/
theorem exec_ready (i : Instr) (s : State) (k : ReqKind) (d : StationId) (p : PortId) (g : Byte) (a : List Byte)
    (hi : requestOfCommand i = some (requestFor k d p g a)) (h : s.Ready d k) :
    exec i s = .next (answer (requestFor k d p g a) (serve k (requestFor k d p g a) s)) := by
  rw [exec_request i _ hi, takeIn_ready s k d p g a h]

/-- Answering touches the outgoing traffic alone. -/
@[simp] theorem answer_inner (r : Request) (v : Served) : (answer r v).inner = v.st.inner := by
  simp only [answer, State.produceReply_inner]
  rfl

/-- A full request queue drops an admitted request (R21). -/
theorem State.takeIn_full (s : State) (r : Request) (ha : s.admits r.station = true) (hq : 4 ≤ s.requests.length) :
    s.takeIn r =
      { s with supervision := { s.supervision with requestsDropped := bump16 s.supervision.requestsDropped } } := by
  simp only [State.takeIn, ha, if_true, Config.requestCapacity, Nat.not_lt.mpr hq, if_false]

/-- A request of a station that is not admitted is discarded (R21). -/
theorem State.takeIn_discarded (s : State) (r : Request) (ha : s.admits r.station = false) :
    s.takeIn r =
      { s with supervision := { s.supervision with requestsDiscarded := bump16 s.supervision.requestsDiscarded } } := by
  simp [State.takeIn, ha]

/-- A reply with room and no other class pending on its port is placed at once (R15, R24). -/
theorem State.produceReply_room (s : State) (r : PendingReply) (hr : s.replySlot = some r)
    (h : s.mayPlace r.port .reply = true) : s.produceReply = s.placeReply := by
  simp [State.produceReply, hr, h]

/-- A reply without room waits in the slot (R24). -/
theorem State.produceReply_waits (s : State) (r : PendingReply) (hr : s.replySlot = some r)
    (h : s.mayPlace r.port .reply = false) : s.produceReply = s := by
  simp [State.produceReply, hr, h]

/-- A placed telegram stands at the tail of the port's local queue (R4, R15). -/
theorem State.place_localQueue (p : PortId) (d : StationId) (kind : Byte) (x : List Byte) (s : State) :
    ((s.place p d kind x).port p).localQueue
      = (s.port p).localQueue ++ [telegram (stationByte d) (stationByte s.own) kind s.sendCounter x] := by
  cases p <;> rfl

/-- Placing leaves the other port as it was. -/
theorem State.place_otherPort (p : PortId) (d : StationId) (kind : Byte) (x : List Byte) (s : State) :
    (s.place p d kind x).port (otherPort p) = s.port (otherPort p) := by
  cases p <;> rfl

/-- Placing advances the send counter (R4). -/
@[simp] theorem State.place_sendCounter (p : PortId) (d : StationId) (kind : Byte) (x : List Byte) (s : State) :
    (s.place p d kind x).sendCounter = s.sendCounter + 1 := rfl

end Sys2Proof.Machine
end

