-- ==== Sys2Proof/Laws/PerInstr.lean ====
section
/-! SUPPORT. A fact of every command as syntax, one lemma per constructor: a well-formed request row brings a request whose
arguments fit a telegram, and its kind is in the catalogue unless the row is UNKNOWN_REQUEST. -/

namespace Sys2Proof.Laws.Rows

open Sys2Proof.Machine

/-- What a command as syntax says of the request it brings (R3, R26). -/
def Statement (i : Instr) : Prop :=
  i.wellFormed = true → ∀ r, requestOfCommand i = some r →
    r.args.length ≤ 54 ∧ (catalogueCodes.contains r.kind.toNat = true ∨ ∃ d p g a, i = .unknownRequest r.kind d p g a)

theorem fits (args : List Byte) (h : argsFit args = true) : args.length ≤ 54 := by
  simpa [argsFit] using h

theorem known (k : ReqKind) : catalogueCodes.contains k.code.toNat = true := by cases k <;> rfl

theorem deviceReset (straps : Byte) (eye encA encB : Bool) : Statement (.deviceReset straps eye encA encB) := fun _ _ h => nomatch h

theorem telegramReception (port : PortId) (idle : Nat) (run : List Byte) : Statement (.telegramReception port idle run) := fun _ _ h => nomatch h

theorem transmitStart (port : PortId) (idle : Nat) : Statement (.transmitStart port idle) := fun _ _ h => nomatch h

theorem transmissionComplete (port : PortId) : Statement (.transmissionComplete port) := fun _ _ h => nomatch h

theorem encoderCount (encA encB : Bool) : Statement (.encoderCount encA encB) := fun _ _ h => nomatch h

theorem leadingEdge : Statement .leadingEdge := fun _ _ h => nomatch h

theorem trailingEdge : Statement .trailingEdge := fun _ _ h => nomatch h

theorem kilnMinuteExpiry (kiln : KilnId) : Statement (.kilnMinuteExpiry kiln) := fun _ _ h => nomatch h

theorem watchdogExpiry : Statement .watchdogExpiry := fun _ _ h => nomatch h

theorem editExpiry : Statement .editExpiry := fun _ _ h => nomatch h

theorem labelTimeout : Statement .labelTimeout := fun _ _ h => nomatch h

theorem millClockMinute : Statement .millClockMinute := fun _ _ h => nomatch h

theorem resetMinuteCount : Statement .resetMinuteCount := fun _ _ h => nomatch h

theorem unknownRequest (kind : Byte) (station : StationId) (port : PortId) (tag : Byte) (args : List Byte) :
    Statement (.unknownRequest kind station port tag args) := by
  intro w r h
  cases h
  exact ⟨fits args ((Bool.and_eq_true _ _).mp w).1, Or.inr ⟨station, port, tag, args, rfl⟩⟩

theorem readKiln (station : StationId) (port : PortId) (tag : Byte) (args : List Byte) :
    Statement (.readKiln station port tag args) := by
  intro w r h
  cases h
  exact ⟨fits args w, Or.inl (known .readKiln)⟩

theorem readCharge (station : StationId) (port : PortId) (tag : Byte) (args : List Byte) :
    Statement (.readCharge station port tag args) := by
  intro w r h
  cases h
  exact ⟨fits args w, Or.inl (known .readCharge)⟩

theorem readPackLog (station : StationId) (port : PortId) (tag : Byte) (args : List Byte) :
    Statement (.readPackLog station port tag args) := by
  intro w r h
  cases h
  exact ⟨fits args w, Or.inl (known .readPackLog)⟩

theorem readLot (station : StationId) (port : PortId) (tag : Byte) (args : List Byte) :
    Statement (.readLot station port tag args) := by
  intro w r h
  cases h
  exact ⟨fits args w, Or.inl (known .readLot)⟩

theorem readEntry (station : StationId) (port : PortId) (tag : Byte) (args : List Byte) :
    Statement (.readEntry station port tag args) := by
  intro w r h
  cases h
  exact ⟨fits args w, Or.inl (known .readEntry)⟩

theorem readLine (station : StationId) (port : PortId) (tag : Byte) (args : List Byte) :
    Statement (.readLine station port tag args) := by
  intro w r h
  cases h
  exact ⟨fits args w, Or.inl (known .readLine)⟩

theorem readCounters (station : StationId) (port : PortId) (tag : Byte) (args : List Byte) :
    Statement (.readCounters station port tag args) := by
  intro w r h
  cases h
  exact ⟨fits args w, Or.inl (known .readCounters)⟩

theorem heartbeat (station : StationId) (port : PortId) (tag : Byte) (args : List Byte) :
    Statement (.heartbeat station port tag args) := by
  intro w r h
  cases h
  exact ⟨fits args w, Or.inl (known .heartbeat)⟩

theorem setClock (station : StationId) (port : PortId) (tag : Byte) (args : List Byte) :
    Statement (.setClock station port tag args) := by
  intro w r h
  cases h
  exact ⟨fits args w, Or.inl (known .setClock)⟩

theorem loadCharge (station : StationId) (port : PortId) (tag : Byte) (args : List Byte) :
    Statement (.loadCharge station port tag args) := by
  intro w r h
  cases h
  exact ⟨fits args w, Or.inl (known .loadCharge)⟩

theorem startKiln (station : StationId) (port : PortId) (tag : Byte) (args : List Byte) :
    Statement (.startKiln station port tag args) := by
  intro w r h
  cases h
  exact ⟨fits args w, Or.inl (known .startKiln)⟩

theorem override (station : StationId) (port : PortId) (tag : Byte) (args : List Byte) :
    Statement (.override station port tag args) := by
  intro w r h
  cases h
  exact ⟨fits args w, Or.inl (known .override)⟩

theorem resume (station : StationId) (port : PortId) (tag : Byte) (args : List Byte) :
    Statement (.resume station port tag args) := by
  intro w r h
  cases h
  exact ⟨fits args w, Or.inl (known .resume)⟩

theorem stop (station : StationId) (port : PortId) (tag : Byte) (args : List Byte) :
    Statement (.stop station port tag args) := by
  intro w r h
  cases h
  exact ⟨fits args w, Or.inl (known .stop)⟩

theorem restart (station : StationId) (port : PortId) (tag : Byte) (args : List Byte) :
    Statement (.restart station port tag args) := by
  intro w r h
  cases h
  exact ⟨fits args w, Or.inl (known .restart)⟩

theorem unload (station : StationId) (port : PortId) (tag : Byte) (args : List Byte) :
    Statement (.unload station port tag args) := by
  intro w r h
  cases h
  exact ⟨fits args w, Or.inl (known .unload)⟩

theorem planerFeed (station : StationId) (port : PortId) (tag : Byte) (args : List Byte) :
    Statement (.planerFeed station port tag args) := by
  intro w r h
  cases h
  exact ⟨fits args w, Or.inl (known .planerFeed)⟩

theorem releaseCharge (station : StationId) (port : PortId) (tag : Byte) (args : List Byte) :
    Statement (.releaseCharge station port tag args) := by
  intro w r h
  cases h
  exact ⟨fits args w, Or.inl (known .releaseCharge)⟩

theorem closePack (station : StationId) (port : PortId) (tag : Byte) (args : List Byte) :
    Statement (.closePack station port tag args) := by
  intro w r h
  cases h
  exact ⟨fits args w, Or.inl (known .closePack)⟩

theorem lineReset (station : StationId) (port : PortId) (tag : Byte) (args : List Byte) :
    Statement (.lineReset station port tag args) := by
  intro w r h
  cases h
  exact ⟨fits args w, Or.inl (known .lineReset)⟩

theorem editOpen (station : StationId) (port : PortId) (tag : Byte) (args : List Byte) :
    Statement (.editOpen station port tag args) := by
  intro w r h
  cases h
  exact ⟨fits args w, Or.inl (known .editOpen)⟩

theorem editHeader (station : StationId) (port : PortId) (tag : Byte) (args : List Byte) :
    Statement (.editHeader station port tag args) := by
  intro w r h
  cases h
  exact ⟨fits args w, Or.inl (known .editHeader)⟩

theorem editStep (station : StationId) (port : PortId) (tag : Byte) (args : List Byte) :
    Statement (.editStep station port tag args) := by
  intro w r h
  cases h
  exact ⟨fits args w, Or.inl (known .editStep)⟩

theorem editCommit (station : StationId) (port : PortId) (tag : Byte) (args : List Byte) :
    Statement (.editCommit station port tag args) := by
  intro w r h
  cases h
  exact ⟨fits args w, Or.inl (known .editCommit)⟩

theorem editAbort (station : StationId) (port : PortId) (tag : Byte) (args : List Byte) :
    Statement (.editAbort station port tag args) := by
  intro w r h
  cases h
  exact ⟨fits args w, Or.inl (known .editAbort)⟩

theorem entryDelete (station : StationId) (port : PortId) (tag : Byte) (args : List Byte) :
    Statement (.entryDelete station port tag args) := by
  intro w r h
  cases h
  exact ⟨fits args w, Or.inl (known .entryDelete)⟩

theorem writeStation (station : StationId) (port : PortId) (tag : Byte) (args : List Byte) :
    Statement (.writeStation station port tag args) := by
  intro w r h
  cases h
  exact ⟨fits args w, Or.inl (known .writeStation)⟩

theorem writeSpecies (station : StationId) (port : PortId) (tag : Byte) (args : List Byte) :
    Statement (.writeSpecies station port tag args) := by
  intro w r h
  cases h
  exact ⟨fits args w, Or.inl (known .writeSpecies)⟩

theorem writeKilnLimits (station : StationId) (port : PortId) (tag : Byte) (args : List Byte) :
    Statement (.writeKilnLimits station port tag args) := by
  intro w r h
  cases h
  exact ⟨fits args w, Or.inl (known .writeKilnLimits)⟩

theorem writeFaultActions (station : StationId) (port : PortId) (tag : Byte) (args : List Byte) :
    Statement (.writeFaultActions station port tag args) := by
  intro w r h
  cases h
  exact ⟨fits args w, Or.inl (known .writeFaultActions)⟩

theorem writeWatchdog (station : StationId) (port : PortId) (tag : Byte) (args : List Byte) :
    Statement (.writeWatchdog station port tag args) := by
  intro w r h
  cases h
  exact ⟨fits args w, Or.inl (known .writeWatchdog)⟩

theorem writeLine (station : StationId) (port : PortId) (tag : Byte) (args : List Byte) :
    Statement (.writeLine station port tag args) := by
  intro w r h
  cases h
  exact ⟨fits args w, Or.inl (known .writeLine)⟩

theorem writeMark (station : StationId) (port : PortId) (tag : Byte) (args : List Byte) :
    Statement (.writeMark station port tag args) := by
  intro w r h
  cases h
  exact ⟨fits args w, Or.inl (known .writeMark)⟩

theorem writeSort (station : StationId) (port : PortId) (tag : Byte) (args : List Byte) :
    Statement (.writeSort station port tag args) := by
  intro w r h
  cases h
  exact ⟨fits args w, Or.inl (known .writeSort)⟩

theorem writeBin (station : StationId) (port : PortId) (tag : Byte) (args : List Byte) :
    Statement (.writeBin station port tag args) := by
  intro w r h
  cases h
  exact ⟨fits args w, Or.inl (known .writeBin)⟩

theorem writeLabelField (station : StationId) (port : PortId) (tag : Byte) (args : List Byte) :
    Statement (.writeLabelField station port tag args) := by
  intro w r h
  cases h
  exact ⟨fits args w, Or.inl (known .writeLabelField)⟩

theorem setPackBase (station : StationId) (port : PortId) (tag : Byte) (args : List Byte) :
    Statement (.setPackBase station port tag args) := by
  intro w r h
  cases h
  exact ⟨fits args w, Or.inl (known .setPackBase)⟩

end Sys2Proof.Laws.Rows
end

