-- ==== Sys2Proof/Tests/Slice0.lean ====
section
/-! SUPPORT. Tests: terms the well-formedness check refuses, each command on a small state with the outcome the spec gives, and
for each statement with hypotheses a state and operands that meet them. -/

namespace Sys2Proof.Tests

open Sys2Proof Sys2Proof.Machine

set_option Elab.async false

/-! ## The states the tests start from -/

/-- The state a command answers. -/
def after (c : Instr) (s : State) : State :=
  match exec c s with
  | .next t => t
  | _ => s

/-- The payload of the newest telegram in port A's local queue: the reply to a request that arrived there. -/
def reply (c : Instr) (s : State) : List Byte := payloadOf ((after c s).portA.localQueue.getLastD [])

/-- Two steps: by time with a fan reversal, and by the estimate. -/
def steps : Vector Step 24 :=
  ((Vector.replicate 24 ({} : Step)).set 0 ⟨750, 150, 20, 15, .time, 0, 0, 60, 11⟩).set 1 ⟨600, 60, 5, 5, .estimate, 120, 10, 100, 0⟩

/-- A valid entry with those steps, bound once. -/
def entry : DirEntry := ⟨true, 5, ⟨255, 1, 2⟩, 1, steps⟩

/-- Kiln 3's stations, the printer and the scanner are mapped, no supervisor is, and entry 2 is valid. -/
def mill : State :=
  { State.reset with
    stations := ((((State.reset.stations.set 20 ⟨.climate 3, .a, 0, false⟩).set 21 ⟨.actuator 3, .a, 0, false⟩).set 22
      ⟨.probe 3, .a, 0, false⟩).set 23 ⟨.printer, .b, 0, false⟩).set 24 ⟨.scanner, .b, 0, false⟩
    directory := State.reset.directory.set 2 entry }

/-- The same with station 9 a supervisor that takes the notices. -/
def mapped : State := { mill with stations := mill.stations.set 9 ⟨.supervisor, .a, 7, true⟩ }

/-- Charge 7 of kiln 3. -/
def charge (x : ChargeState) : Charge :=
  { number := 7, state := x, kiln := some 3, entry := 2, generation := 5, species := 1, mask := 0xFFF, closedStamp := none }

/-- A kiln that holds charge 7 in its first step. -/
def kiln (x : KilnState) : Kiln :=
  { state := x, charge := some 7, position := some ⟨0, 10⟩, stepCopy := some steps[0], targets := some ⟨750, 600⟩
    setpoints := some ⟨600, 520⟩, timer := some 0, mask := 0xFFF, lastGood := some ⟨600, 520⟩ }

/-- Kiln 3 is `q`, and charge 7's record, the first, is `c`. -/
def holding (q : Kiln) (c : Charge) : State :=
  { mill with kilns := mill.kilns.set 3 q, charges := mill.charges.set 0 c, reuse := mill.reuse.tail }

/-- Kiln 3 runs its first step. -/
def running : State := holding (kiln .running) (charge .drying)

/-- Kiln 3 is held under an override. -/
def held : State :=
  holding { kiln .held with stack := [⟨.override 700 650 10 10, ⟨0, false⟩⟩] } (charge .drying)

/-- Kiln 3 is stopped. -/
def stopped : State := holding (kiln .stopped) (charge .drying)

/-- Charge 7 is stored and no kiln holds it. -/
def stored : State := { holding {} { charge .stored with refs := 0 } with line := { State.reset.line with infeed := none } }

/-- A line with these boards. -/
def line (boards : List Board) : State := { mill with line := { mill.line with queue := boards, nextSerial := 5 } }

/-- Board 4, which left the eye at position 0. -/
def board : Board := { serial := 4, charge := none, leading := 0, state := .awaitRead }

/-- Bin 2 takes packs of two boards, and holds one with one board. -/
def pack : Pack := { number := 9, kind := .normal, target := 2, countdown := 1, count := 1, opened := ⟨0, false⟩, charges := [none] }

/-- The mill with that pack open in bin 2. -/
def packing : State := { mill with bins := mill.bins.set 2 ⟨2, .normal, 1, some pack⟩ }

/-- A label whose head waits for the printer. -/
def printing : State :=
  { mill with
    labels := { mill.labels with
      queue := [⟨9, 2, List.replicate 8 (List.replicate 40 0x20)⟩], head := some .awaitPrint, nextRow := 8
      timer := some 20, timeoutInUse := 20 }
    packLog := [⟨{ pack with count := 2 }, 2, .countReached, .pending, false, ⟨0, false⟩⟩] }

/-- An open edit on entry 2. -/
def editing : State := { mill with staging := some ⟨2, ⟨255, 1, 2⟩, steps, 1800⟩ }

/-! ## Terms the check refuses -/

theorem test_emptyRun_refused : (Instr.telegramReception .a 3 []).wellFormed = false := by decide
theorem test_longArguments_refused : (Instr.readKiln 9 .a 0 (List.replicate 55 0)).wellFormed = false := by decide +kernel
theorem test_unknownRequest_catalogueKind_refused : (Instr.unknownRequest 0x20 9 .a 0 []).wellFormed = false := by decide
theorem test_unknownRequest_longArguments_refused :
    (Instr.unknownRequest 0xEE 9 .a 0 (List.replicate 55 0)).wellFormed = false := by decide +kernel
theorem test_wellFormed_accepted :
    (Instr.telegramReception .a 3 [0xA5]).wellFormed = true ∧ (Instr.readKiln 9 .a 0 (List.replicate 54 0)).wellFormed = true
      ∧ (Instr.unknownRequest 0xEE 9 .a 0 []).wellFormed = true := by decide +kernel

/-! ## The events -/

theorem test_deviceReset : (after (.deviceReset 255 true false true) mapped).own = 254
    ∧ (after (.deviceReset 255 true false true) mapped).line.eyeBlocked = true
    ∧ (after (.deviceReset 255 true false true) mapped).portA.localQueue.length = 1 := by decide +kernel

theorem test_crc : crc16 [0x31, 0x32, 0x33, 0x34, 0x35, 0x36, 0x37, 0x38, 0x39] = 0x29B1 := by decide +kernel

theorem test_telegramReception_climate :
    ((after (.telegramReception .a 3 (telegram 77 20 0x10 5 ([0x02, 0x58, 0x02, 0x08] ++ [0]))) running).kiln 3).lastGood
        = some ⟨600, 520⟩
      ∧ (after (.telegramReception .a 3 (telegram 77 20 0x10 5 ([0x02, 0x58, 0x02, 0x08] ++ [0]))) running).portB.passQueue
        = [telegram 77 20 0x10 5 [0x02, 0x58, 0x02, 0x08, 0]] := by decide +kernel

theorem test_telegramReception_damaged :
    (after (.telegramReception .a 3 [0xA5, 1, 2, 3, 4, 0, 0, 0]) mill).portA.counters = ⟨0, 1, 0, 0, 0, 0⟩ := by decide +kernel

theorem test_transmitStart_local : (after (.transmitStart .a 3) mill).portA.sending = some .loc
    ∧ (after (.transmitStart .a 2) mill).portA.sending = none := by decide +kernel

theorem test_transmissionComplete :
    (after (.transmissionComplete .a) (after (.transmitStart .a 3) mill)).portA.localQueue = []
      ∧ (after (.transmissionComplete .a) (after (.transmitStart .a 3) mill)).portA.turn = .pass := by decide +kernel

theorem test_encoderCount_wraps_backward :
    (after (.encoderCount false true) mill).line.position = 0xFFFFFF
      ∧ (after (.encoderCount true false) mill).line.position = 1 := by decide +kernel

theorem test_encoderCount_departure :
    (after (.encoderCount true false) (line [{ board with leading := 1 - 12000 }])).line.queue = []
      ∧ (after (.encoderCount true false) (line [{ board with leading := 2 - 12000 }])).line.queue.length = 1 := by decide +kernel

theorem test_leadingEdge : (after .leadingEdge (line [])).line.queue = [{ serial := 5, charge := none, leading := 0 }]
    ∧ (after .leadingEdge (line [])).line.counters.opened = 1 := by decide +kernel

theorem test_trailingEdge :
    (after .trailingEdge (after .leadingEdge (line []))).line.queue = [{ serial := 5, charge := none, leading := 0, state := .awaitRead }] := by
  decide +kernel

/-- The ramp of chapter 5's worked example, first minute. -/
theorem test_kilnMinuteExpiry_ramp : ((after (.kilnMinuteExpiry 3) running).kiln 3).setpoints = some ⟨620, 535⟩
    ∧ ((after (.kilnMinuteExpiry 3) running).kiln 3).fan = .reverse := by decide +kernel

/-- Chapter 5's worked example after the limits change. -/
theorem test_kilnMinuteExpiry_limits :
    ((after (.kilnMinuteExpiry 3) (holding
      { kiln .running with setpoints := some ⟨750, 600⟩, written := { dryMax := 700 } } (charge .drying))).kiln 3).setpoints
        = some ⟨700, 585⟩ := by decide +kernel

theorem test_watchdogExpiry :
    (after .watchdogExpiry { running with watchdog := ⟨.armed, 60, 0, 60, 0, 60⟩ }).watchdog.state = .lapsed
      ∧ ((after .watchdogExpiry { running with watchdog := ⟨.armed, 60, 0, 60, 0, 60⟩ }).kiln 3).state = .held := by decide +kernel

theorem test_editExpiry : (after .editExpiry editing).staging = none := by decide +kernel

theorem test_labelTimeout : (after .labelTimeout printing).labels.queue = []
    ∧ (after .labelTimeout printing).packLog.map LogEntry.outcome = [.timeout] := by decide +kernel

theorem test_millClockMinute : (after .millClockMinute mill).clock = ⟨1, false, 0⟩ := by decide +kernel

theorem test_resetMinuteCount : (after .resetMinuteCount { mill with minutes := 0xFFFFFFFF }).minutes = 0 := by decide +kernel

/-! ## Corrections, the estimate and a class (chapter 3's worked cases) -/

theorem test_corrections :
    correct ⟨8, 1100, 5⟩ 65535 650 = none ∧ correct ⟨8, 1100, 5⟩ 65534 650 = some ⟨600, .overRange⟩
      ∧ correct ⟨8, 1100, 5⟩ 700 650 = some ⟨600, .clamped⟩ ∧ correct ⟨8, 1100, 5⟩ 5 650 = some ⟨0, .clamped⟩
      ∧ correct ⟨8, 1100, 5⟩ 30 650 = some ⟨1, .none⟩ := by decide

theorem test_estimate_caseC :
    estimateOf ([132, 141, 128, 160, 137, 145].map (fun v => ⟨v, .none, 0⟩)) = some ⟨139, false⟩
      ∧ wettestOf ([132, 141, 128, 160, 137, 145].map (fun v => ⟨v, .none, 0⟩)) = some 160 := by decide +kernel

theorem test_classes : [none, some 79, some 80, some 190, some 230, some 231].map (classify {})
    = [.noRead, .overdry, .target, .target, .wet, .redry] := by decide +kernel

/-! ## The requests -/

theorem test_unknownRequest : reply (.unknownRequest 0xEE 9 .a 7 [1]) mill = [0xEE, 7, BitVec.ofNat 8 Result.unknownRequest.code] := by
  decide +kernel

theorem test_readKiln_latches : reply (.readKiln 9 .a 7 [3, 2]) held =
    [0x01, 7, 0] ++ [1] ++ [1, 0x02, 0xBC, 0x02, 0x8A, 10, 10, 0, 0, 0, 0] ++ List.replicate 33 0 ++ [0, 255, 255, 255, 255, 0] := by
  decide +kernel

theorem test_readCharge : (reply (.readCharge 9 .a 7 [0, 7, 0]) running).take 3 = [0x02, 7, 0]
    ∧ (reply (.readCharge 9 .a 7 [0, 8, 0]) running).length = 3 := by decide +kernel

theorem test_readPackLog : ((reply (.readPackLog 9 .a 7 [0]) printing).drop 3).take 6 = [1, 0, 0, 0, 9, 2] := by decide +kernel

theorem test_readLot :
    (reply (.readLot 9 .a 7 [0]) { mill with lots := [⟨2051, 1, 4, some 248, [311, 298, 405]⟩] }).drop 3
      = [1, 0, 0, 8, 3, 1, 0, 4, 0, 248, 3, 1, 55, 1, 42, 1, 149, 0, 0] := by decide +kernel

theorem test_readEntry_watchdog : reply (.readEntry 9 .a 7 [10, 0, 0]) mill = [0x05, 7, 0, 0, 60, 0, 0, 60, 0, 0] := by decide +kernel

theorem test_readLine : (reply (.readLine 9 .a 7 [1, 0]) mill).drop 3
    = [0, 200, 0] ++ be24 4000 ++ be24 12000 ++ [0, 15, 0, 80, 0, 190, 0, 230, 20] := by decide +kernel

theorem test_readCounters :
    let s := { mill with supervision := ⟨1, 2, 3⟩ }
    (reply (.readCounters 9 .a 7 [2]) s).drop 3 = [0, 1, 0, 2, 0, 3] ∧ (after (.readCounters 9 .a 7 [2]) s).supervision = ⟨0, 0, 0⟩ := by
  decide +kernel

theorem test_heartbeat : reply (.heartbeat 9 .a 7 []) mill = [0x10, 7, 0, 1, 0, 0, 0, 0]
    ∧ (after (.heartbeat 9 .a 7 []) { mill with watchdog := ⟨.armed, 60, 5, 60, 5, 4⟩ }).watchdog.state = .lapsed := by decide +kernel

theorem test_setClock : (after (.setClock 9 .a 7 [1, 0, 0, 2]) mill).clock = ⟨0x01000002, true, 0⟩ := by decide +kernel

theorem test_loadCharge :
    let t := after (.loadCharge 9 .a 7 [3, 0, 8, 2, 1, 0x0F, 0xFF, 0, 0, 0, 0]) mill
    (t.kiln 3).state = .loaded ∧ t.charges[0].number = 8 ∧ t.directory[2].inUse = 2
      ∧ (t.kiln 3).setpoints = some ⟨200, 180⟩ := by decide +kernel

theorem test_startKiln :
    let s := holding (kiln .loaded) (charge .loaded)
    reply (.startKiln 9 .a 7 [3]) s = [0x13, 7, 0, 2, 0, 0, 5] ∧ ((after (.startKiln 9 .a 7 [3]) s).kiln 3).state = .running := by
  decide +kernel

/-- A START_KILN that completes the charge loads the countdown too (R112). -/
theorem test_startKiln_completion :
    let last := holding { kiln .loaded with position := some ⟨2, 0⟩, countdown := 0 } (charge .loaded)
    let t := after (.startKiln 9 .a 7 [3]) last
    (t.kiln 3).state = .done ∧ (t.kiln 3).countdown = 30 := by decide +kernel

theorem test_override :
    reply (.override 9 .a 7 [3, 0x02, 0xBC, 0x02, 0x8A, 10, 60]) running = [0x14, 7, 1, 1]
      ∧ ((after (.override 9 .a 7 [3, 0x02, 0xBC, 0x02, 0x8A, 10, 60]) running).kiln 3).stack
        = [⟨.override 700 650 10 50, ⟨0, false⟩⟩] := by decide +kernel

theorem test_resume : reply (.resume 9 .a 7 [3]) held = [0x15, 7, 0, 2, 0, 1]
    ∧ ((after (.resume 9 .a 7 [3]) held).kiln 3).state = .running := by decide +kernel

theorem test_stop : reply (.stop 9 .a 7 [3]) held = [0x16, 7, 0, 0, 0, 10]
    ∧ ((after (.stop 9 .a 7 [3]) held).kiln 3).state = .stopped := by decide +kernel

theorem test_restart : reply (.restart 9 .a 7 [3]) stopped = [0x17, 7, 0, 2, 0, 0, 10]
    ∧ ((after (.restart 9 .a 7 [3]) stopped).kiln 3).setpoints = some ⟨600, 520⟩ := by decide +kernel

theorem test_unload : reply (.unload 9 .a 7 [3]) stopped = [0x18, 7, 0, 0, 7, 1]
    ∧ ((after (.unload 9 .a 7 [3]) stopped).charge? 7).map Charge.state = some .stored := by decide +kernel

theorem test_planerFeed : reply (.planerFeed 9 .a 7 [0, 7]) stored = [0x19, 7, 0, 0, 0, 0]
    ∧ ((after (.planerFeed 9 .a 7 [0, 7]) stored).charge? 7).map Charge.state = some .planing := by decide +kernel

theorem test_releaseCharge : reply (.releaseCharge 9 .a 7 [0, 7]) stored = [0x1A, 7, 0]
    ∧ (after (.releaseCharge 9 .a 7 [0, 7]) stored).reuse.getLast? = some 0 := by decide +kernel

theorem test_closePack : reply (.closePack 9 .a 7 [2]) packing = [0x1B, 7, 0, 0, 0, 0, 9, 0, 1, 0]
    ∧ (after (.closePack 9 .a 7 [2]) packing).labels.queue.length = 1 := by decide +kernel

theorem test_lineReset : reply (.lineReset 9 .a 7 []) (line [board]) = [0x1C, 7, 0, 1, 0]
    ∧ (after (.lineReset 9 .a 7 []) (line [board])).line.queue = [] := by decide +kernel

/-- A LINE_RESET that finds 4 labels queued releases the line-hold, though a closing pack's label makes them 5 (R155, R159). -/
theorem test_lineReset_releases :
    let s : State := { packing with
      line := { packing.line with queue := [board], holdAsserted := true, lostNotice := true }
      labels := { packing.labels with queue := List.replicate 4 ⟨1, 0, []⟩, head := some .waiting } }
    let t := s.lineReset
    t.line.holdAsserted = false ∧ t.line.lostNotice = false ∧ t.labels.queue.length = 5 := by decide +kernel

theorem test_editOpen : reply (.editOpen 9 .a 7 [2]) mill = [0x20, 7, 0, 2, 0, 5, 2]
    ∧ reply (.editOpen 9 .a 7 [3]) editing = [0x20, 7, 13] := by decide +kernel

theorem test_editHeader : reply (.editHeader 9 .a 7 [3, 1, 25]) editing = [0x21, 7, 1]
    ∧ (after (.editHeader 9 .a 7 [3, 1, 25]) editing).staging.map Staging.header = some ⟨3, 1, 24⟩ := by decide +kernel

theorem test_editStep :
    let c : Instr := .editStep 9 .a 7 [1, 0xFF, 0xFF, 1, 0x2D, 0, 51, 2, 2, 0x59, 0, 1, 0, 2, 0, 3]
    reply c editing = [0x22, 7, 1]
      ∧ (after c editing).staging.map (fun e => e.steps[1]) = some ⟨0, 300, 1, 50, .wettest, 600, 1, 2, 3⟩ := by decide +kernel

theorem test_editCommit : reply (.editCommit 9 .a 7 []) editing = [0x23, 7, 0, 2, 0, 6]
    ∧ reply (.editCommit 9 .a 7 []) { mill with staging := some ⟨2, ⟨255, 1, 3⟩, steps, 5⟩ } = [0x23, 7, 15, 2] := by decide +kernel

theorem test_editAbort : reply (.editAbort 9 .a 7 []) editing = [0x24, 7, 0] ∧ reply (.editAbort 9 .a 7 []) mill = [0x24, 7, 14] := by
  decide +kernel

theorem test_entryDelete : reply (.entryDelete 9 .a 7 [2]) mill = [0x25, 7, 9] ∧ reply (.entryDelete 9 .a 7 [3]) mill = [0x25, 7, 7]
    ∧ (after (.entryDelete 9 .a 7 [2]) { mill with directory := mill.directory.set 2 { entry with inUse := 0 } }).directory[2].valid
      = false := by decide +kernel

theorem test_writeStation :
    (after (.writeStation 9 .a 7 [30, 2, 3, 1, 15, 0]) mill).stations[30] = ⟨.climate 3, .b, 0, false⟩
      ∧ (after (.writeStation 9 .a 7 [30, 2, 3, 1, 15, 0]) mill).stations[20] = ⟨.none, .a, 0, false⟩
      ∧ reply (.writeStation 9 .a 7 [30, 2, 3, 1, 15, 0]) running = [0x30, 7, 5] := by decide +kernel

theorem test_writeSpecies : reply (.writeSpecies 9 .a 7 [15, 0xFF, 0x00, 4, 0, 41]) mill = [0x31, 7, 1]
    ∧ (after (.writeSpecies 9 .a 7 [15, 0xFF, 0x00, 4, 0, 41]) mill).species[15] = ⟨-100, 1024, 40⟩ := by decide +kernel

theorem test_writeKilnLimits :
    let c : Instr := .writeKilnLimits 9 .a 7 [3, 0, 200, 2, 0xBC, 0xFE, 0x70, 5, 0xDC, 0, 50, 30, 5, 1, 0x2C, 0, 250, 10, 0, 200, 0, 180, 0, 10, 5]
    reply c running = [0x32, 7, 0] ∧ ((after c running).kiln 3).written = { dryMax := 700 } ∧ ((after c running).kiln 3).inUse = {} := by
  decide +kernel

theorem test_writeFaultActions : ((after (.writeFaultActions 9 .a 7 [3, 0, 1, 2, 3]) mill).kiln 3).actions = ⟨.none, .hold, .safe, .shutdown⟩
    ∧ reply (.writeFaultActions 9 .a 7 [3, 0, 1, 2, 4]) mill = [0x33, 7, 4] := by decide +kernel

theorem test_writeWatchdog : reply (.writeWatchdog 9 .a 7 [0, 9, 60]) mill = [0x34, 7, 1]
    ∧ (after (.writeWatchdog 9 .a 7 [0, 9, 60]) mill).watchdog = ⟨.disarmed, 10, 9, 60, 0, 0⟩ := by decide +kernel

theorem test_writeLine :
    let c : Instr := .writeLine 9 .a 7 [0, 100, 1, 0, 0, 5, 0, 0, 9, 4, 8, 0, 70, 0, 180, 0, 180, 4]
    reply c mill = [0x35, 7, 1] ∧ (after c mill).line.settings = ⟨100, .merge, 5, 9, 4, 8, 70, 180, 180, 5⟩
      ∧ reply c (line [board]) = [0x35, 7, 5] := by decide +kernel

theorem test_writeMark : (after (.writeMark 9 .a 7 [5, 0xF8, 0, 100, 1, 44]) mill).line.patterns[5] = ⟨8, 100, 300⟩
    ∧ reply (.writeMark 9 .a 7 [6, 0xF8, 0, 100, 1, 44]) mill = [0x36, 7, 4] := by decide +kernel

theorem test_writeSort : (after (.writeSort 9 .a 7 [15, 0xE4, 2, 16, 0, 10, 0, 20, 6]) mill).sortList[15] = ⟨4, 2, 15, 10, 20, 6⟩
    ∧ reply (.writeSort 9 .a 7 [15, 0xE4, 2, 16, 0, 10, 0, 20, 6]) mill = [0x37, 7, 1] := by decide +kernel

theorem test_writeBin : (after (.writeBin 9 .a 7 [2, 1, 0xF5, 1]) packing).bins[2] = ⟨500, .redry, 1, some pack⟩
    ∧ reply (.writeBin 9 .a 7 [2, 1, 0xF5, 1]) packing = [0x38, 7, 1] := by decide +kernel

theorem test_writeLabelField :
    (after (.writeLabelField 9 .a 7 [0, 15, 0, 39, 41, 0x20, 0x7E]) mill).labels.layout[0] = some ⟨.text, 0, 39, 40, [0x20, 0x7E]⟩
      ∧ reply (.writeLabelField 9 .a 7 [0, 15, 0, 39, 41, 0x1F]) mill = [0x39, 7, 4] := by decide +kernel

theorem test_setPackBase : (after (.setPackBase 9 .a 7 [0, 0, 8, 3]) mill).nextPack = 2051
    ∧ reply (.setPackBase 9 .a 7 [0, 0, 0, 0]) mill = [0x3A, 7, 4] := by decide +kernel

/-- Row 0 of chapter 10's rendered pack, its text and number fields. -/
theorem test_label_row :
    let s := { mill with labels := { mill.labels with
      layout := (mill.labels.layout.set 0 (some ⟨.text, 0, 0, 4, [0x50, 0x41, 0x43, 0x4B]⟩)).set 1 (some ⟨.packNumber, 0, 5, 10, []⟩) } }
    (s.render { pack with number := 2051 } 2 .countReached).rows.head? = some ([0x50, 0x41, 0x43, 0x4B] ++ List.replicate 7 0x20
      ++ [0x32, 0x30, 0x35, 0x31] ++ List.replicate 25 0x20) := by decide +kernel

/-- A second: the timers that run count it, and those that are stopped do not (R32, R71, R87, R186). -/
theorem test_tick_running :
    let s : State := { holding { kiln .running with timer := some 59 } (charge .drying) with
      watchdog := ⟨.armed, 60, 0, 60, 0, 8⟩, labels := printing.labels, staging := editing.staging }
    (s.tick.kiln 3).timer = some 60 ∧ (s.tick.kiln 4).timer = none ∧ s.tick.watchdog.elapsed = 9
      ∧ s.tick.labels.timer = some 21 ∧ s.tick.staging.map Staging.timer = some 1801
      ∧ s.tick.clock.phase = s.clock.phase + 1 ∧ s.tick.minutePhase = s.minutePhase + 1 := by decide +kernel

theorem test_tick_stopped :
    mill.tick.watchdog = mill.watchdog ∧ mill.tick.labels = mill.labels ∧ mill.tick.staging = none
      ∧ mill.tick.kiln 3 = mill.kiln 3 ∧ mill.tick.line = mill.line := by decide +kernel

/-! ## States and operands that meet the statements' hypotheses -/

theorem witness_StepRunsTheFrontCommand : ({ mill with pending := [.leadingEdge] } : State).pending = .leadingEdge :: [] := rfl

theorem witness_IdleStepDoesOneThing : mill.pending = [] ∧ Instr.editExpiry ∈ editing.dueEvents
    ∧ ((mill.port .a).sending = none ∧ (mill.port .a).localQueue ≠ [] ∧ .transmitStart .a 3 ∈ mill.linkEvents)
    ∧ (let s := after (.transmitStart .a 3) mill
       (s.port .a).sending ≠ none ∧ .transmissionComplete .a ∈ s.linkEvents)
    ∧ Instr.labelTimeout ∈ printing.dueEvents
    ∧ Instr.watchdogExpiry ∈ ({ mill with watchdog := ⟨.armed, 60, 0, 60, 0, 60⟩ } : State).dueEvents
    ∧ Instr.kilnMinuteExpiry 3 ∈ (holding { kiln .running with timer := some 60 } (charge .drying)).dueEvents
    ∧ (({ mill with watchdog := ⟨.armed, 60, 0, 60, 0, 8⟩ } : State).watchdog.state = .armed ∧ mill.watchdog.state ≠ .armed)
    ∧ (mill.staging = none ∧ editing.staging = some ⟨2, ⟨255, 1, 2⟩, steps, 1800⟩)
    ∧ ((mill.kiln 3).timer = none ∧ ((holding (kiln .running) (charge .drying)).kiln 3).timer = some 0)
    ∧ (mill.labels.timer = none ∧ printing.labels.timer = some 20) := by decide +kernel

/-- A telegram of every length class, good ones to the part, to all and to another station, and one failure of each check. -/
theorem witness_TelegramsAreCheckedAndForwarded :
    (2 < 3 ∨ ([0xA5] : List Byte).head? ≠ some 0xA5) ∧ (3 < 3 ∨ ([0xA4] : List Byte).head? ≠ some 0xA5)
    ∧ (let run : List Byte := 0xA5 :: List.replicate 64 57
       3 ≤ 3 ∧ run.head? = some 0xA5 ∧ 56 < u8 run 5)
    ∧ (let run : List Byte := [0xA5, 1, 255, 0, 0, 0, 0, 0]
       run.head? = some 0xA5 ∧ u8 run 2 = 255)
    ∧ (let run : List Byte := [0xA5, 1, 2, 0, 0, 56, 0, 0]
       run.head? = some 0xA5 ∧ run.length ≠ 8 + u8 run 5)
    ∧ (let run : List Byte := [0xA5, 1, 2, 0, 0, 0, 0, 0]
       u8 run 5 ≤ 56 ∧ u8 run 2 ≠ 255 ∧ run.length = 8 + u8 run 5
         ∧ u16 run (6 + u8 run 5) ≠ (crc16 ((run.drop 1).take (5 + u8 run 5))).toNat)
    ∧ (let run := telegram 20 0 0x10 0 (List.replicate 56 0)
       u8 run 5 ≤ 56 ∧ u8 run 2 ≠ 255 ∧ run.length = 8 + u8 run 5
         ∧ u16 run (6 + u8 run 5) = (crc16 ((run.drop 1).take (5 + u8 run 5))).toNat ∧ u8 run 2 = mill.own.val)
    ∧ (List.replicate 56 (0 : Byte)).length ≤ 56 ∧ (254 : Byte) ≠ 255
    ∧ mill.GoodRun 3 (telegram 0 254 0x10 0 []) 254 ∧ mill.GoodRun 3 (telegram 255 20 0x50 0 (List.replicate 56 0)) 20
    ∧ mill.portB.passQueue.length < 8
    ∧ (let s := { mill with portB := { mill.portB with passQueue := List.replicate 8 (telegram 1 2 3 4 []) } }
       s.GoodRun 3 (telegram 77 20 0x51 0 []) 20 ∧ 8 ≤ (s.port (otherPort .a)).passQueue.length) := by
  unfold State.GoodRun; decide +kernel

theorem witness_TelegramsReachTheirBlocks :
    (mill.GoodRun 3 (telegram 77 20 0x10 0 [0, 0, 0, 0, 0]) 20 ∧ mill.stations[20].role = .climate 3)
    ∧ (mill.GoodRun 3 (telegram 77 22 0x11 0 (12 :: List.replicate 48 0)) 22 ∧ mill.stations[22].role = .probe 3
        ∧ mill.GoodRun 3 (telegram 77 22 0x11 0 (13 :: List.replicate 52 0)) 22)
    ∧ (mill.GoodRun 3 (telegram 77 24 0x20 0 ([0, 0, 0, 0, 0, 0, 8] ++ List.replicate 16 0)) 24 ∧ mill.stations[24].role = .scanner
        ∧ mill.GoodRun 3 (telegram 77 24 0x20 0 [0, 0, 0, 0, 0, 0, 0]) 24)
    ∧ (mill.GoodRun 3 (telegram 0 23 0x41 0 [0, 0, 0, 9, 0]) 23 ∧ mill.stations[23].role = .printer)
    ∧ (mill.GoodRun 3 (telegram 255 200 0x50 0 [1, 2]) 200 ∧ mill.mapOpen = true
        ∧ mapped.GoodRun 3 (telegram 0 200 0x50 0 [1]) 200
        ∧ mapped.GoodRun 3 (telegram 255 200 0x50 0 [1, 2]) 200 ∧ mapped.mapOpen = false
        ∧ mapped.stations[200].role ≠ .supervisor) := by
  unfold State.GoodRun; decide +kernel

/-- Each state of a transmitter, and each class at the head of the rotation with what it sends. -/
theorem witness_TransmittersAlternateAndOffer :
    (mill.port .a).sending = none
    ∧ (let s : State := { mill with portA := { mill.portA with sending := some .pass, passQueue := [[0]] } }
       (s.port .a).sending = some .pass)
    ∧ (let s : State := { mill with portA := { mill.portA with sending := some .loc } }
       (s.port .a).sending = some .loc ∧ (s.port .a).localQueue = mill.portA.localQueue.headD [] :: [] ∧ s.requests = []
         ∧ s.pendingOn .a .reply = false ∧ s.pendingOn .a .setpoint = false ∧ s.pendingOn .a .notice = false
         ∧ s.pendingOn .a .labelRow = false)
    ∧ (let s : State := { mill with portA := { mill.portA with sending := some .loc }, replySlot := some ⟨.a, 9, [1, 2, 3]⟩ }
       (s.port .a).lastServed.after.find? (s.pendingOn .a) = some .reply)
    ∧ (let s : State := { running with portA := { mill.portA with sending := some .loc, setpointWaiting := [3] } }
       (s.port .a).lastServed.after.find? (s.pendingOn .a) = some .setpoint ∧ s.holder (.actuator 3) = some 21
         ∧ (s.kiln 3).state.setpointMode = some 2 ∧ (s.kiln 3).setpoints = some ⟨600, 520⟩)
    ∧ (let s : State := { mapped with portA := { mill.portA with sending := some .loc }, notices := [⟨.editExpired, none, [2]⟩] }
       (s.port .a).lastServed.after.find? (s.pendingOn .a) = some .notice ∧ s.notifyStation = some 9)
    ∧ (let s : State := { printing with
         portB := { mill.portB with sending := some .loc }, labels := { printing.labels with head := some .sending, nextRow := 7 } }
       (s.port .b).lastServed.after.find? (s.pendingOn .b) = some .labelRow ∧ s.holder .printer = some 23
         ∧ (s.port .b).localQueue = mill.portB.localQueue.headD [] :: [] ∧ s.requests = []) := by decide +kernel

/-- A label's row 7 and its row 6 as they finish, and a request that waits behind a reply that is offered. -/
theorem witness_TransmittersAlternateAndOffer_follow :
    let row (n : Nat) : List Byte := telegram 23 0 0x40 0 (be32 9 ++ be8 n ++ be8 (if n = 7 then 1 else 0) ++ List.replicate 40 0x20)
    let s (n : Nat) : State := { printing with
      portB := { mill.portB with sending := some .loc, localQueue := [row n] }
      labels := { printing.labels with head := some .sending, nextRow := 8, timer := none } }
    let waiting : State := { mill with
      portA := { mill.portA with sending := some .loc }, replySlot := some ⟨.a, 9, [1, 2, 3]⟩
      requests := [requestFor .heartbeat 9 .a 0 []] }
    (((s 7).port .b).sending = some .loc ∧ ((s 7).port .b).localQueue = row 7 :: [] ∧ (s 7).requests = []
        ∧ (s 7).labels.head = some .sending ∧ (s 7).labels.nextRow = 8 ∧ (row 7).getD 3 0 = 0x40 ∧ u8 (row 7) 11 = 1)
    ∧ (((s 6).port .b).localQueue = row 6 :: [] ∧ u8 (row 6) 11 ≠ 1)
    ∧ ((waiting.port .a).sending = some .loc ∧ (waiting.port .a).localQueue = mill.portA.localQueue.headD [] :: []
        ∧ waiting.labels.head ≠ some .sending ∧ (waiting.port .a).lastServed.after.find? (waiting.pendingOn .a) = some .reply
        ∧ waiting.replySlot = some ⟨.a, 9, [1, 2, 3]⟩ ∧ waiting.requests = requestFor .heartbeat 9 .a 0 [] :: []) := by
  decide +kernel

theorem witness_WriteStationFollowsItsChecks :
    mill.Ready 9 .writeStation ∧ running.Ready 9 .writeStation
    ∧ (let a : List Byte := [0, 0, 0, 0, 0, 0]
       a.length = 6 ∧ u8 a 0 = mill.own.val)
    ∧ (let a : List Byte := [254, 7, 0, 0, 0, 0]
       a.length = 6 ∧ 6 < u8 a 1)
    ∧ (let a : List Byte := [22, 2, 3, 1, 0, 0]
       a.length = 6 ∧ u8 a 0 = (22 : StationId).val ∧ (22 : StationId) ≠ running.own ∧ u8 a 1 = (Role.climate 3).code
         ∧ u8 a 2 = (Role.climate 3).kilnCode ∧ u8 a 3 ≤ 1 ∧ u8 a 5 ≤ 1 ∧ running.stations[22].role ≠ .climate 3
         ∧ (Role.climate 3).kiln? = some 3 ∧ (running.kiln 3).state ≠ .idle ∧ (mill.kiln 3).state = .idle
         ∧ ∀ k, (Role.climate 3).kiln? = some k ∨ mill.stations[22].role.kiln? = some k → (mill.kiln k).state = .idle)
    ∧ (let a : List Byte := [254, 1, 99, 0, 15, 1]
       a.length = 6 ∧ u8 a 0 = (254 : StationId).val ∧ u8 a 1 = Role.supervisor.code ∧ u8 a 5 = 1
         ∧ Role.supervisor.kiln? = none ∧ mill.stations[254].role.kiln? = none) := by
  unfold State.Ready; decide +kernel

/-- A waiting SETPOINT whose actuator changes side, and the states of the head label as the printer stays, moves or leaves. -/
theorem witness_WriteStationFollowsItsChecks_follow :
    let s : State := { mill with portA := { mill.portA with setpointWaiting := [3] } }
    let head (x : HeadState) (n : Nat) : State := { printing with labels := { printing.labels with head := some x, nextRow := n } }
    let unprinted : State := { head .waiting 0 with stations := printing.stations.set 23 ⟨.none, .b, 0, false⟩ }
    let map (a : List Byte) (t : State) : State := { t with stations := (after (.writeStation 9 .a 7 a) t).stations }
    (s.Ready 9 .writeStation ∧ s.stations[21].role = .actuator 3 ∧ u8 [21, 4, 3, 1, 0, 0] 1 = (Role.actuator 3).code
        ∧ 3 ∈ (s.port (otherPort .b)).setpointWaiting)
    ∧ (unprinted.Ready 9 .writeStation ∧ unprinted.labels.queue ≠ []
        ∧ (map [30, 0, 0, 0, 0, 0] unprinted).holder .printer = none ∧ (map [30, 6, 0, 0, 0, 0] unprinted).holder .printer ≠ none)
    ∧ ((head .sending 7).Ready 9 .writeStation ∧ (head .sending 7).labels.nextRow < 8
        ∧ (map [30, 0, 0, 0, 0, 0] (head .sending 7)).holder .printer = (head .sending 7).holder .printer
        ∧ (map [30, 6, 0, 0, 0, 0] (head .sending 7)).holder .printer = some 30
        ∧ (head .sending 7).holder .printer = some 23 ∧ (map [23, 0, 0, 0, 0, 0] (head .sending 7)).holder .printer = none)
    ∧ (mill.labels.head = none ∧ printing.labels.head = some .awaitPrint ∧ 8 ≤ (head .sending 8).labels.nextRow) := by
  unfold State.Ready; decide +kernel

/-- The ways a SETPOINT and a label row are produced, placed or left waiting. -/
theorem witness_WriteStationFollowsItsChecks_produce :
    let full : Port := { mill.portA with localQueue := List.replicate 16 [] }
    let rows : State := { printing with labels := { printing.labels with head := some .sending, nextRow := 7 } }
    (mill.holder (.actuator 4) = none ∧ running.holder (.actuator 3) = some 21 ∧ running.stations[21].side = .a)
    ∧ (3 ∈ (({ running with portA := { mill.portA with setpointWaiting := [3] } } : State).port .a).setpointWaiting)
    ∧ (3 ∉ (running.port .a).setpointWaiting ∧ (running.port .a).localQueue.length < 16 ∧ (∀ c, running.pendingOn .a c = false)
        ∧ (running.kiln 3).state ≠ .idle ∧ (running.kiln 3).setpoints = some ⟨600, 520⟩)
    ∧ 16 ≤ (({ running with portA := full } : State).port .a).localQueue.length
    ∧ ({ running with replySlot := some ⟨.a, 9, []⟩ } : State).pendingOn .a .reply = true
    ∧ (printing.labels.head ≠ some .sending ∧ mill.labels.queue = [])
    ∧ (rows.labels.head = some .sending ∧ rows.labels.nextRow < 8 ∧ rows.holder .printer = some 23 ∧ rows.stations[23].side = .b
        ∧ rows.labels.queue = ⟨9, 2, List.replicate 8 (List.replicate 40 0x20)⟩ :: [] ∧ (rows.port .b).localQueue.length < 16
        ∧ ∀ c, c ≠ .labelRow → rows.pendingOn .b c = false)
    ∧ ({ rows with replySlot := some ⟨.b, 9, []⟩ } : State).pendingOn .b .reply = true := by
  refine ⟨by decide +kernel, by decide +kernel, ⟨by decide +kernel, by decide +kernel, ?_, by decide +kernel, by decide +kernel⟩,
    by decide +kernel, by decide +kernel, by decide +kernel,
    ⟨by decide +kernel, by decide +kernel, by decide +kernel, by decide +kernel, by decide +kernel, by decide +kernel, ?_⟩, by decide +kernel⟩ <;>
  · intro c; cases c <;> decide +kernel

theorem witness_RequestsAreAdmittedAndJudged :
    let r := requestFor .heartbeat 200 .a 0 []
    requestOfCommand (.heartbeat 200 .a 0 []) = some r
    ∧ (mapped.stations[200].role ≠ .supervisor ∧ mapped.stations[9].role = .supervisor)
    ∧ (∀ d : StationId, mill.stations[d].role ≠ .supervisor)
    ∧ 4 ≤ ({ mill with requests := [r, r, r, r] } : State).requests.length
    ∧ (let s : State := { mill with requests := [r, r, r], replySlot := some ⟨.a, 9, []⟩ }
       s.requests.length < 4 ∧ s.replySlot ≠ none)
    ∧ mill.requests = [] ∧ mill.replySlot = none
    ∧ (let s : State := { mill with requests := [r, r] }
       s.requests = r :: [r] ∧ s.replySlot = none)
    ∧ ReqKind.ofByte 0x3B = none ∧ ReqKind.ofByte 0x3A = some .setPackBase ∧ (0x3B : Byte).toNat ∉ catalogueCodes
    ∧ ((0xF : BitVec 4).getLsbD ReqKind.setPackBase.cls.bit = true) ∧ mapped.stations[9].classes.getLsbD ReqKind.setPackBase.cls.bit = false
    := by decide +kernel

theorem witness_RepliesArePlacedAndRefusalsChangeNothing :
    (mill.port .a).localQueue.length < 16 ∧ (∀ c, c ≠ .reply → mill.pendingOn .a c = false)
    ∧ (let s : State := { mill with portA := { mill.portA with localQueue := List.replicate 16 [] } }
       16 ≤ (s.port .a).localQueue.length)
    ∧ ({ mill with portA := { mill.portA with setpointWaiting := [3] } } : State).pendingOn .a .setpoint = true
    ∧ (serve .heartbeat (requestFor .heartbeat 9 .a 0 []) { mill with watchdog := ⟨.armed, 60, 5, 60, 5, 4⟩ }).result = .tooEarly
    ∧ (serve .editCommit (requestFor .editCommit 9 .a 0 []) { mill with staging := some ⟨2, ⟨255, 1, 3⟩, steps, 5⟩ }).result = .invalidStep
    ∧ (serve .stop (requestFor .stop 9 .a 0 [3]) mill).result = .wrongState ∧ ReqKind.readKiln.cls = .read := by
  refine ⟨by decide +kernel, ?_, by decide +kernel, by decide +kernel, by decide +kernel, by decide +kernel, by decide +kernel, rfl⟩
  intro c; cases c <;> decide +kernel

theorem witness_NoticesAreJudgedAndSent :
    let info : Notice := ⟨.editExpired, none, [2]⟩
    let alarm : Notice := ⟨.supervisorLost, none, [0]⟩
    let status : Notice := ⟨.kilnStatus, some 3, []⟩
    let s (q : List Notice) : State := { mapped with notices := q }
    mill.notifyStation = none ∧ (s []).notifyStation = some 9
    ∧ (status ∈ (s [status]).notices ∧ status.kind = .kilnStatus)
    ∧ (info.kind.isAlarm = false ∧ alarm.kind.isAlarm = true)
    ∧ (s (List.replicate 23 info)).notices.length < 24 ∧ 24 ≤ (s (List.replicate 24 info)).notices.length
    ∧ (s (List.replicate 31 alarm)).notices.length < 32
    ∧ ((s (List.replicate 32 alarm)).notices.length = 32 ∧ ∀ e ∈ List.replicate 32 alarm, e.kind.isAlarm = true)
    ∧ ((s (List.replicate 23 info ++ info :: List.replicate 8 alarm)).notices.length = 32
        ∧ ∀ e ∈ List.replicate 8 alarm, e.kind.isAlarm = true)
    ∧ (s (List.replicate 24 info)).notices.countP (fun e => !e.kind.isAlarm) ≤ 24
    ∧ ((s [info]).notices = info :: [] ∧ ((s [info]).port .a).localQueue.length < 16
        ∧ (s [info]).pendingOn .a .setpoint = false ∧ (s [info]).pendingOn .a .reply = false ∧ (s [info]).pendingOn .a .labelRow = false)
    ∧ 16 ≤ (({ mapped with portA := { mapped.portA with localQueue := List.replicate 16 [] } } : State).port .a).localQueue.length
    := by decide +kernel

theorem witness_HeartbeatsAndLapses :
    mill.Ready 9 .heartbeat ∧ mill.watchdog.state = .disarmed ∧ ([1] : List Byte) ≠ []
    ∧ (let s : State := { mill with watchdog := ⟨.lapsed, 60, 5, 60, 5, 0⟩ }
       s.Ready 9 .heartbeat ∧ s.watchdog.state = .lapsed ∧ s.watchdog.state ≠ .armed)
    ∧ (let s : State := { mill with watchdog := ⟨.armed, 60, 5, 60, 5, 5⟩ }
       s.Ready 9 .heartbeat ∧ s.watchdog.state = .armed ∧ s.watchdog.lowerInUse ≤ s.watchdog.elapsed)
    ∧ (let s : State := { running with watchdog := ⟨.armed, 60, 5, 60, 5, 4⟩ }
       s.Ready 9 .heartbeat ∧ s.watchdog.state = .armed ∧ s.watchdog.elapsed < s.watchdog.lowerInUse
         ∧ (s.kiln 3).state ≠ .idle ∧ (s.kiln 4).state = .idle) := by
  unfold State.Ready; decide +kernel

theorem witness_WriteWatchdogSetsTheWrittenLimits :
    mill.Ready 9 .writeWatchdog ∧ mill.Ready 9 .readEntry ∧ ([0, 10] : List Byte).length ≠ 3 ∧ ([0, 10, 10] : List Byte).length = 3 := by
  unfold State.Ready; decide +kernel

theorem witness_ClocksCountMinutes :
    mill.Ready 9 .setClock ∧ ([0, 0, 0] : List Byte).length ≠ 4 ∧ ([255, 255, 255, 255] : List Byte).length = 4 := by
  unfold State.Ready; decide +kernel

theorem witness_ReadCountersClearsItsGroup :
    mill.Ready 9 .readCounters ∧ (([4] : List Byte).length ≠ 1 ∨ 3 < u8 [4] 0) ∧ (([] : List Byte).length ≠ 1 ∨ 3 < u8 [] 0) := by
  unfold State.Ready; decide +kernel

/-- The last index of each table, and the first index out of range of the step table. -/
theorem witness_ReadEntryShowsTheEntry :
    mill.Ready 9 .readEntry ∧ packing.Ready 9 .readEntry
    ∧ [255, 16, 16, 16, 32, 768, 6, 16, 16, 16, 1].getD (u8 [5, 3, 0] 0) 0 ≤ u16 [5, 3, 0] 1
    ∧ (u8 [0, 0, 254] 0 = 0 ∧ u16 [0, 0, 254] 1 = (254 : StationId).val) ∧ (u8 [1, 0, 15] 0 = 1 ∧ u16 [1, 0, 15] 1 = (15 : Fin 16).val)
    ∧ (u8 [4, 0, 31] 0 = 4 ∧ u16 [4, 0, 31] 1 = (31 : Fin 32).val)
    ∧ (u8 [5, 2, 255] 0 = 5 ∧ u16 [5, 2, 255] 1 = 24 * (31 : Fin 32).val + (23 : Fin 24).val)
    ∧ (u8 [6, 0, 5] 0 = 6 ∧ u16 [6, 0, 5] 1 = (5 : Fin 6).val)
    ∧ (u16 [8, 0, 2] 1 = (2 : Fin 16).val ∧ packing.bins[2].pack = some pack ∧ packing.bins[3].pack = none)
    ∧ (mill.labels.layout[0] = none
        ∧ (mill.labels.layout.set 0 (some ⟨.text, 7, 39, 40, List.replicate 16 0x20⟩))[0] = some ⟨.text, 7, 39, 40, List.replicate 16 0x20⟩)
    ∧ (u8 [10, 0, 0] 0 = 10 ∧ u16 [10, 0, 0] 1 = 0) := by
  unfold State.Ready; decide +kernel

theorem witness_WriteSpeciesReplacesTheGroup :
    mill.Ready 9 .writeSpecies ∧ (let a : List Byte := [16, 0, 0, 4, 0, 0]
      a.length = 6 ∧ 15 < u8 a 0) ∧ (let a : List Byte := [15, 0, 100, 2, 0, 40]
      a.length = 6 ∧ u8 a 0 = (15 : Fin 16).val)
    ∧ ((running.kiln 3).state ≠ .idle ∧ running.kilnCharge 3 = some (charge .drying)
        ∧ (11 : Fin 12).val < u8 (12 :: List.replicate 48 0) 0 ∧ (running.kiln 3).mask.getLsbD (11 : Fin 12).val = true)
    ∧ (let b : Board := { board with charge := some 7 }
       b.split = false ∧ b.charge.bind running.charge? = some (charge .drying)) := by
  unfold State.Ready; decide +kernel

theorem witness_CorrectionFollowsItsStages : 601 ≤ 601 ∧ 601 ≤ 65533 ∧ 601 ≤ 65533 ∧ 65533 ≤ 65533 ∧ 0 ≤ 600 ∧ 600 ≤ 600 := by decide

/-- Lists of 2, 3, 4 and 5 channels; the last with every value equal. -/
theorem witness_EstimateIsATrimmedMean :
    let c : Channel := ⟨600, .overRange, 0⟩
    let l (n : Nat) := List.replicate n c
    (∀ x ∈ l 5, x.value ≤ 600) ∧ (l 2).length ≤ 2 ∧ (l 3).length = 3 ∧ (l 4).length = 4 ∧ 5 ≤ (l 5).length
    ∧ (∀ m : Fin (l 5).length, (l 5)[m].value ≤ (l 5)[4].value ∧ ((4 : Fin 5) < m → (l 5)[m].value < (l 5)[4].value))
    ∧ (∀ m : Fin (l 5).length, (l 5)[0].value ≤ (l 5)[m].value ∧ (m < (0 : Fin 5) → (l 5)[0].value < (l 5)[m].value)) := by
  decide +kernel

theorem witness_ArrivalsUpdateTheirKiln :
    (mill.kiln 3).state = .idle ∧ (running.kiln 3).state ≠ .idle
    ∧ (let x : List Byte := [0xFE, 0x70, 0x05, 0xDC, 0]
       u8 x 4 = 0 ∧ (running.kiln 3).inUse.plausLow ≤ i16 x 0 ∧ i16 x 0 ≤ (running.kiln 3).inUse.plausHigh
         ∧ (running.kiln 3).inUse.plausLow ≤ i16 x 2 ∧ i16 x 2 ≤ (running.kiln 3).inUse.plausHigh)
    ∧ (let x : List Byte := [0xFE, 0x6F, 0x05, 0xDC, 0]
       ¬ (running.kiln 3).inUse.plausLow ≤ i16 x 0)
    ∧ ((stopped.kiln 3).latches.range = none ∧ (stopped.kiln 3).state = .stopped)
    ∧ running.kilnCharge 3 = some (charge .drying)
    ∧ ((running.kiln 3).position = some ⟨0, 10⟩ ∧ (mill.kiln 3).position = none)
    ∧ (let moved (dry : Option Int) : Kiln := { kiln .running with reportedDry := dry, reportedWet := some 520 }
       (moved (some 590)).lastGood = some ⟨600, 520⟩ ∧ ¬ ((moved (some 590)).inUse.tempDeadband : Int) < 600 - 590
         ∧ ((moved (some 589)).inUse.tempDeadband : Int) < 600 - 589 ∧ (moved none).reportedDry.isSome ≠ (some (600 : Int)).isSome) := by
  decide +kernel

theorem witness_EditOpenCopiesTheEntry :
    mill.Ready 9 .editOpen ∧ editing.Ready 9 .editOpen ∧ 31 < u8 [32] 0 ∧ ([31] : List Byte).length = 1 ∧ u8 [31] 0 = (31 : Fin 32).val
    ∧ mill.staging = none ∧ editing.staging ≠ none := by
  unfold State.Ready; decide +kernel

theorem witness_EditHeaderAndStepReplaceStagedContent :
    mill.Ready 9 .editHeader ∧ editing.Ready 9 .editHeader ∧ mill.Ready 9 .editStep ∧ editing.Ready 9 .editStep
    ∧ mill.staging = none ∧ editing.staging = some ⟨2, ⟨255, 1, 2⟩, steps, 1800⟩
    ∧ (let a : List Byte := [16, 0, 24]
       a.length = 3 ∧ 15 < u8 a 0 ∧ u8 a 0 ≠ 255) ∧ (u8 [15, 0, 25] 0 ≤ 15 ∧ u8 [255, 0, 0] 0 = 255)
    ∧ (let a : List Byte := 23 :: List.replicate 6 0 ++ [2] ++ List.replicate 8 0
       a.length = 16 ∧ u8 a 0 = (23 : Fin 24).val ∧ u8 a 7 = ExitBasis.wettest.code)
    ∧ (let a : List Byte := 24 :: List.replicate 15 0
       a.length = 16 ∧ 23 < u8 a 0)
    ∧ (let a : List Byte := 0 :: List.replicate 6 0 ++ [3] ++ List.replicate 8 0
       a.length = 16 ∧ 2 < u8 a 7) := by
  unfold State.Ready; decide +kernel

theorem witness_EditAbortAndExpiryDiscardTheEdit :
    mill.Ready 9 .editAbort ∧ editing.Ready 9 .editAbort ∧ mill.Ready 9 .editOpen ∧ mill.staging = none ∧ editing.staging ≠ none
    ∧ editing.staging = some ⟨2, ⟨255, 1, 2⟩, steps, 1800⟩ ∧ ([0] : List Byte) ≠ [] := by
  unfold State.Ready; decide +kernel

/-- An edit that validates, one with no step, and one whose last staged step fails as the blank step does. -/
theorem witness_EditCommitValidatesAndWrites :
    let e (n : Nat) : Staging := ⟨2, ⟨255, 1, n⟩, steps, 0⟩
    let fails (j : Fin 24) : Prop := steps[j].dry < steps[j].depression ∨ steps[j].maxDuration < steps[j].minDuration
      ∨ steps[j].maxDuration = 0
    mill.Ready 9 .editCommit ∧ (∀ n, ({ mill with staging := some (e n) } : State).staging = some (e n)) ∧ mill.staging = none
    ∧ ({ mill with staging := some (e 2) } : State).Ready 9 .editCommit
    ∧ (e 0).header.count = 0 ∧ ((2 : Fin 24).val < (e 3).header.count ∧ fails 2 ∧ ∀ i : Fin 24, i < 2 → ¬ fails i)
    ∧ ((e 2).header.count ≠ 0 ∧ ∀ j : Fin 24, j.val < (e 2).header.count → ¬ fails j) := by
  unfold State.Ready
  refine ⟨by decide +kernel, fun _ => rfl, by decide +kernel, by decide +kernel, rfl, by decide +kernel, by decide +kernel⟩

theorem witness_EntryDeleteFollowsItsChecks :
    mill.Ready 9 .entryDelete ∧ 31 < u8 [32] 0 ∧ u8 [31] 0 = (31 : Fin 32).val ∧ mill.directory[31].valid = false
    ∧ (mill.directory[2].valid = true ∧ mill.directory[2].inUse ≠ 0)
    ∧ (let s : State := { editing with directory := mill.directory.set 2 { entry with inUse := 0 } }
       s.Ready 9 .entryDelete ∧ s.directory[2].valid = true ∧ s.directory[2].inUse = 0 ∧ s.staging.map Staging.target = some 2)
    ∧ (let s : State := { mill with directory := mill.directory.set 2 { entry with inUse := 0 } }
       s.Ready 9 .entryDelete ∧ s.directory[2].valid = true ∧ s.directory[2].inUse = 0 ∧ s.staging = none) := by
  unfold State.Ready; decide +kernel

/-- The default record of kiln 15 with equal dry bounds, bounds out of order, and the widest deviation band below its sign. -/
theorem witness_WriteKilnLimitsReplacesTheRecord :
    mill.Ready 9 .writeKilnLimits
    ∧ (let a : List Byte := [15, 2, 0xBC, 2, 0xBC, 0xFE, 0x70, 0xFE, 0x70, 0x7F, 0xFF, 30, 5, 1, 44, 0, 250, 10, 0, 200, 0, 180, 0, 10, 5]
       a.length = 25 ∧ u8 a 0 = (15 : KilnId).val ∧ max 0 (min 1300 (i16 a 1)) ≤ max 0 (min 1300 (i16 a 3))
         ∧ max (-400) (min 1500 (i16 a 5)) ≤ max (-400) (min 1500 (i16 a 7)) ∧ u16 a 9 < 32768)
    ∧ (let a : List Byte := [15, 2, 0xBD, 2, 0xBC, 0xFE, 0x70, 0xFE, 0x70, 0, 50, 30, 5, 1, 44, 0, 250, 10, 0, 200, 0, 180, 0, 10, 5]
       max 0 (min 1300 (i16 a 3)) < max 0 (min 1300 (i16 a 1))) ∧ 15 < u8 [16] 0 := by
  unfold State.Ready; decide +kernel

/-- Every way LOAD_CHARGE is refused, and one that is accepted with a lot. -/
theorem witness_LoadChargeChecksAndBinds :
    let a (k e sp : Byte) (rest : List Byte) : List Byte := [k, 0, 8, e, sp, 0x0F, 0xFF] ++ rest
    let lot : State := { mill with lots := [⟨2051, 1, 4, some 248, [311]⟩] }
    mill.Ready 9 .loadCharge ∧ running.Ready 9 .loadCharge ∧ lot.Ready 9 .loadCharge
    ∧ (¬ (a 3 2 1 [0, 0, 0]).length ∈ [11, 15, 19, 23, 27] ∧ ¬ u8 (a 3 2 16 [0, 0, 0, 0]) 4 ≤ 15)
    ∧ ((a 3 2 1 [0, 0, 0, 0]).length = 11 ∧ u16 (a 3 2 1 [0, 0, 0, 0]) 1 ≠ 0 ∧ (lotIds (a 3 2 1 [0, 0, 0, 0])).Nodup)
    ∧ (running.kiln 3).state ≠ .idle ∧ mill.holder (.climate 4) = none ∧ mill.holder (.climate 3) ≠ none
    ∧ mill.holder (.actuator 3) ≠ none ∧ 31 < u8 (a 3 32 1 [0, 0, 0, 0]) 3
    ∧ mill.loadCheck 3 31 (a 3 31 1 [0, 0, 0, 0]) = some .notFound
    ∧ mill.loadCheck 3 2 (a 3 2 1 [2, 2, 0, 0]) = some .badArgument
    ∧ mill.loadCheck 3 2 (a 3 2 1 [0, 0, 0, 0, 0, 0, 8, 3]) = some .notFound
    ∧ lot.loadCheck 3 2 (a 3 2 0 [0, 0, 0, 0, 0, 0, 8, 3]) = some .speciesMismatch
    ∧ (lot.loadCheck 3 2 (a 3 2 1 [3, 1, 0x27, 0x60, 0, 0, 8, 3]) = none ∧ lot.recordToTake = some 0
        ∧ (lotIds (a 3 2 1 [3, 1, 0x27, 0x60, 0, 0, 8, 3])).Nodup) := by
  unfold State.Ready; decide +kernel

theorem witness_StartKilnEntersItsStep :
    let s := holding (kiln .loaded) (charge .loaded)
    let last := holding { kiln .loaded with position := some ⟨2, 0⟩ } (charge .loaded)
    s.Ready 9 .startKiln ∧ last.Ready 9 .startKiln ∧ 15 < u8 [16] 0 ∧ u8 [3] 0 = (3 : KilnId).val ∧ (mill.kiln 3).state ≠ .loaded
    ∧ ((s.kiln 3).state = .loaded ∧ (s.kiln 3).position = some ⟨0, 10⟩ ∧ s.kilnCharge 3 = some (charge .loaded)
        ∧ (0 : Fin 24).val < s.directory[(charge .loaded).entry].header.count)
    ∧ ((last.kiln 3).position = some ⟨2, 0⟩ ∧ last.kilnCharge 3 = some (charge .loaded)
        ∧ last.directory[(charge .loaded).entry].header.count ≤ 2) := by
  unfold State.Ready; decide +kernel

theorem witness_RunningMinutesRampExitAndCountDown :
    (running.kiln 3).stepCopy = some steps[0] ∧ (running.kiln 3).position = some ⟨0, 10⟩
    ∧ ((600 : Int) - 20 ≤ 620 ∧ (620 : Int) ≤ 600 + 20 ∧ (579 : Int) < 600 - 20 ∧ (600 : Int) + 20 < 621)
    ∧ steps[0].basis = .time ∧ steps[1].basis ≠ .time ∧ steps[1].minDuration ≤ 10
    ∧ (({ kiln .running with estimate := some ⟨120, false⟩ } : Kiln).estimate.map Estimate.value = some 120 ∧ 120 ≤ steps[1].exitMoisture)
    ∧ ((stopped.kiln 3).state ≠ .running ∧ ({ kiln .running with lastGood := none } : Kiln).lastGood = none)
    ∧ ((running.kiln 3).lastGood = some ⟨600, 520⟩ ∧ (running.kiln 3).setpoints = some ⟨600, 520⟩)
    ∧ ((650 : Int) - 600 ≤ (running.kiln 3).inUse.deviationBand ∧ ¬ (651 : Int) - 600 ≤ (running.kiln 3).inUse.deviationBand)
    ∧ ({ kiln .running with countdown := 0 } : Kiln).countdown = 0 ∧ 2 ≤ (running.kiln 3).countdown
    ∧ ({ kiln .running with countdown := 1 } : Kiln).countdown = 1 := by decide +kernel

theorem witness_KilnMinuteRunsItsParts :
    (mill.kiln 3).state = .idle ∧ (kiln .loaded).state = .loaded ∧ (kiln .done).state = .done
    ∧ ((stopped.kiln 3).state = .stopped ∧ (stopped.kiln 3).setpoints = some ⟨600, 520⟩)
    ∧ ((held.kiln 3).state = .held ∧ (held.kiln 3).stack = ⟨.override 700 650 10 10, ⟨0, false⟩⟩ :: []
        ∧ (held.kiln 3).silence + 1 < (held.kiln 3).written.silenceMinutes)
    ∧ (⟨.fault .silent .safe, ⟨0, false⟩⟩ : HoldEntry).kind = .fault .silent .safe
    ∧ (let q := running.kiln 3
       q.state = .running ∧ q.setpoints = some ⟨600, 520⟩ ∧ q.stepCopy = some steps[0] ∧ q.position = some ⟨0, 10⟩
         ∧ q.silence + 1 < q.written.silenceMinutes ∧ 10 < 65535
         ∧ ({ q.ageChannels with position := some ⟨0, 11⟩ } : Kiln).exitReason = none ∧ q.countdown ≠ 1
         ∧ q.channels.toList.any channelLost = false) := by decide +kernel

/-- Minutes in which the silence reaches its limit, a step ends, a value is lost by age, and the countdown stands at 1; and latches
that clear themselves and that stay. -/
theorem witness_KilnMinuteRunsItsParts_detections :
    let silent := holding { kiln .running with silence := 4 } (charge .drying)
    let ending : Kiln := { kiln .running with position := some ⟨0, 60⟩ }
    let drifting := holding { kiln .running with countdown := 1, lastGood := some ⟨500, 520⟩ } (charge .drying)
    let latched (n : Nat) := holding { kiln .running with latches := ⟨some .none, none, none, some .hold⟩, silence := n } (charge .drying)
    let ageing (n : Nat) := holding { kiln .running with
      channels := Vector.replicate 12 (some ⟨120, .none, n⟩), targets := some ⟨600, 520⟩ } (charge .drying)
    ((silent.kiln 3).written.silenceMinutes ≤ min 255 ((silent.kiln 3).silence + 1)
        ∧ ((after (.kilnMinuteExpiry 3) silent).kiln 3).latches.silent = some .safe
        ∧ ((after (.kilnMinuteExpiry 3) silent).kiln 3).state = .held)
    ∧ (ending.exitReason = some .time
        ∧ ((after (.kilnMinuteExpiry 3) (holding { kiln .running with position := some ⟨0, 59⟩ } (charge .drying))).kiln 3).position
          = some ⟨1, 0⟩)
    ∧ (((after (.kilnMinuteExpiry 3) (ageing 29)).kiln 3).channels = Vector.replicate 12 none
        ∧ ((after (.kilnMinuteExpiry 3) (ageing 28)).kiln 3).channels = Vector.replicate 12 (some ⟨120, .none, 29⟩)
        ∧ ((ageing 29).kiln 3).targets = some ⟨600, 520⟩)
    ∧ ((drifting.kiln 3).countdown = 1 ∧ ((after (.kilnMinuteExpiry 3) drifting).kiln 3).latches.deviation = some .none)
    ∧ (((latched 0).kiln 3).latches.get .silent = some .none ∧ (latched 0).condition 3 .silent = false
        ∧ (latched 5).condition 3 .silent = true ∧ ((latched 0).kiln 3).latches.get .supervisor ≠ some .none)
    ∧ ((held.kiln 3).setpoints = some ⟨600, 520⟩ ∧ (⟨.schedule, ⟨0, false⟩⟩ : HoldEntry).kind = .schedule
        ∧ (⟨.fault .range .hold, ⟨0, false⟩⟩ : HoldEntry).kind = .fault .range .hold) := by decide +kernel

/-- A step that leads on, the last step, and a changed schedule that the charge does not follow and that it follows. -/
theorem witness_StepExitsLeadOn :
    (running.kiln 3).position = some ⟨0, 10⟩ ∧ running.kilnCharge 3 = some (charge .drying) ∧ (charge .drying).state = .drying
    ∧ (charge .drying).generation = running.directory[(charge .drying).entry].generation
    ∧ ((1 : Fin 24).val = 0 + 1 ∧ 0 + 1 < running.directory[(charge .drying).entry].header.count)
    ∧ (let s := holding { kiln .running with position := some ⟨1, 10⟩ } (charge .drying)
       (s.kiln 3).position = some ⟨1, 10⟩ ∧ s.kilnCharge 3 = some (charge .drying)
         ∧ s.directory[(charge .drying).entry].header.count ≤ 1 + 1)
    ∧ (let s := holding (kiln .running) { charge .drying with generation := 4 }
       s.kilnCharge 3 = some { charge .drying with generation := 4 } ∧ ¬ (4 = s.directory[2].generation ∨ (charge .drying).follow = true))
    ∧ (let s := holding (kiln .running) { charge .drying with generation := 4, follow := true }
       s.kilnCharge 3 = some { charge .drying with generation := 4, follow := true } ∧ 4 ≠ s.directory[2].generation)
    := by decide +kernel

theorem witness_UnloadEmptiesTheKiln :
    stopped.Ready 9 .unload ∧ running.Ready 9 .unload ∧ 15 < u8 [16] 0 ∧ u8 [3] 0 = (3 : KilnId).val ∧ (running.kiln 3).state = .running
    ∧ ((stopped.kiln 3).charge = some 7 ∧ stopped.charge? 7 = some (charge .drying) ∧ (stopped.kiln 3).state = .stopped)
    ∧ (let s := holding (kiln .loaded) (charge .loaded)
       s.Ready 9 .unload ∧ s.charge? 7 = some (charge .loaded) ∧ (s.kiln 3).state = .loaded)
    ∧ (let s := holding (kiln .done) (charge .dried)
       s.Ready 9 .unload ∧ s.charge? 7 = some (charge .dried) ∧ (s.kiln 3).state = .done) := by
  unfold State.Ready; decide +kernel

theorem witness_ReadKilnShowsItsPages :
    held.Ready 9 .readKiln ∧ mill.Ready 9 .readKiln ∧ 2 < u8 [15, 3] 1 ∧ u8 [15, 2] 0 = (15 : KilnId).val ∧ u8 [3, 0] 1 = 0
    ∧ ((held.kiln 3).state ≠ .idle ∧ (held.kiln 3).charge = some 7 ∧ held.charge? 7 = some (charge .drying)
        ∧ (held.kiln 3).position = some ⟨0, 10⟩)
    ∧ ((mill.kiln 3).state = .idle ∧ (mill.kiln 3).charge = none ∧ (mill.kiln 3).position = none)
    ∧ (held.kiln 3).stack.reverse[0]? = some ⟨.override 700 650 10 10, ⟨0, false⟩⟩ ∧ (held.kiln 3).stack.length ≤ 1
    ∧ (let s := holding { kiln .held with
         stack := [⟨.fault .supervisor .hold, ⟨258, true⟩⟩, ⟨.schedule, ⟨0, false⟩⟩], entryPending := true
         latches := ⟨none, none, none, some .hold⟩ } (charge .drying)
       s.Ready 9 .readKiln ∧ (reply (.readKiln 9 .a 7 [3, 2]) s).drop 3 =
         [2] ++ [3, 0, 0, 0, 0, 0, 0, 0, 0, 0, 0] ++ [2, 0, 3, 0, 1, 0, 0, 0, 0, 1, 2] ++ List.replicate 22 0
           ++ [2, 255, 255, 255, 1, 128]) := by
  unfold State.Ready; decide +kernel

theorem witness_OverridePushesAnEntry :
    let full := holding { kiln .held with stack := List.replicate 4 ⟨.override 700 650 10 10, ⟨0, false⟩⟩ } (charge .drying)
    running.Ready 9 .override ∧ stopped.Ready 9 .override ∧ full.Ready 9 .override ∧ 15 < u8 [16, 0, 0, 0, 0, 0, 0] 0
    ∧ ([3, 0, 0, 0, 0, 1, 50] : List Byte).length = 7 ∧ u8 [3, 0, 0, 0, 0, 1, 50] 0 = (3 : KilnId).val
    ∧ ((stopped.kiln 3).state ≠ .running ∧ (stopped.kiln 3).state ≠ .held)
    ∧ ((full.kiln 3).state = .held ∧ 4 ≤ (full.kiln 3).stack.length)
    ∧ ((running.kiln 3).state = .running ∧ (running.kiln 3).stack.length < 4 ∧ running.kilnCharge 3 = some (charge .drying)) := by
  unfold State.Ready; decide +kernel

/-- The stack tops RESUME meets: an override, a fault whose condition is present or has passed, and a schedule entry. -/
theorem witness_ResumePopsTheTop :
    let stamp : Stamp := ⟨0, false⟩
    let s (stack : List HoldEntry) (i : Nat) (silence : Nat) : State := holding
      { kiln .held with
        stack := stack, position := some ⟨i, 10⟩, silence := silence, latches := ⟨some .safe, none, none, none⟩ } (charge .drying)
    running.Ready 9 .resume ∧ (∀ i < 3, (s [⟨.schedule, stamp⟩] i 0).Ready 9 .resume) ∧ (s [⟨.fault .silent .safe, stamp⟩] 0 5).Ready 9 .resume
    ∧ 15 < u8 [16] 0 ∧ u8 [3] 0 = (3 : KilnId).val ∧ (running.kiln 3).stack = []
    ∧ (((s [⟨.fault .silent .safe, stamp⟩] 0 5).kiln 3).stack = [⟨.fault .silent .safe, stamp⟩]
        ∧ (s [⟨.fault .silent .safe, stamp⟩] 0 5).condition 3 .silent = true
        ∧ (s [⟨.fault .silent .safe, stamp⟩] 0 4).condition 3 .silent = false ∧ ((s [⟨.fault .silent .safe, stamp⟩] 0 4).kiln 3).state = .held)
    ∧ ((held.kiln 3).stack = ⟨.override 700 650 10 10, ⟨0, false⟩⟩ :: [] ∧ (held.kiln 3).state = .held)
    ∧ (((s [⟨.schedule, stamp⟩] 1 0).kiln 3).position = some ⟨1, 10⟩ ∧ (s [⟨.schedule, stamp⟩] 1 0).kilnCharge 3 = some (charge .drying)
        ∧ (1 : Fin 24).val < mill.directory[(charge .drying).entry].header.count
        ∧ mill.directory[(charge .drying).entry].header.count ≤ 2) := by
  unfold State.Ready; decide +kernel

theorem witness_StopKeepsTheContext :
    held.Ready 9 .stop ∧ stopped.Ready 9 .stop ∧ 15 < u8 [16] 0 ∧ u8 [3] 0 = (3 : KilnId).val
    ∧ ((stopped.kiln 3).state ≠ .running ∧ (stopped.kiln 3).state ≠ .held)
    ∧ ((held.kiln 3).state = .held ∧ (held.kiln 3).position = some ⟨0, 10⟩ ∧ (held.kiln 3).setpoints = some ⟨600, 520⟩) := by
  unfold State.Ready; decide +kernel

/-- A stopped kiln without latches, with one whose condition is present, with one whose condition has passed, with an entry
pending, and with one past the end. -/
theorem witness_RestartReturnsToTheSchedule :
    let latched := holding { kiln .stopped with latches := ⟨some .safe, none, none, none⟩, silence := 5 } (charge .drying)
    let passed := holding { kiln .stopped with latches := ⟨some .safe, none, none, none⟩ } (charge .drying)
    let waiting (i : Nat) := holding { kiln .stopped with entryPending := true, position := some ⟨i, 10⟩ } (charge .drying)
    stopped.Ready 9 .restart ∧ latched.Ready 9 .restart ∧ (waiting 1).Ready 9 .restart ∧ (waiting 2).Ready 9 .restart
    ∧ 15 < u8 [16] 0 ∧ u8 [3] 0 = (3 : KilnId).val ∧ (running.kiln 3).state ≠ .stopped
    ∧ ((latched.kiln 3).state = .stopped ∧ (latched.kiln 3).latches.get .silent ≠ none ∧ latched.condition 3 .silent = true)
    ∧ ({ kiln .stopped with targets := some ⟨650, 520⟩ } : Kiln).targets = some ⟨650, 520⟩
    ∧ (passed.Ready 9 .restart ∧ (passed.kiln 3).latches = ⟨some .safe, none, none, none⟩ ∧ passed.condition 3 .silent = false)
    ∧ ((stopped.kiln 3).state = .stopped ∧ (stopped.kiln 3).latches = ⟨none, none, none, none⟩ ∧ (stopped.kiln 3).position = some ⟨0, 10⟩
        ∧ (stopped.kiln 3).entryPending = false)
    ∧ (((waiting 1).kiln 3).entryPending = true ∧ (waiting 1).kilnCharge 3 = some (charge .drying)
        ∧ 1 < mill.directory[(charge .drying).entry].header.count ∧ mill.directory[(charge .drying).entry].header.count ≤ 2) := by
  unfold State.Ready; decide +kernel

theorem witness_WriteFaultActionsReplacesTheRow :
    mill.Ready 9 .writeFaultActions ∧ mill.Ready 9 .readEntry ∧ 3 < u8 [15, 3, 3, 3, 4] 4
    ∧ (let a : List Byte := [15, 0, 1, 2, 3]
       a.length = 5 ∧ u8 a 0 = (15 : KilnId).val ∧ u8 a 1 = FaultAction.none.code ∧ u8 a 2 = FaultAction.hold.code
         ∧ u8 a 3 = FaultAction.safe.code ∧ u8 a 4 = FaultAction.shutdown.code) := by
  unfold State.Ready; decide +kernel

theorem witness_DetectionsLatchAndAct :
    let full := holding { kiln .held with stack := List.replicate 4 ⟨.override 700 650 10 10, ⟨0, false⟩⟩ } (charge .drying)
    let acting (x : FaultAction) := holding { kiln .running with actions := ⟨x, x, x, x⟩ } (charge .drying)
    (running.kiln 3).latches.get .silent = none ∧ (mill.kiln 3).state = .idle
    ∧ ({ kiln .running with latches := ⟨some .none, none, none, none⟩ } : Kiln).latches.get .silent ≠ none
    ∧ ((acting .none).kiln 3).actions.get .range = .none ∧ ((acting .shutdown).kiln 3).actions.get .range = .shutdown
    ∧ ((running.kiln 3).actions.get .silent = .safe ∧ (running.kiln 3).state = .running ∧ (running.kiln 3).stack.length < 4)
    ∧ ((full.kiln 3).actions.get .range = .hold ∧ (full.kiln 3).state = .held ∧ 4 ≤ (full.kiln 3).stack.length)
    ∧ ((stopped.kiln 3).state = .stopped ∧ ({ kiln .stopped with reported := ⟨true, false, false, false⟩ } : Kiln).reported.get .silent = true)
    ∧ ((held.kiln 3).latches.get .silent = none ∧ (held.kiln 3).actions.get .silent = .safe ∧ (held.kiln 3).stack.length < 4)
    ∧ (running.kilnCharge 3 = some (charge .drying) ∧ (running.kiln 3).position = some ⟨0, 10⟩ ∧ (full.kiln 3).position = some ⟨0, 10⟩)
    ∧ ((stopped.kiln 3).latches.get .silent = none ∧ (stopped.kiln 3).reported.get .silent = false) := by decide +kernel

theorem witness_FaultOutputFollowsTheLatches :
    (stopped.kiln 3).state = .stopped
    ∧ ((holding { kiln .running with latches := ⟨none, none, some .shutdown, none⟩ } (charge .drying)).kiln 3).latches.get .deviation
        = some .shutdown := by decide +kernel

/-- A charge on the infeed, one stored, one that cannot be fed, and the last reference of a planed record. -/
theorem witness_ChargesMoveAndClose :
    let planing : State := { stored with
      charges := (stored.charges.set 0 { charge .planing with refs := 1 }).set 1 { charge .stored with number := 8 }
      line := { stored.line with infeed := some 7 } }
    let planed : State := { stored with charges := stored.charges.set 0 { charge .planed with refs := 1 } }
    stored.Ready 9 .planerFeed ∧ planing.Ready 9 .planerFeed ∧ running.Ready 9 .planerFeed ∧ ([7] : List Byte).length ≠ 2
    ∧ ([0, 8] : List Byte).length = 2 ∧ u16 [0, 0] 0 = 0 ∧ u16 [0, 8] 0 ≠ 0
    ∧ stored.charge? 8 = none ∧ (running.charge? 7 = some (charge .drying) ∧ (charge .drying).state ≠ .stored)
    ∧ (planing.line.infeed = some 7 ∧ planing.charge? 7 = some { charge .planing with refs := 1 }
        ∧ planing.charge? 8 = some { charge .stored with number := 8 } ∧ planing.line.infeed ≠ some (u16 [0, 8] 0))
    ∧ (stored.Ready 9 .releaseCharge ∧ running.Ready 9 .releaseCharge ∧ planed.Ready 9 .releaseCharge ∧ stored.findLive 8 = none
        ∧ stored.findLive 7 = some 0 ∧ stored.charges[0].state = .stored ∧ stored.charges[0].refs = 0
        ∧ running.charges[0].state = .drying ∧ planed.charges[0].state = .planed ∧ planed.charges[0].refs ≠ 0)
    ∧ (planed.findLive 7 = some 0 ∧ planed.charges[0].refs = 1) := by
  unfold State.Ready; decide +kernel

/-- The four turns of the encoder, and boards at, before and past the mark point at the head of the line. -/
theorem witness_EncoderCountsMoveTheBoards :
    let s := line [{ board with leading := 1 - 4000 }, { board with leading := 2 - 4000 }]
    countDirection s.line.encA s.line.encB true false = some .forward ∧ countDirection s.line.encA s.line.encB false true = some .backward
    ∧ s.line.queue = { board with leading := 1 - 4000 } :: [{ board with leading := 2 - 4000 }]
    ∧ (Direction.forward.move s.line.position - (1 - 4000 : Position)).toInt = s.line.settings.markDistance
    ∧ (Direction.forward.move s.line.position - (2 - 4000 : Position)).toInt < s.line.settings.markDistance
    ∧ (s.line.settings.markDistance : Int) < s.line.settings.stackerDistance := by decide +kernel

theorem witness_EyeEdgesOpenAndCloseBoards :
    let early (x : EdgePolicy) : State := { line [board] with line := { (line [board]).line with
      lastLeading := some (0 - 199), lastOpened := some 4, settings := { policy := x } } }
    let full := line (List.replicate 64 board)
    (mill.line.eyeBlocked = false ∧ mill.line.direction = .forward ∧ mill.line.lastLeading = none)
    ∧ (((early .merge).line.position - (0 - 199 : Position)).toInt < ((early .merge).line.settings.minSpacing : Int)
        ∧ (early .merge).line.settings.policy = .merge ∧ (early .split).line.settings.policy = .split)
    ∧ (line (List.replicate 63 board)).line.queue.length < 64 ∧ full.line.queue.length = 64
    ∧ (full.line.lostNotice = false ∧ (after .leadingEdge full).line.lostNotice = true)
    ∧ (let s : State := { mill with line := { mill.line with eyeBlocked := true, direction := .backward } }
       s.line.eyeBlocked = true ∧ s.line.direction = .backward)
    ∧ (let s := after .leadingEdge (line [board])
       s.line.eyeBlocked = true ∧ s.line.direction = .forward ∧ s.line.queue = [board] ++ { board with serial := 5, state := .inView } :: []
         ∧ ∀ x ∈ [board], x.state ≠ .inView) := by decide +kernel

theorem witness_ScansPairBoards :
    let s (e : Option Byte) : State := { line [board, { board with serial := 5 }] with
      line := { (line [board, { board with serial := 5 }]).line with expected := e } }
    let distance (t : State) (q : Byte) : Nat := (q - t.line.expected.getD q).toNat
    16 ≤ distance (s (some 40)) 56 ∧ distance (s (some 40)) 55 ≤ 15 ∧ distance (s none) 55 ≤ 15 ∧ distance (s (some 250)) 0 ≤ 15
    ∧ (s none).line.queue[1]? = some { board with serial := 5 } ∧ ((s none).line.queue.take 1).countP (fun b => b.state == .awaitRead) = 1
    ∧ ({ board with split := true } : Board).split = true ∧ board.split = false
    ∧ (([none, some ⟨80, .none⟩] : List (Option Corrected)).filterMap id ≠ [] ∧ ([none] : List (Option Corrected)).filterMap id = [])
    ∧ (79 < 80 ∧ 80 ≤ 190 ∧ 190 < 191 ∧ 230 ≤ 230 ∧ 230 < 231) := by decide +kernel

theorem witness_DeparturesAndTheLineHold :
    let s : State := { stored with
      charges := stored.charges.set 0 { charge .planed with refs := 1 }
      line := { stored.line with queue := [{ board with charge := some 7 }, board] } }
    s.line.queue = { board with charge := some 7 } :: [board] ∧ s.charge? 7 = some { charge .planed with refs := 1 }
    ∧ (line [board]).line.queue = board :: [] ∧ board.charge = none ∧ board.state = .awaitRead ∧ ({ board with state := .read } : Board).state = .read
    ∧ 56 ≤ (line (List.replicate 56 board)).line.queue.length
    ∧ (let t : State := { line (List.replicate 48 board) with line := { (line (List.replicate 48 board)).line with holdAsserted := true } }
       t.line.holdAsserted = true ∧ t.line.queue.length ≤ 48 ∧ t.labels.queue.length ≤ 4) := by decide +kernel

/-- A count at which the two boards at the head depart and the third, which has not reached its stacker point, stays. -/
theorem witness_DeparturesAndTheLineHold_count :
    let there : Board := { board with leading := 1 - 12000 }
    let s := line [there, { board with reachedStacker := true }, { board with leading := 2 - 12000 }, there]
    countDirection s.line.encA s.line.encB true false = some .forward
    ∧ (s.line.settings.stackerDistance : Int) ≤ (Direction.forward.move s.line.position - there.leading).toInt
    ∧ (Direction.forward.move s.line.position - (2 - 12000 : Position)).toInt < (s.line.settings.stackerDistance : Int)
    ∧ (after (.encoderCount true false) s).line.queue.length = 2 := by decide +kernel

theorem witness_LineResetDiscardsTheBoards :
    (line [board]).Ready 9 .lineReset ∧ ([0] : List Byte) ≠ []
    ∧ ((line [board]).labels.queue.length ≤ 4
        ∧ (line [board]).labels.queue.length + (line [board]).bins.toList.countP (fun b => b.pack.isSome) < 7)
    ∧ (after (.lineReset 9 .a 7 []) { line [board] with labels := { mill.labels with
        queue := List.replicate 7 ⟨1, 0, []⟩, head := some .waiting } }).labels.queue.length = 7
    ∧ (let s (n : Nat) : State := { stored with
         charges := stored.charges.set 0 { charge .planed with refs := n }
         line := { stored.line with queue := [{ board with charge := some 7 }, board] }
         bins := packing.bins.set 3 ⟨2, .normal, 1, some { pack with charges := [none, some 7] }⟩ }
       (s 2).Ready 9 .lineReset ∧ (s 2).findLive 7 = some 0 ∧ (s 2).charges[0].state = .planed ∧ (s 2).charges[1].state = .closed
         ∧ ((s 2).line.queue.countP (fun b => b.charge == some 7) = 1
           ∧ ((s 2).bins.toList.map (fun b => (b.pack.elim [] Pack.charges).count (some 7))).sum = 1)
         ∧ (1 ≤ (s 2).charges[0].refs ∧ (s 2).charges[0].refs ≤ 2) ∧ ¬ (s 3).charges[0].refs ≤ 2) := by
  unfold State.Ready; decide +kernel

theorem witness_WriteLineAndMarkReplaceSettings :
    let a (mark stacker overdry wet redry : Nat) : List Byte :=
      [0, 200, 0] ++ be24 mark ++ be24 stacker ++ [15, 15] ++ be16 overdry ++ be16 wet ++ be16 redry ++ [20]
    let ok := a 4000 12000 80 190 190
    mill.Ready 9 .writeLine ∧ (line [board]).Ready 9 .writeLine ∧ mill.Ready 9 .writeMark
    ∧ (ok.length = 18 ∧ u8 ok 2 = EdgePolicy.split.code ∧ u8 ok 9 = (15 : Fin 16).val ∧ u8 ok 10 = (15 : Fin 16).val
        ∧ max 1 (min 4194304 (u24 ok 3)) < max 1 (min 4194304 (u24 ok 6)) ∧ min 600 (u16 ok 11) < min 600 (u16 ok 13)
        ∧ min 600 (u16 ok 13) ≤ min 600 (u16 ok 15))
    ∧ max 1 (min 4194304 (u24 (a 4000 4000 80 190 190) 6)) ≤ max 1 (min 4194304 (u24 (a 4000 4000 80 190 190) 3))
    ∧ min 600 (u16 (a 1 2 80 80 190) 13) ≤ min 600 (u16 (a 1 2 80 80 190) 11)
    ∧ min 600 (u16 (a 1 2 80 191 190) 15) < min 600 (u16 (a 1 2 80 191 190) 13)
    ∧ (line [board]).line.queue ≠ [] ∧ mill.line.queue = [] ∧ (line [board]).line.settings.markDistance = 4000
    ∧ (([5, 15, 0, 0, 0, 0] : List Byte).length = 6 ∧ u8 [5, 15, 0, 0, 0, 0] 0 = (5 : Fin 6).val ∧ 5 < u8 [6] 0) := by
  unfold State.Ready; decide +kernel

theorem witness_SortBinAndPackBaseAreWritten :
    mill.Ready 9 .writeSort ∧ mill.Ready 9 .writeBin ∧ mill.Ready 9 .setPackBase
    ∧ (let a : List Byte := [15, 0xFF, 15, 15, 0, 10, 0, 10, 15]
       a.length = 9 ∧ u8 a 0 = (15 : Fin 16).val ∧ BitVec.ofNat 5 (u8 a 1) ≠ 0 ∧ u8 a 8 = (15 : Fin 16).val
         ∧ min 15 (u8 a 2) ≤ min 15 (u8 a 3) ∧ u16 a 4 ≤ u16 a 6)
    ∧ BitVec.ofNat 5 (u8 [15, 0xE0] 1) = 0 ∧ 15 < u8 [0, 1, 0, 0, 0, 0, 0, 0, 16] 8
    ∧ (([15, 1, 0xF4, 1] : List Byte).length = 4 ∧ u8 [15, 1, 0xF4, 1] 0 = (15 : Fin 16).val ∧ u8 [15, 1, 0xF4, 1] 3 = PackKind.redry.code
        ∧ 1 < u8 [15, 1, 0xF4, 2] 3)
    ∧ (u32 [0, 0, 0, 0] 0 = 0 ∧ ([255, 255, 255, 255] : List Byte).length = 4 ∧ u32 [255, 255, 255, 255] 0 ≠ 0) := by
  unfold State.Ready; decide +kernel

/-- A matching entry at index 15, none, and packs that open, fill, reach their count and meet a fifth charge. -/
theorem witness_BoardsAreSortedIntoPacks :
    let e : SortEntry := ⟨1, 0, 15, 0, 65535, 4⟩
    let s : State := { mill with sortList := mill.sortList.set 15 e }
    let mixed : Pack := { pack with charges := [none, some 1, some 2, some 3], countdown := 2 }
    let b : Board := { board with cls := some .noRead, charge := some 7 }
    (b.cls = some .noRead ∧ b.long = false ∧ ({ b with long := true } : Board).long = true ∧ b.scan = none)
    ∧ (s.sortList[15].mask.getLsbD MoistureClass.noRead.code = true ∧ ∀ j : Fin 16, j < 15 → s.sortList[j].mask.getLsbD MoistureClass.noRead.code = false)
    ∧ (mill.bins[0].pack = none ∧ mill.bins[0].target = 0)
    ∧ (mill.bins.set 0 ⟨2, .normal, 0, none⟩)[0].target = 2
    ∧ (packing.bins[2].pack = some pack ∧ none ∈ pack.charges ∧ pack.countdown = 1 ∧ pack.charges.length < 4)
    ∧ 2 ≤ mixed.countdown ∧ (some 7 ∉ mixed.charges ∧ 4 ≤ mixed.charges.length ∧ 2 ≤ packing.bins[2].target)
    ∧ (let one := mill.bins.set 0 ⟨1, .normal, 0, none⟩
       one[0].pack = none ∧ one[0].target = 1)
    ∧ (let s : State := { packing with bins := packing.bins.set 2 ⟨0, .normal, 1, some mixed⟩ }
       s.bins[2].pack = some mixed ∧ some 7 ∉ mixed.charges ∧ 4 ≤ mixed.charges.length ∧ s.bins[2].target = 0)
    ∧ (({ pack with grades := some ⟨2, 4⟩, lengths := some ⟨90, 90⟩ } : Pack).grades = some ⟨2, 4⟩ ∧ pack.lengths = none)
    ∧ (({ b with scan := some ⟨0, 3, 100, 0⟩ } : Board).scan = some ⟨0, 3, 100, 0⟩ ∧ pack.grades = none) := by decide +kernel

theorem witness_ClosePackRecordsThePack :
    packing.Ready 9 .closePack ∧ 15 < u8 [16] 0 ∧ u8 [2] 0 = (2 : Fin 16).val ∧ packing.bins[2].pack = some pack ∧ mill.bins[2].pack = none
    ∧ mill.Ready 9 .closePack ∧ packing.labels.queue.length < 8 ∧ 8 ≤ (List.replicate 8 (⟨1, 0, []⟩ : Label)).length
    ∧ ({ pack with kind := .redry } : Pack).kind = .redry ∧ pack.kind = .normal ∧ packing.lots.length < 32
    ∧ 32 ≤ (List.replicate 32 (⟨1, 0, 1, none, []⟩ : Lot)).length
    ∧ (packing.labels.queue = [] ∧ printing.labels.queue ≠ [])
    ∧ (let s : State := { stored with charges := stored.charges.set 0 { charge .planed with refs := 1 } }
       let k : Pack := { pack with charges := [none, some 7] }
       s.findLive 7 = some 0 ∧ s.charges[0].refs ≤ k.charges.count (some 7) ∧ k.charges = [none] ++ some 7 :: []
         ∧ s.charge? 7 = some { charge .planed with refs := 1 } ∧ ∀ c ∈ pack.charges, c = none) := by
  unfold State.Ready; decide +kernel

/-- A charge that is live, one that is not found, and a closed one taken from the reuse order. -/
theorem witness_ReadsShowTheRecords :
    let lots : State := { mill with lots := [⟨2051, 1, 4, some 248, [311]⟩] }
    let closed : State := { mill with charges := mill.charges.set 1 { charge .closed with closedStamp := some ⟨5, true⟩ } }
    (running.Ready 9 .readCharge ∧ mill.Ready 9 .readCharge ∧ closed.Ready 9 .readCharge ∧ u16 [0, 0, 0] 0 = 0 ∧ 4 < u8 [0, 7, 5] 2
      ∧ u16 [0, 7, 4] 0 ≠ 0 ∧ u8 [0, 7, 4] 2 ≤ 4 ∧ u8 [0, 7, 0] 2 = 0 ∧ u8 [0, 7, 1] 2 ≠ 0 ∧ u8 [0, 7, 3] 2 ≤ 3 ∧ running.charge? 7 = some (charge .drying) ∧ mill.charge? 7 = none
      ∧ (∀ i ∈ mill.reuse, mill.charges[i].number ≠ 7)
      ∧ (closed.charge? 7 = none ∧ closed.reuse = [0] ++ 1 :: closed.reuse.drop 2 ∧ closed.charges[1].number = 7
          ∧ closed.charges[1].closedStamp = some ⟨5, true⟩ ∧ ∀ j ∈ closed.reuse.drop 2, closed.charges[j].number ≠ 7))
    ∧ (lots.Ready 9 .readLot ∧ (([0, 0] : List Byte).length ≠ 1 ∧ ([0, 0] : List Byte).length ≠ 4) ∧ 31 < u8 [32] 0
        ∧ (∀ l ∈ lots.lots, l.id.toNat ≠ u32 [0, 0, 8, 4] 0) ∧ lots.lots = [] ++ ⟨2051, 1, 4, some 248, [311]⟩ :: []
        ∧ (2051 : Word).toNat = u32 [0, 0, 8, 3] 0 ∧ lots.lots[u8 [31] 0]? = none ∧ lots.lots[u8 [0] 0]? = some ⟨2051, 1, 4, some 248, [311]⟩)
    ∧ (printing.Ready 9 .readPackLog ∧ 63 < u8 [64] 0 ∧ printing.packLog.length ≤ u8 [63] 0
        ∧ printing.packLog.reverse[u8 [0] 0]? = some ⟨{ pack with count := 2 }, 2, .countReached, .pending, false, ⟨0, false⟩⟩)
    ∧ ((line [board]).Ready 9 .readLine ∧ 2 < u8 [3, 0] 0 ∧ 63 < u8 [2, 64] 1 ∧ (line [board]).line.queue[u8 [2, 63] 1]? = none
        ∧ (line [board]).line.queue[u8 [2, 0] 1]? = some board) := by
  unfold State.Ready
  refine ⟨?_, ?_, ?_, ?_⟩ <;> decide +kernel

theorem witness_LabelFieldsAreWrittenAndRendered :
    mill.Ready 9 .writeLabelField ∧ ([15, 255, 0, 0] : List Byte).length < 5 ∧ 21 < (List.replicate 22 (0 : Byte)).length
    ∧ (([15, 255, 8, 40, 0] : List Byte).length = 5 ∧ u8 [15, 255, 8, 40, 0] 0 = (15 : Fin 16).val ∧ u8 [15, 255, 8, 40, 0] 1 = 255)
    ∧ (let a : List Byte := [0, 15, 7, 39, 40] ++ List.replicate 16 0x7E
       a.length ≤ 21 ∧ u8 a 0 = (0 : Fin 16).val ∧ u8 a 1 = FieldKind.text.code ∧ u8 a 2 ≤ 7 ∧ u8 a 3 ≤ 39
         ∧ ∀ b ∈ a.drop 5, 0x20 ≤ b.toNat ∧ b.toNat ≤ 0x7E)
    ∧ (∀ b ∈ ([0, 15, 7, 39, 40, 0x20] : List Byte).drop 5, 0x20 ≤ b.toNat) ∧ ¬ 0x20 ≤ (0x1F : Byte).toNat
    ∧ (∀ f, some f ∈ mill.labels.layout.toList → f.row ≤ 7 ∧ f.column ≤ 39)
    ∧ ([0x31, 0x32] : List Byte).length ≤ 2 ∧ 1 < ([0x31, 0x32] : List Byte).length := by
  unfold State.Ready
  refine ⟨by decide +kernel, by decide, by decide, by decide, by decide +kernel, by decide, by decide, ?_, by decide, by decide⟩
  intro f hf
  exact absurd hf (by simp [mill, State.reset, State.afterReset])

/-- A pack with every figure, one with none, and charges whose drying ended at a SET time, the latest of two, and at none. -/
theorem witness_LabelFieldsAreWrittenAndRendered_values :
    let k : Pack := { pack with
      mcSum := 299, reads := 2, mcMin := some 100, mcMax := some 199, grades := some ⟨3, 3⟩, lengths := some ⟨90, 100⟩
      charges := [some 7, none, some 8] }
    let s : State := { stored with charges := (stored.charges.set 0 { charge .stored with dryEndStamp := some ⟨1500, true⟩ }).set 1 { charge .stored with
      number := 8, dryEndStamp := some ⟨1501, true⟩ } }
    let dried (t : State) : List Stamp := ((k.charges.filterMap id).filterMap t.charge?).filterMap Charge.dryEndStamp
    (pack.grades = none ∧ pack.lengths = none ∧ pack.reads = 0 ∧ pack.mcMax = none ∧ pack.mcMin = none)
    ∧ (k.grades = some ⟨3, 3⟩ ∧ k.lengths = some ⟨90, 100⟩ ∧ k.reads ≠ 0 ∧ k.mcSum < 10000000000 ∧ k.count < 10000000000
        ∧ k.mcMax = some 199 ∧ k.mcMin = some 100 ∧ ∀ n, some n ∈ k.charges → n < 10000000000)
    ∧ (dried stored = [] ∧ (⟨1501, true⟩ : Stamp) ∈ dried s ∧ ∀ y ∈ dried s, (⟨1501, true⟩ : Stamp).older y = false)
    ∧ s.fieldValue k 2 .chargeMix ⟨.dryEnd, 0, 0, 9, []⟩ = .number ("D1 01:01".toList.map (fun c => BitVec.ofNat 8 c.toNat))
    ∧ s.fieldValue k 2 .chargeMix ⟨.mcMean, 0, 0, 9, []⟩ = .number ("15.0".toList.map (fun c => BitVec.ofNat 8 c.toNat)) := by
  refine ⟨by decide +kernel, ⟨rfl, rfl, by decide, by decide, by decide, rfl, rfl, ?_⟩, by decide +kernel, by decide +kernel, by decide +kernel⟩
  intro n h
  have h' : n = 7 ∨ n = 8 := by simpa using h
  omega

theorem witness_HeadLabelsAreFinished :
    (printing.labels.queue = ⟨9, 2, List.replicate 8 (List.replicate 40 0x20)⟩ :: [] ∧ printing.labels.head = some .awaitPrint
      ∧ (9 : Word).toNat = u32 [0, 0, 0, 9, 0] 0 ∧ u8 [0, 0, 0, 9, 0] 4 = 0 ∧ u8 [0, 0, 0, 9, 255] 4 ≠ 0)
    ∧ mill.labels.head ≠ some .awaitPrint
    ∧ (printing.packLog = [] ++ ⟨{ pack with count := 2 }, 2, .countReached, .pending, false, ⟨0, false⟩⟩ :: [] ∧ pack.number = 9
        ∧ ∀ e ∈ mill.packLog, ¬ e.outcome = .pending)
    ∧ (mill.labels.queue = [] ∧ printing.labels.queue ≠ [] ∧ printing.holder .printer ≠ none
        ∧ ({ printing with stations := printing.stations.set 23 ⟨.none, .b, 0, false⟩ } : State).holder .printer = none) := by
  decide +kernel

/-- One request of each kind of frame, each answered with a next state. -/
theorem witness_frames :
    held.Ready 9 .resume ∧ requestOfCommand (.resume 9 .a 7 [3]) = some (requestFor .resume 9 .a 7 [3])
    ∧ exec (.resume 9 .a 7 [3]) held = .next (after (.resume 9 .a 7 [3]) held)
    ∧ exec .leadingEdge mill = .next (after .leadingEdge mill)
    ∧ exec (.kilnMinuteExpiry 3) running = .next (after (.kilnMinuteExpiry 3) running)
    ∧ exec .editExpiry editing = .next (after .editExpiry editing) := by
  refine ⟨by unfold State.Ready; decide +kernel, rfl, rfl, rfl, rfl, rfl⟩

/-- A kiln held under a fault above an override, with a command waiting. -/
def faulted : State :=
  { holding
      { kiln .held with
        stack := [⟨.fault .silent .safe, ⟨0, false⟩⟩, ⟨.override 700 650 10 10, ⟨0, false⟩⟩]
        latches := ⟨some .safe, none, none, none⟩ } (charge .drying) with
    pending := [.leadingEdge] }

theorem witness_StepsKeepTheBounds : faulted.Bounded ∧ faulted.HoldInBounds ∧ faulted.CommittedLegal ∧ faulted.StagedCountLegal
    ∧ ∃ t, step faulted = .next t := by
  refine ⟨?_, ?_, ?_, ?_, _, rfl⟩
  · unfold State.Bounded Port.Bounded; decide +kernel
  · unfold State.HoldInBounds; decide +kernel
  · unfold State.CommittedLegal; decide +kernel
  · unfold State.StagedCountLegal; decide +kernel

theorem faulted_kiln (k : KilnId) : k ≠ 3 → faulted.kiln k = {} := by revert k; decide +kernel

theorem witness_StepsKeepTheKilnsLegal :
    faulted.HoldsLegal ∧ faulted.KilnsOccupied ∧ faulted.SetpointsLegal := by
  refine ⟨fun k => ?_, fun k => ?_, fun k => ?_⟩ <;> by_cases h : k = 3
  · subst h
    refine ⟨by decide +kernel, by decide +kernel, by decide +kernel, by decide +kernel, fun e he => ?_⟩
    have : e = ⟨.fault .silent .safe, ⟨0, false⟩⟩ ∨ e = ⟨.override 700 650 10 10, ⟨0, false⟩⟩ := by
      have he' : e ∈ [(⟨.fault .silent .safe, ⟨0, false⟩⟩ : HoldEntry), ⟨.override 700 650 10 10, ⟨0, false⟩⟩] := he
      simpa using he'
    rcases this with rfl | rfl
    · exact ⟨rfl, Or.inr rfl⟩
    · trivial
  · rw [faulted_kiln k h]
    exact ⟨by decide, by decide, by decide, by decide, fun e he => absurd he (by simp)⟩
  · subst h; unfold Kiln.Occupied; decide +kernel
  · rw [faulted_kiln k h]; unfold Kiln.Occupied; decide
  · subst h
    exact ⟨by unfold Limits.Legal; decide +kernel, by unfold Limits.Legal; decide +kernel, by decide +kernel,
      fun _ => ⟨⟨600, 520⟩, rfl, by unfold Limits.Admits; decide +kernel⟩⟩
  · rw [faulted_kiln k h]
    exact ⟨by unfold Limits.Legal; decide, by unfold Limits.Legal; decide, by decide, fun hn => absurd rfl hn⟩

theorem faulted_charge (i : Fin 48) : i ≠ 0 → faulted.charges[i] = State.reset.charges[i] := by revert i; decide +kernel

theorem faulted_closed (i : Fin 48) : faulted.charges[i].state ≠ .closed → i = 0 := by revert i; decide +kernel

theorem faulted_pack (b : Fin 16) : faulted.bins[b].pack = none := by revert b; decide +kernel

theorem faulted_planing (i : Fin 48) : faulted.charges[i].state ≠ .planing := by revert i; decide +kernel

/-- The one live record is charge 7's, which its kiln holds and nothing refers to; the entry it is bound to is in use once. -/
theorem witness_StepsKeepTheKilnsLegal_records : faulted.RecordsAgree ∧ faulted.KilnsAgree := by
  have reuse : faulted.reuse.Nodup ∧ ∀ i : Fin 48, i ∈ faulted.reuse ↔ faulted.charges[i].state = .closed := by decide +kernel
  have refs : ∀ i : Fin 48, faulted.charges[i].refs = if faulted.charges[i].state = .closed then 0
      else faulted.boardsOf faulted.charges[i].number + faulted.packsOf faulted.charges[i].number := by decide +kernel
  have boards : ∀ b : Board, b ∉ faulted.line.queue := fun b hb => nomatch hb
  refine ⟨⟨fun i hi => ?_, reuse.1, reuse.2, refs, fun b hb => absurd hb (boards b), fun b p hp => ?_, fun n => ?_⟩,
    fun k hk => ?_, by decide +kernel, by decide +kernel, by decide +kernel⟩
  · rw [faulted_closed i hi]
    exact ⟨by decide +kernel, fun j hj _ => faulted_closed j hj⟩
  · rw [faulted_pack b] at hp
    exact nomatch hp
  · exact ⟨fun h => (nomatch h), fun ⟨i, _, h⟩ => absurd h (faulted_planing i)⟩
  · by_cases h : k = 3
    · subst h
      exact ⟨0, ⟨0, 10⟩, by decide +kernel, by decide +kernel, by decide +kernel, by decide +kernel, by decide +kernel, by decide +kernel,
        by decide +kernel, by decide +kernel, by decide +kernel⟩
    · exact absurd (by rw [faulted_kiln k h]) hk

theorem witness_StepsKeepTheMapLegal :
    ({ State.reset with pending := [.leadingEdge] } : State).MapLegal ∧ ∃ t, step { State.reset with pending := [.leadingEdge] } = .next t := by
  refine ⟨⟨?_, ?_, ?_, ?_⟩, _, rfl⟩
  · intro d e _ h; simp [State.reset, State.afterReset, Role.isUnique] at h
  · intro d e h; simp [State.reset, State.afterReset] at h
  · intro d h; simp [State.reset, State.afterReset] at h
  · rfl

end Sys2Proof.Tests
end

section
/-! PROOFS. Requests (chapter 2): what serving leaves of the request queue, draining, admission, the classes a station has
and the catalogue (R21 to R26), and the statement RequestsAreAdmittedAndJudged. -/

namespace Sys2Proof.Machine

/-! ### Serving leaves the waiting requests as they are -/

@[simp] theorem refuse_st (s : State) (x : Result) : (refuse s x).st = s := rfl

@[simp] theorem okWith_st (s : State) (data : List Byte) : (okWith s data).st = s := rfl

@[simp] theorem okClampedIf_st (c : Bool) (s : State) (data : List Byte) : (okClampedIf c s data).st = s := rfl

theorem State.requests_of_inner {s t : State} (h : t.inner = s.inner) : t.requests = s.requests :=
  (congrArg State.requests h :)

theorem State.requests_of_aside {s t : State} (h : t.aside = s.aside) : t.requests = s.requests :=
  (congrArg State.requests h :)

theorem State.requests_of_beyond {s t : State} (h : t.beyond = s.beyond) : t.requests = s.requests :=
  (congrArg State.requests h :)

@[simp] theorem State.pushHold_requests (m : Bool) (e : HoldKind) (k : KilnId) (s : State) :
    (s.pushHold m e k).requests = s.requests := State.requests_of_aside (State.pushHold_aside m e k s)

@[simp] theorem State.resumeEntry_requests (e : HoldKind) (k : KilnId) (s : State) :
    (s.resumeEntry e k).requests = s.requests := State.requests_of_aside (State.resumeEntry_aside e k s)

@[simp] theorem State.stopKiln_requests (m : Bool) (c : StopCause) (k : KilnId) (s : State) :
    (s.stopKiln m c k).requests = s.requests := State.requests_of_aside (State.stopKiln_aside m c k s)

@[simp] theorem State.restartKiln_requests (k : KilnId) (s : State) : (s.restartKiln k).requests = s.requests :=
  State.requests_of_aside (State.restartKiln_aside k s)

@[simp] theorem State.startKiln_requests (k : KilnId) (p : StepPosition) (s : State) :
    (s.startKiln k p).requests = s.requests := State.requests_of_aside (State.startKiln_aside k p s)

@[simp] theorem State.unloadKiln_requests (k : KilnId) (e : EndReason) (s : State) :
    (s.unloadKiln k e).requests = s.requests := State.requests_of_aside (State.unloadKiln_aside k e s)

@[simp] theorem State.loadCharge_requests (k : KilnId) (d : Fin 32) (g : Fin 16) (i : Fin 48) (args : List Byte)
    (s : State) : (s.loadCharge k d g i args).requests = s.requests :=
  (State.requests_of_aside (State.announceState_aside false k _)).trans rfl

@[simp] theorem State.modCharge_requests (n : Nat) (f : Charge → Charge) (s : State) :
    (s.modCharge n f).requests = s.requests := State.requests_of_aside (State.modCharge_aside n f s)

@[simp] theorem State.leaveInfeed_requests (s : State) : s.leaveInfeed.requests = s.requests := by
  unfold State.leaveInfeed; split <;> simp

@[simp] theorem State.planerFeed_requests (n : Nat) (s : State) : (s.planerFeed n).requests = s.requests := by
  unfold State.planerFeed State.enterInfeed; split <;> simp

@[simp] theorem State.closeRecord_requests (i : Fin 48) (s : State) : (s.closeRecord i).requests = s.requests := rfl

@[simp] theorem State.closePack_requests (b : Fin 16) (p : Pack) (e : CloseReason) (s : State) :
    (s.closePack b p e).requests = s.requests := State.requests_of_beyond (State.closePack_beyond b p e s)

@[simp] theorem State.lineReset_requests (s : State) : s.lineReset.requests = s.requests :=
  State.requests_of_beyond (State.lineReset_beyond s)

@[simp] theorem State.setField_requests (i : Fin 16) (f : Option LabelField) (s : State) :
    (s.setField i f).requests = s.requests := rfl

@[simp] theorem writeField_requests (i : Fin 16) (what : FieldKind) (args : List Byte) (s : State) :
    (writeField i what args s).st.requests = s.requests := by
  fun_cases writeField i what args s <;> simp

@[simp] theorem State.clearPort_requests (p : PortId) (s : State) : (s.clearPort p).requests = s.requests :=
  State.modPort_requests p _ s

@[simp] theorem State.modOther_requests (found : Option StationId) (d : StationId) (f : Station → Station) (s : State) :
    (s.modOther found d f).requests = s.requests := by
  fun_cases State.modOther found d f s <;> simp

@[simp] theorem State.writeMap_requests (d : StationId) (e : Station) (s : State) :
    (s.writeMap d e).requests = s.requests := by
  simp only [State.writeMap, State.modStation_requests]
  split <;> split <;> simp

@[simp] theorem State.followActuator_requests (x : Role) (side : PortId) (s : State) :
    (s.followActuator x side).requests = s.requests := by
  fun_cases State.followActuator x side s <;> simp

@[simp] theorem State.followPrinter_requests (x y : Option StationId) (s : State) :
    (s.followPrinter x y).requests = s.requests := State.requests_of_beyond (State.followPrinter_beyond x y s)

@[simp] theorem State.writeStation_requests (d : StationId) (e : Station) (s : State) :
    (s.writeStation d e).requests = s.requests := by
  simp [State.writeStation]

theorem State.detect_foldl_aside (f : FaultKind) (l : List KilnId) (s : State) :
    (l.foldl (fun u k => u.detect false f k) s).aside = s.aside := by
  induction l generalizing s with
  | nil => rfl
  | cons k l ih => rw [List.foldl_cons, ih, State.detect_aside]

@[simp] theorem State.lapse_requests (cause : Nat) (s : State) : (s.lapse cause).requests = s.requests := by
  simp [State.lapse, State.requests_of_aside (State.detect_foldl_aside _ _ _)]

@[simp] theorem State.restartWatchdog_requests (s : State) : s.restartWatchdog.requests = s.requests := rfl

@[simp] theorem State.heartbeat_requests (d : StationId) (s : State) : (s.heartbeat d).requests = s.requests := by
  fun_cases State.heartbeat d s <;> simp

/-- No owner's serving touches the request queue (R23). -/
theorem serve_requests (k : ReqKind) (r : Request) (s : State) : (serve k r s).st.requests = s.requests := by
  cases k <;> simp only [serve]
  case readKiln => fun_cases serveReadKiln r s <;> simp [apply_ite State.requests]
  case readCharge => fun_cases serveReadCharge r s <;> simp
  case readPackLog => fun_cases serveReadPackLog r s <;> simp
  case readLot => fun_cases serveReadLot r s <;> simp
  case readEntry => fun_cases serveReadEntry r s <;> simp
  case readLine => fun_cases serveReadLine r s <;> simp
  case readCounters => fun_cases serveReadCounters r s <;> simp
  case heartbeat => fun_cases serveHeartbeat r s <;> simp +zetaDelta
  case setClock => fun_cases serveSetClock r s <;> simp
  case loadCharge => fun_cases serveLoadCharge r s <;> simp
  case startKiln => fun_cases serveStartKiln r s <;> simp +zetaDelta
  case override => fun_cases serveOverride r s <;> simp +zetaDelta
  case resume => fun_cases serveResume r s <;> simp +zetaDelta
  case stop => fun_cases serveStop r s <;> simp
  case restart => fun_cases serveRestart r s <;> simp +zetaDelta
  case unload => fun_cases serveUnload r s <;> simp
  case planerFeed => fun_cases servePlanerFeed r s <;> simp
  case releaseCharge => fun_cases serveReleaseCharge r s <;> simp
  case closePack => fun_cases serveClosePack r s <;> simp
  case lineReset => fun_cases serveLineReset r s <;> simp
  case editOpen => fun_cases serveEditOpen r s <;> simp
  case editHeader => fun_cases serveEditHeader r s <;> simp
  case editStep => fun_cases serveEditStep r s <;> simp
  case editCommit => fun_cases serveEditCommit r s <;> simp
  case editAbort => fun_cases serveEditAbort r s <;> simp
  case entryDelete => fun_cases serveEntryDelete r s <;> simp
  case writeStation => fun_cases serveWriteStation r s <;> simp
  case writeSpecies => fun_cases serveWriteSpecies r s <;> simp
  case writeKilnLimits => fun_cases serveWriteKilnLimits r s <;> simp
  case writeFaultActions => fun_cases serveWriteFaultActions r s <;> simp
  case writeWatchdog => fun_cases serveWriteWatchdog r s <;> simp
  case writeLine => fun_cases serveWriteLine r s <;> simp
  case writeMark => fun_cases serveWriteMark r s <;> simp
  case writeSort => fun_cases serveWriteSort r s <;> simp
  case writeBin => fun_cases serveWriteBin r s <;> simp
  case writeLabelField => fun_cases serveWriteLabelField r s <;> simp
  case setPackBase => fun_cases serveSetPackBase r s <;> simp

@[simp] theorem State.judge_requests (s : State) (r : Request) : (s.judge r).st.requests = s.requests := by
  unfold State.judge
  split
  · rfl
  · split
    · exact serve_requests _ r s
    · rfl

@[simp] theorem answer_requests (r : Request) (v : Served) : (answer r v).requests = v.st.requests :=
  State.requests_of_inner (answer_inner r v)

/-! ### Waiting requests (R24) -/

/-- Where nothing waits, or the slot holds a reply, no fuel serves anything (R24). -/
theorem drainFuel_stops (n : Nat) (s : State) (h : s.requests = [] ∨ s.replySlot ≠ none) : drainFuel n s = s := by
  cases n with
  | zero => rfl
  | succ n =>
    unfold drainFuel
    split
    · next hslot hreq => simp [hslot, hreq] at h
    · rfl

theorem State.drain_stops (s : State) (h : s.requests = [] ∨ s.replySlot ≠ none) : s.drain = s :=
  drainFuel_stops _ s h

/-- The head is served and answered while the slot is empty, and what still waits is drained after it. -/
theorem State.drain_head (s : State) (r : Request) (rest : List Request) (hreq : s.requests = r :: rest)
    (hslot : s.replySlot = none) : s.drain = (answer r (State.judge { s with requests := rest } r)).drain := by
  have hrest : (answer r (State.judge { s with requests := rest } r)).requests = rest := by simp
  unfold State.drain
  rw [hrest, hreq, List.length_cons, drainFuel]
  simp only [hslot, hreq, State.serveRequest]

/-! ### Which stations are admitted and permitted (R11, R21, R23) -/

theorem State.mapOpen_iff (s : State) : s.mapOpen = true ↔ ∀ d : StationId, s.stations[d].role ≠ .supervisor := by
  simp only [State.mapOpen, Bool.not_eq_true', List.any_eq_false, beq_iff_eq, Vector.mem_toList_iff]
  constructor
  · intro h d
    exact h _ (Vector.getElem_mem d.isLt)
  · intro h e he
    obtain ⟨i, hi, rfl⟩ := Vector.getElem_of_mem he
    exact h ⟨i, hi⟩

theorem State.isSupervisor_iff (s : State) (d : StationId) :
    s.isSupervisor d = true ↔ s.stations[d].role = .supervisor := beq_iff_eq

theorem State.admits_iff (s : State) (d : StationId) : s.admits d = true ↔
    s.stations[d].role = .supervisor ∨ ∀ e : StationId, s.stations[e].role ≠ .supervisor := by
  rw [State.admits, Bool.or_eq_true, State.isSupervisor_iff, State.mapOpen_iff]

/-- Every class has one of the four bits of the mask. -/
theorem ReqClass.allClasses_getLsbD (c : ReqClass) : (0xF : BitVec 4).getLsbD c.bit = true := by cases c <;> rfl

/-- The classes a station has: all four while the map is open, a supervisor's own mask, none otherwise. -/
theorem State.permits_eq (s : State) (d : StationId) (c : ReqClass) : s.permits d c =
    (if (∀ e : StationId, s.stations[e].role ≠ .supervisor) then 0xF
      else if s.stations[d].role = .supervisor then s.stations[d].classes else 0 : BitVec 4).getLsbD c.bit := by
  simp only [← State.mapOpen_iff, ← State.isSupervisor_iff, State.permits]
  cases s.mapOpen
  · cases s.isSupervisor d <;> simp
  · exact (ReqClass.allClasses_getLsbD c).symm

/-! ### Taking a request in and judging it (R21, R23) -/

theorem State.takeIn_admitted (s : State) (r : Request) (ha : s.admits r.station = true) (hq : s.requests.length < 4) :
    s.takeIn r = { s with requests := s.requests ++ [r] }.drain :=
  (if_pos ha).trans (if_pos hq)

/-- An admitted request joins the tail of the queue while a reply is pending (R21, R24). -/
theorem State.takeIn_waits (s : State) (r : Request) (ha : s.admits r.station = true) (hq : s.requests.length < 4)
    (hslot : s.replySlot ≠ none) : s.takeIn r = { s with requests := s.requests ++ [r] } :=
  (s.takeIn_admitted r ha hq).trans (State.drain_stops _ (Or.inr hslot))

theorem State.judge_unknown (s : State) (r : Request) (h : ReqKind.ofByte r.kind = none) :
    s.judge r = ⟨s, .unknownRequest, []⟩ := by
  simp [State.judge, h, refuse]

theorem State.judge_known (s : State) (r : Request) (k : ReqKind) (h : ReqKind.ofByte r.kind = some k) :
    s.judge r = if s.permits r.station k.cls = true then serve k r s else ⟨s, .notPermitted, []⟩ := by
  simp [State.judge, h, refuse]

/-! ### The catalogue (R26) -/

theorem catalogueCodes_eq : catalogueCodes = ReqKind.all.map (fun k => k.code.toNat) := rfl

theorem ReqKind.ofByte_eq_none_iff (b : Byte) : ReqKind.ofByte b = none ↔ b.toNat ∉ catalogueCodes := by
  simp [ReqKind.ofByte, catalogueCodes_eq, BitVec.toNat_inj]

/-- A request row whose request is admitted, with nothing waiting and the slot empty, is judged and answered at once. -/
theorem exec_request_atOnce (i : Instr) (r : Request) (s : State) (hi : requestOfCommand i = some r)
    (ha : s.admits r.station = true) (hreq : s.requests = []) (hslot : s.replySlot = none) :
    exec i s = .next (answer r (s.judge r)) := by
  rw [exec_request i r hi, s.takeIn_atOnce r ha hreq hslot, State.serveRequest]

/-- Settles O9: a request row takes its request in, and each case of admission is one lemma about `takeIn`; judging goes by
the catalogue and `permits_eq`; draining by `drain_head`, as no owner touches the queue; the catalogue row by row. -/
theorem requestsAreAdmittedAndJudged : Obligations.RequestsAreAdmittedAndJudged := by
  unfold Obligations.RequestsAreAdmittedAndJudged
  refine ⟨?admission, ⟨?judging, ReqKind.ofByte_code, ReqKind.ofByte_eq_none_iff, ?unknown⟩,
    fun s => ⟨s.drain_stops, s.drain_head⟩, ?catalogue⟩
  case admission =>
    intro i r s hi supervisor isOpen
    have admitted : (supervisor ∨ isOpen) → s.admits r.station = true := (s.admits_iff r.station).mpr
    refine ⟨fun hs ho => ?_, fun ha hq => ?_, fun ha hq => ?_, fun ha hq hslot => ?_,
      fun ha => exec_request_atOnce i r s hi (admitted ha)⟩ <;> rw [exec_request i r hi]
    · have refused : s.admits r.station = false :=
        Bool.eq_false_iff.mpr fun h => ((s.admits_iff r.station).mp h).elim hs ho
      rw [s.takeIn_discarded r refused]
    · rw [s.takeIn_full r (admitted ha) hq]
    · rw [s.takeIn_admitted r (admitted ha) hq]
    · rw [s.takeIn_waits r (admitted ha) hq hslot]
  case judging =>
    refine fun r s => ⟨s.judge_unknown r, fun k hk => ?_⟩
    intro classes
    have permitted : s.permits r.station k.cls = classes.getLsbD k.cls.bit := s.permits_eq r.station k.cls
    rw [s.judge_known r k hk, permitted]
    exact ⟨fun h => if_pos h, fun h => if_neg (by simp [h])⟩
  case unknown =>
    intro kind d p g a s hkind ha hreq hslot
    rw [exec_request_atOnce _ ⟨kind, g, a, d, p⟩ s rfl ((s.admits_iff d).mpr ha) hreq hslot,
      s.judge_unknown _ ((ReqKind.ofByte_eq_none_iff kind).mpr hkind)]
  case catalogue =>
    refine ⟨fun k => ?_, rfl, rfl, rfl, rfl, rfl⟩
    cases k <;> decide

end Sys2Proof.Machine
end

section
/-! PROOFS. Notices (chapter 2): placing at once or waiting, the sending of the head notice and the admission of a raised one
(R15, R38 to R42), and the statement NoticesAreJudgedAndSent. -/

namespace Sys2Proof.Machine

/-! ### Placing at once, or waiting (R15) -/

/-- The rotation names every class. -/
theorem SourceClass.mem_after (c d : SourceClass) : d ∈ c.after := by cases c <;> cases d <;> decide

theorem State.mayPlace_iff (s : State) (p : PortId) (c : SourceClass) : s.mayPlace p c = true ↔
    (s.port p).localQueue.length < 16 ∧ ∀ d, d ≠ c → s.pendingOn p d = false := by
  simp only [State.mayPlace, Bool.and_eq_true, decide_eq_true_eq, List.all_eq_true, Bool.or_eq_true, beq_iff_eq,
    Bool.not_eq_true', SourceClass.mem_after, forall_const, or_iff_not_imp_left]
  rfl

theorem State.mayPlace_eq_false_iff (s : State) (p : PortId) (c : SourceClass) : s.mayPlace p c = false ↔
    16 ≤ (s.port p).localQueue.length ∨ ∃ d, d ≠ c ∧ s.pendingOn p d = true := by
  rw [← Bool.not_eq_true, State.mayPlace_iff]
  simp only [not_and_or, not_lt, not_forall, Bool.not_eq_false, exists_prop]

/-! ### The head notice is sent or waits (R41, R42) -/

theorem State.sideOf?_none (s : State) : s.sideOf? none = none := rfl

theorem State.sideOf?_some (s : State) (d : StationId) : s.sideOf? (some d) = some s.stations[d].side := rfl

theorem State.produceNotices_unmapped (s : State) (h : s.notifyStation = none) : s.produceNotices = s := by
  unfold State.produceNotices
  cases s.notices.length with
  | zero => rfl
  | succ n => simp only [produceNoticesFuel, h, State.sideOf?_none]

/-- One round of the NOTICE source with a notice waiting. -/
theorem produceNoticesFuel_succ (m : Nat) (s : State) (d : StationId) (hn : s.notices ≠ [])
    (hd : s.notifyStation = some d) : produceNoticesFuel (m + 1) s =
      if s.mayPlace s.stations[d].side .notice = true
      then produceNoticesFuel m (s.placeNotice s.stations[d].side) else s := by
  have waiting : (!s.notices.isEmpty) = true := by simpa using hn
  simp only [produceNoticesFuel, hd, State.sideOf?_some, waiting, Bool.true_and]

theorem State.produceNotices_waits (s : State) (n : Notice) (rest : List Notice) (d : StationId)
    (hn : s.notices = n :: rest) (hd : s.notifyStation = some d) (h : s.mayPlace s.stations[d].side .notice = false) :
    s.produceNotices = s := by
  rw [State.produceNotices, hn, List.length_cons, produceNoticesFuel_succ _ s d (by simp [hn]) hd, h,
    if_neg Bool.false_ne_true]

theorem State.placeNotice_head (s : State) (p : PortId) (n : Notice) (rest : List Notice) (d : StationId)
    (hn : s.notices = n :: rest) (hd : s.notifyStation = some d) : s.placeNotice p =
      { s.place p d kindNotice (n.payload s.dropCount) with notices := rest, dropCount := 0 } := by
  simp only [State.placeNotice, hn, hd]

/-- A NOTICE's first byte is 1 for an ALARM and 0 for an INFO (R3). -/
theorem Notice.payload_eq (n : Notice) (drops : Nat) : n.payload drops =
    be8 (if n.kind.isAlarm = true then 1 else 0) ++ be8 n.kind.code ++ be8 drops ++ n.data := by
  unfold Notice.payload
  cases n.kind.isAlarm <;> rfl

/-- The head notice is placed, and the next head is produced after it. -/
theorem State.produceNotices_sends (s : State) (n : Notice) (rest : List Notice) (d : StationId)
    (hn : s.notices = n :: rest) (hd : s.notifyStation = some d) (h : s.mayPlace s.stations[d].side .notice = true) :
    s.produceNotices = (s.placeNotice s.stations[d].side).produceNotices := by
  have left : (s.placeNotice s.stations[d].side).notices = rest := by rw [s.placeNotice_head _ n rest d hn hd]
  rw [State.produceNotices, hn, List.length_cons, produceNoticesFuel_succ _ s d (by simp [hn]) hd, if_pos h,
    State.produceNotices, left]

/-! ### The admission of a notice (R38, R39) -/

theorem Notice.sameKiln_iff (n e : Notice) :
    n.sameKiln e = true ↔ n.kind = .kilnStatus ∧ e.kind = .kilnStatus ∧ e.kiln = n.kiln := by
  simp [Notice.sameKiln, and_assoc]

theorem State.judgeNotice_unmapped (n : Notice) (s : State) (h : s.notifyStation = none) :
    s.judgeNotice n = s.dropNotice := if_pos h

theorem State.judgeNotice_coalesces (n : Notice) (s : State) (h : s.notifyStation ≠ none)
    (hm : s.notices.any n.sameKiln = true) : s.judgeNotice n =
      { s with notices := s.notices.map (fun e => if n.sameKiln e = true then { e with data := n.data } else e) } :=
  (if_neg h).trans (if_pos hm)

theorem State.judgeNotice_info (n : Notice) (s : State) (h : s.notifyStation ≠ none)
    (hm : s.notices.any n.sameKiln = false) (hk : n.kind.isAlarm = false) : s.judgeNotice n =
      if s.notices.length < 24 then { s with notices := s.notices ++ [n] } else s.dropNotice := by
  simp only [State.judgeNotice, h, hm, hk, if_false, Bool.false_eq_true]
  rfl

theorem State.judgeNotice_alarm_room (n : Notice) (s : State) (h : s.notifyStation ≠ none)
    (hm : s.notices.any n.sameKiln = false) (hk : n.kind.isAlarm = true) (hq : s.notices.length < 32) :
    s.judgeNotice n = { s with notices := s.notices ++ [n] } := by
  simp only [State.judgeNotice, h, hm, hk, if_false, if_true, Bool.false_eq_true]
  exact if_pos hq

/-- An ALARM at a full queue finds room where an INFO entry can give way. -/
theorem State.judgeNotice_alarm_full (n : Notice) (s : State) (h : s.notifyStation ≠ none)
    (hm : s.notices.any n.sameKiln = false) (hk : n.kind.isAlarm = true) (hq : 32 ≤ s.notices.length) :
    s.judgeNotice n = (dropNewestInfo s.notices).elim s.dropNotice
      (fun rest => { s.dropNotice with notices := rest ++ [n] }) := by
  have full : ¬ s.notices.length < Config.noticeCapacity := Nat.not_lt.mpr hq
  simp only [State.judgeNotice, h, hm, hk, full, if_false, if_true, Bool.false_eq_true]
  cases dropNewestInfo s.notices <;> rfl

theorem dropNewestInfo_alarms (q : List Notice) (h : ∀ e ∈ q, e.kind.isAlarm = true) : dropNewestInfo q = none := by
  simpa [dropNewestInfo] using h

/-- The INFO entry behind which only ALARMs wait is the one that goes (R39). -/
theorem dropNewestInfo_newest (before after : List Notice) (e : Notice) (he : e.kind.isAlarm = false)
    (ha : ∀ x ∈ after, x.kind.isAlarm = true) :
    dropNewestInfo (before ++ e :: after) = some (before ++ after) := by
  have alarms : ∀ x ∈ after.reverse, ¬ (!x.kind.isAlarm) = true := by simpa using ha
  simp [dropNewestInfo, he, List.eraseP_append_right _ alarms]

theorem dropNewestInfo_sublist (q rest : List Notice) (h : dropNewestInfo q = some rest) : rest.Sublist q := by
  unfold dropNewestInfo at h
  split at h
  · cases h
    simpa using (List.eraseP_sublist (p := fun e : Notice => !e.kind.isAlarm) (l := q.reverse)).reverse
  · cases h

/-- The INFO entries of a notice queue. -/
def infoCount (q : List Notice) : Nat := q.countP (fun e => !e.kind.isAlarm)

theorem infoCount_append_alarm (q : List Notice) (n : Notice) (h : n.kind.isAlarm = true) :
    infoCount (q ++ [n]) = infoCount q := by
  simp [infoCount, h]

/-- Coalescing replaces data and so keeps the classes. -/
theorem infoCount_coalesced (n : Notice) (q : List Notice) :
    infoCount (q.map (fun e => if n.sameKiln e = true then { e with data := n.data } else e)) = infoCount q := by
  unfold infoCount
  rw [List.countP_map]
  congr 1
  funext e
  simp only [Function.comp_apply]
  split <;> rfl

/-- Judging a notice never makes more than 24 INFO entries (R38). -/
theorem State.judgeNotice_infoCount (n : Notice) (s : State) (h : infoCount s.notices ≤ 24) :
    infoCount (s.judgeNotice n).notices ≤ 24 := by
  by_cases hd : s.notifyStation = none
  · rwa [s.judgeNotice_unmapped n hd]
  cases hm : s.notices.any n.sameKiln with
  | true => rwa [s.judgeNotice_coalesces n hd hm, infoCount_coalesced]
  | false =>
    cases hk : n.kind.isAlarm with
    | false =>
      rw [s.judgeNotice_info n hd hm hk]
      split
      · next hq =>
          have few : infoCount (s.notices ++ [n]) ≤ (s.notices ++ [n]).length := List.countP_le_length
          rw [List.length_append] at few
          exact few.trans hq
      · exact h
    | true =>
      rcases Nat.lt_or_ge s.notices.length 32 with hq | hq
      · rwa [s.judgeNotice_alarm_room n hd hm hk hq, infoCount_append_alarm _ n hk]
      · rw [s.judgeNotice_alarm_full n hd hm hk hq]
        cases hr : dropNewestInfo s.notices with
        | none => exact h
        | some rest =>
          have fewer : infoCount rest ≤ infoCount s.notices := (dropNewestInfo_sublist _ _ hr).countP_le
          calc infoCount (rest ++ [n]) = infoCount rest := infoCount_append_alarm rest n hk
            _ ≤ 24 := fewer.trans h

/-- A coalescing notice replaces the data of each entry it meets and keeps every other entry (R38). -/
theorem getElem?_coalesced (n e : Notice) (q : List Notice) (i : Nat) (h : q[i]? = some e) :
    (q.map (fun x => if n.sameKiln x = true then { x with data := n.data } else x))[i]?
      = some (if n.sameKiln e = true then { e with data := n.data } else e) := by
  rw [List.getElem?_map, h, Option.map_some]

/-- Settles O11: judging by the lemma of each branch of `judgeNotice`, the bound on INFO entries by
`judgeNotice_infoCount`, and sending by the rounds of `produceNotices`. -/
theorem noticesAreJudgedAndSent : Obligations.NoticesAreJudgedAndSent := by
  unfold Obligations.NoticesAreJudgedAndSent
  refine ⟨?judging, ?sending, fun k => by cases k <;> decide, fun _ _ => rfl⟩
  case judging =>
    intro n s dropped meets infos
    have meets_iff (e : Notice) : n.sameKiln e = true ↔ meets e := n.sameKiln_iff e
    refine ⟨s.judgeNotice_unmapped n, fun hd hm => ?coalesces, fun hd hm => ?admission, s.judgeNotice_infoCount n⟩
    case coalesces =>
      have found : s.notices.any n.sameKiln = true := by simpa only [List.any_eq_true, meets_iff] using hm
      refine ⟨_, s.judgeNotice_coalesces n hd found, List.length_map _, fun i e he => ?_⟩
      refine ⟨_, getElem?_coalesced n e _ i he, fun h => ?_, fun h => ?_⟩
      · exact if_pos ((meets_iff e).mpr h)
      · exact if_neg (mt (meets_iff e).mp h)
    case admission =>
      have noMatch : s.notices.any n.sameKiln = false := by
        simpa only [List.any_eq_false, meets_iff] using hm
      refine ⟨fun hk hq => ?_, fun hk hq => ?_, s.judgeNotice_alarm_room n hd noMatch, fun hk hq => ⟨fun ha => ?_, ?_⟩⟩
      · rw [s.judgeNotice_info n hd noMatch hk, if_pos hq]
      · rw [s.judgeNotice_info n hd noMatch hk, if_neg (Nat.not_lt.mpr hq)]; rfl
      · rw [s.judgeNotice_alarm_full n hd noMatch hk hq.ge, dropNewestInfo_alarms _ ha]; rfl
      · intro before e after hsplit he ha
        rw [s.judgeNotice_alarm_full n hd noMatch hk hq.ge, hsplit, dropNewestInfo_newest before after e he ha]; rfl
  case sending =>
    intro s n rest hn
    refine ⟨s.produceNotices_unmapped, fun d hd => ⟨fun hroom hothers => ?_, fun hwait => ?_⟩⟩
    · rw [s.produceNotices_sends n rest d hn hd ((s.mayPlace_iff _ _).mpr ⟨hroom, hothers⟩),
        s.placeNotice_head _ n rest d hn hd, n.payload_eq]
      rfl
    · exact s.produceNotices_waits n rest d hn hd ((s.mayPlace_eq_false_iff _ _).mpr hwait)

end Sys2Proof.Machine
end

section
/-! PROOFS. Moisture arithmetic (chapter 3): the stages of a correction (R46 to R48), the highest and lowest channel and the
channels that enter the mean (R52, R53), and the statements CorrectionFollowsItsStages and EstimateIsATrimmedMean. -/

namespace Sys2Proof.Machine

/-! ### The correction of one raw reading (R46 to R48) -/

theorem correct_noReading (g : SpeciesGroup) (t : Int) : correct g 65535 t = none := rfl

theorem correct_overRange (g : SpeciesGroup) (t : Int) : correct g 65534 t = some ⟨600, .overRange⟩ := rfl

theorem correct_aboveScale (g : SpeciesGroup) (r : Nat) (t : Int) (hlow : 601 ≤ r) (hhigh : r ≤ 65533) :
    correct g r t = some (correctStages g 600 t .clamped) := by
  have present : r ≠ 65535 := by omega
  have inRange : r ≠ 65534 := by omega
  rw [correct, if_neg present, if_neg inRange, if_pos (Nat.lt_of_succ_le hlow)]

theorem correct_onScale (g : SpeciesGroup) (r : Nat) (t : Int) (h : r ≤ 600) :
    correct g r t = some (correctStages g r t .none) := by
  have present : r ≠ 65535 := by omega
  have inRange : r ≠ 65534 := by omega
  rw [correct, if_neg present, if_neg inRange, if_neg (Nat.not_lt.mpr h)]

/-- The flag the first stage gave has no part in the value. -/
theorem correctStages_value_congr (g : SpeciesGroup) (r : Nat) (t : Int) (f f' : MoistureFlag) :
    (correctStages g r t f).value = (correctStages g r t f').value := by
  simp only [correctStages, apply_ite Corrected.value]

/-- A flag that is CLAMPED already stays so through the later stages. -/
theorem correctStages_clamped_flag (g : SpeciesGroup) (r : Nat) (t : Int) :
    (correctStages g r t .clamped).flag = .clamped := by
  simp only [correctStages, apply_ite Corrected.flag, ite_self]

theorem correctStages_value_le (g : SpeciesGroup) (r : Nat) (t : Int) (f : MoistureFlag) :
    (correctStages g r t f).value ≤ 600 := by
  unfold correctStages
  extract_lets d m c
  split
  · exact Nat.zero_le 600
  · split
    · exact Nat.le_refl 600
    · next hle => exact Int.toNat_le.mpr (Int.not_lt.mp hle)

/-- Settles O18: the first stage by the lemma of each of its cases; the later ones are `correctStages` as it is written. -/
theorem correctionFollowsItsStages : Obligations.CorrectionFollowsItsStages := by
  unfold Obligations.CorrectionFollowsItsStages
  refine ⟨fun x raw t => ⟨correct_noReading x t, correct_overRange x t, fun hlow hhigh => ?above, correct_onScale x raw t⟩,
    fun x raw t flag => ⟨rfl, correctStages_value_le x raw t flag⟩⟩
  case above =>
    have value : (correctStages x 600 t .none).value = (correctStages x 600 t .clamped).value :=
      correctStages_value_congr x 600 t _ _
    have flag : (correctStages x 600 t .clamped).flag = .clamped := correctStages_clamped_flag x 600 t
    refine ⟨(correctStages x 600 t .clamped).value, ?_, (correctStages x 600 t .none).flag, ?_⟩
    · rw [correct_aboveScale x raw t hlow hhigh, Option.some_inj, Corrected.mk.injEq]
      exact ⟨rfl, flag⟩
    · rw [correct_onScale x 600 t le_rfl, ← value]

/-! ### The highest and the lowest value (R52, R53) -/

theorem foldl_max_le_iff (l : List Channel) (m b : Nat) :
    l.foldl (fun m c => max m c.value) m ≤ b ↔ m ≤ b ∧ ∀ c ∈ l, c.value ≤ b := by
  induction l generalizing m with
  | nil => simp
  | cons c l ih => simp [ih, and_assoc]

theorem le_foldl_min_iff (l : List Channel) (m b : Nat) :
    b ≤ l.foldl (fun m c => min m c.value) m ↔ b ≤ m ∧ ∀ c ∈ l, b ≤ c.value := by
  induction l generalizing m with
  | nil => simp
  | cons c l ih => simp [ih, and_assoc]

theorem highest_le_iff (l : List Channel) (b : Nat) : highest l ≤ b ↔ ∀ c ∈ l, c.value ≤ b :=
  (foldl_max_le_iff l 0 b).trans (and_iff_right b.zero_le)

theorem le_lowest_iff (l : List Channel) (b : Nat) : b ≤ lowest l ↔ b ≤ 600 ∧ ∀ c ∈ l, b ≤ c.value :=
  le_foldl_min_iff l 600 b

theorem highest_eq (l : List Channel) (c : Channel) (hc : c ∈ l) (h : ∀ x ∈ l, x.value ≤ c.value) :
    highest l = c.value :=
  le_antisymm ((highest_le_iff l _).mpr h) ((highest_le_iff l _).mp le_rfl c hc)

/-- The scale's top, from which `lowest` starts, is no lower than any value (R48). -/
theorem lowest_eq (l : List Channel) (c : Channel) (hc : c ∈ l) (hscale : c.value ≤ 600)
    (h : ∀ x ∈ l, c.value ≤ x.value) : lowest l = c.value :=
  le_antisymm (((le_lowest_iff l _).mp le_rfl).2 c hc) ((le_lowest_iff l _).mpr ⟨hscale, h⟩)

/-- Some channel holds the highest value. -/
theorem exists_mem_value_eq_highest (l : List Channel) (h : l ≠ []) : ∃ c ∈ l, c.value = highest l := by
  obtain ⟨c, hc, top⟩ := Multiset.exists_max_image Channel.value (s := (l : Multiset Channel)) (by simpa using h)
  exact ⟨c, hc, (highest_eq l c hc top).symm⟩

/-! ### The channels that enter the mean (R52) -/

/-- The lowest-numbered channel of a value is the one that goes. -/
theorem dropFirst_eq_eraseIdx (l : List Channel) (i : Nat) (c : Channel) (hi : l[i]? = some c)
    (first : ∀ m x, m < i → l[m]? = some x → x.value ≠ c.value) : dropFirst c.value l = l.eraseIdx i := by
  obtain ⟨hlt, rfl⟩ := List.getElem?_eq_some_iff.mp hi
  have found : l.findIdx? (fun x => x.value == l[i].value) = some i :=
    List.findIdx?_eq_some_iff_getElem.mpr ⟨hlt, beq_self_eq_true _, fun m hm => by
      simpa using first m _ hm (List.getElem?_eq_getElem (hm.trans hlt))⟩
  rw [dropFirst, List.eraseP_eq_eraseIdx, found]

/-- The highest-numbered channel of a value is the one that goes. -/
theorem dropLast_eq_eraseIdx (l : List Channel) (i : Nat) (c : Channel) (hi : l[i]? = some c)
    (last : ∀ m x, i < m → l[m]? = some x → x.value ≠ c.value) : dropLast c.value l = l.eraseIdx i := by
  obtain ⟨hlt, rfl⟩ := List.getElem?_eq_some_iff.mp hi
  have later : ∀ x ∈ (l.drop (i + 1)).reverse, ¬ (x.value == l[i].value) = true := by
    intro x hx
    obtain ⟨m, hm⟩ := List.mem_iff_getElem?.mp (List.mem_reverse.mp hx)
    rw [List.getElem?_drop] at hm
    simpa using last (i + 1 + m) x (by omega) hm
  have backwards : l.reverse = (l.drop (i + 1)).reverse ++ l[i] :: (l.take i).reverse := by simp
  have gone : (l[i] :: (l.take i).reverse).eraseP (fun x => x.value == l[i].value) = (l.take i).reverse :=
    List.eraseP_cons_of_pos (beq_self_eq_true _)
  rw [dropLast, backwards, List.eraseP_append_right _ later, gone, List.eraseIdx_eq_take_drop_succ,
    List.reverse_append, List.reverse_reverse, List.reverse_reverse]

/-- The place of channel `j` once channel `i` is gone. -/
def placeWithout (i j : Nat) : Nat := if i < j then j - 1 else j

theorem placeWithout_lt_iff (i j m : Nat) (hm : m ≠ i) : placeWithout i m < placeWithout i j ↔ m < j := by
  unfold placeWithout
  split <;> split <;> omega

theorem exists_placeWithout_eq (i q : Nat) : ∃ m, m ≠ i ∧ placeWithout i m = q := by
  rcases Nat.lt_or_ge q i with h | h
  · exact ⟨q, h.ne, if_neg (Nat.not_lt.mpr h.le)⟩
  · exact ⟨q + 1, by omega, if_pos (Nat.lt_succ_of_le h)⟩

theorem getElem?_placeWithout (l : List Channel) (i j : Nat) (hne : j ≠ i) :
    (l.eraseIdx i)[placeWithout i j]? = l[j]? := by
  rcases Nat.lt_or_gt_of_ne hne with h | h
  · rw [placeWithout, if_neg (Nat.not_lt.mpr h.le), List.getElem?_eraseIdx_of_lt h]
  · rw [placeWithout, if_pos h, List.getElem?_eraseIdx_of_ge (Nat.le_sub_one_of_lt h), Nat.sub_add_cancel (by omega)]

/-- The channels without those at two places. -/
def withoutTwo (l : List Channel) (i j : Nat) : List Channel := (l.eraseIdx i).eraseIdx (placeWithout i j)

/-- The channels are the two removed and those that enter the mean. -/
theorem withoutTwo_perm (l : List Channel) (i j : Fin l.length) (hne : j ≠ i) :
    (l[i] :: l[j] :: withoutTwo l i j).Perm l := by
  have place : (l.eraseIdx i)[placeWithout i j]? = some l[j] :=
    (getElem?_placeWithout l i j (Fin.val_ne_of_ne hne)).trans (List.getElem?_eq_getElem j.isLt)
  obtain ⟨hlt, hval⟩ := List.getElem?_eq_some_iff.mp place
  have second : (l[j] :: withoutTwo l i j).Perm (l.eraseIdx i) := by
    rw [← hval]
    exact List.getElem_cons_eraseIdx_perm hlt
  exact (second.cons l[i]).trans (List.getElem_cons_eraseIdx_perm i.isLt)

theorem length_withoutTwo (l : List Channel) (i j : Fin l.length) (hne : j ≠ i) :
    (withoutTwo l i j).length = l.length - 2 := by
  have whole := (withoutTwo_perm l i j hne).length_eq
  simp only [List.length_cons] at whole
  omega

theorem sum_withoutTwo (l : List Channel) (i j : Fin l.length) (hne : j ≠ i) :
    ((withoutTwo l i j).map Channel.value).sum = (l.map Channel.value).sum - l[i].value - l[j].value := by
  have whole := ((withoutTwo_perm l i j hne).map Channel.value).sum_eq
  simp only [List.map_cons, List.sum_cons] at whole
  omega

theorem mem_withoutTwo_iff (l : List Channel) (i j : Nat) (hne : j ≠ i) (c : Channel) :
    c ∈ withoutTwo l i j ↔ ∃ m, m ≠ i ∧ m ≠ j ∧ l[m]? = some c := by
  rw [withoutTwo, List.mem_eraseIdx_iff_getElem?]
  constructor
  · rintro ⟨q, hq, hc⟩
    obtain ⟨m, hm, rfl⟩ := exists_placeWithout_eq i q
    exact ⟨m, hm, fun h => hq (congrArg _ h), (getElem?_placeWithout l i m hm).symm.trans hc⟩
  · rintro ⟨m, hi, hj, hc⟩
    refine ⟨placeWithout i m, fun h => hj ?_, (getElem?_placeWithout l i m hi).trans hc⟩
    have below := placeWithout_lt_iff i j m hi
    have above := placeWithout_lt_iff i m j hne
    omega

/-- A flag among the channels left is a flag at neither place. -/
theorem any_withoutTwo (l : List Channel) (i j : Fin l.length) (hne : j ≠ i) :
    (withoutTwo l i j).any (fun c => c.flag != .none)
      = decide (∃ m : Fin l.length, m ≠ i ∧ m ≠ j ∧ l[m].flag ≠ .none) := by
  rw [Bool.eq_iff_iff, List.any_eq_true, decide_eq_true_iff]
  simp only [mem_withoutTwo_iff l i j (Fin.val_ne_of_ne hne), bne_iff_ne]
  constructor
  · rintro ⟨c, ⟨m, hi, hj, hc⟩, hflag⟩
    obtain ⟨hm, rfl⟩ := List.getElem?_eq_some_iff.mp hc
    exact ⟨⟨m, hm⟩, Fin.ne_of_val_ne hi, Fin.ne_of_val_ne hj, hflag⟩
  · rintro ⟨m, hi, hj, hflag⟩
    exact ⟨l[m], ⟨m, Fin.val_ne_of_ne hi, Fin.val_ne_of_ne hj, List.getElem?_eq_getElem m.isLt⟩, hflag⟩

/-- Channel `i` holds the highest value, and no channel with a higher number does. -/
def IsLastHighest (l : List Channel) (i : Fin l.length) : Prop :=
  ∀ m : Fin l.length, l[m].value ≤ l[i].value ∧ (i < m → l[m].value < l[i].value)

/-- Channel `j` holds the lowest value, and no channel with a lower number does. -/
def IsFirstLowest (l : List Channel) (j : Fin l.length) : Prop :=
  ∀ m : Fin l.length, l[j].value ≤ l[m].value ∧ (m < j → l[j].value < l[m].value)

/-- One channel is both only where it is the only channel. -/
theorem IsFirstLowest.ne {l : List Channel} {i j : Fin l.length} (hj : IsFirstLowest l j) (hi : IsLastHighest l i)
    (two : 2 ≤ l.length) : j ≠ i := by
  rintro rfl
  rcases Nat.eq_zero_or_pos j.val with zero | pos
  · obtain ⟨-, lower⟩ := hi ⟨1, two⟩
    obtain ⟨low, -⟩ := hj ⟨1, two⟩
    exact absurd (lower (Fin.lt_def.mpr (by simp [zero]))) (Nat.not_lt.mpr low)
  · obtain ⟨-, higher⟩ := hj ⟨0, by omega⟩
    obtain ⟨high, -⟩ := hi ⟨0, by omega⟩
    exact absurd (higher (Fin.lt_def.mpr pos)) (Nat.not_lt.mpr high)

theorem IsLastHighest.highest_eq {l : List Channel} {i : Fin l.length} (hi : IsLastHighest l i) :
    highest l = l[i].value := by
  refine Machine.highest_eq l l[i] (List.getElem_mem i.isLt) fun x hx => ?_
  obtain ⟨m, hm, rfl⟩ := List.getElem_of_mem hx
  exact (hi ⟨m, hm⟩).1

theorem IsFirstLowest.lowest_eq {l : List Channel} {j : Fin l.length} (hj : IsFirstLowest l j)
    (hscale : ∀ c ∈ l, c.value ≤ 600) : lowest l = l[j].value := by
  refine Machine.lowest_eq l l[j] (List.getElem_mem j.isLt) (hscale _ (List.getElem_mem j.isLt)) fun x hx => ?_
  obtain ⟨m, hm, rfl⟩ := List.getElem_of_mem hx
  exact (hj ⟨m, hm⟩).1

theorem trimmed_of_length_le (l : List Channel) (h : l.length ≤ 4) : trimmed l = l := if_pos h

/-- The highest goes first; what is lowest among the rest stands where it stood. -/
theorem trimmed_eq_withoutTwo (l : List Channel) (hscale : ∀ c ∈ l, c.value ≤ 600) (five : 5 ≤ l.length)
    (i j : Fin l.length) (hi : IsLastHighest l i) (hj : IsFirstLowest l j) : trimmed l = withoutTwo l i j := by
  have hne : j.val ≠ i.val := Fin.val_ne_of_ne (hj.ne hi (by omega))
  have highGone : dropLast l[i].value l = l.eraseIdx i := by
    refine dropLast_eq_eraseIdx l i l[i] (List.getElem?_eq_getElem i.isLt) fun m x him hx => ?_
    obtain ⟨hm, rfl⟩ := List.getElem?_eq_some_iff.mp hx
    exact ((hi ⟨m, hm⟩).2 him).ne
  have lowGone : dropFirst l[j].value (l.eraseIdx i) = withoutTwo l i j := by
    refine dropFirst_eq_eraseIdx _ (placeWithout i j) l[j]
      ((getElem?_placeWithout l i j hne).trans (List.getElem?_eq_getElem j.isLt)) fun q x hq hx => ?_
    obtain ⟨m, hm, rfl⟩ := exists_placeWithout_eq i q
    obtain ⟨hlt, rfl⟩ := List.getElem?_eq_some_iff.mp ((getElem?_placeWithout l i m hm).symm.trans hx)
    exact ((hj ⟨m, hlt⟩).2 ((placeWithout_lt_iff i j m hm).mp hq)).ne'
  rw [trimmed, if_neg (by omega), hi.highest_eq, highGone, hj.lowest_eq hscale, lowGone]

/-! ### The estimate and the wettest value (R52, R53) -/

theorem estimateOf_few (l : List Channel) (h : l.length ≤ 2) : estimateOf l = none := if_pos (Nat.lt_succ_of_le h)

theorem wettestOf_few (l : List Channel) (h : l.length ≤ 2) : wettestOf l = none := if_pos (Nat.lt_succ_of_le h)

theorem estimateOf_enough (l : List Channel) (h : 3 ≤ l.length) : estimateOf l =
    some ⟨(((trimmed l).map Channel.value).sum + (trimmed l).length / 2) / (trimmed l).length,
      (trimmed l).any (fun c => c.flag != .none)⟩ :=
  if_neg (Nat.not_lt.mpr h)

theorem wettestOf_enough (l : List Channel) (h : 3 ≤ l.length) : wettestOf l = some (highest l) :=
  if_neg (Nat.not_lt.mpr h)

/-- Settles O19: the figures by their cases; what enters the mean is `withoutTwo`, whose length, sum and flags follow from
the two channels it lacks. -/
theorem estimateIsATrimmedMean : Obligations.EstimateIsATrimmedMean := by
  unfold Obligations.EstimateIsATrimmedMean
  refine fun l hscale => ⟨fun h => ⟨estimateOf_few l h, wettestOf_few l h⟩, fun h => ?few, fun h => ?wettest,
    fun five i j hi hj => ?trimmed⟩
  case few => rw [estimateOf_enough l (by omega), trimmed_of_length_le l (by omega)]
  case wettest =>
    exact ⟨highest l, wettestOf_enough l h, exists_mem_value_eq_highest l (List.ne_nil_of_length_pos (by omega)),
      (highest_le_iff l _).mp le_rfl⟩
  case trimmed =>
    have hne : j ≠ i := IsFirstLowest.ne hj hi (by omega)
    refine ⟨hne.symm, ?_⟩
    rw [estimateOf_enough l (by omega), trimmed_eq_withoutTwo l hscale five i j hi hj, length_withoutTwo l i j hne,
      sum_withoutTwo l i j hne, any_withoutTwo l i j hne]

end Sys2Proof.Machine
end

section
/-! PROOFS. The schedule store (chapter 4): the validation and the write of EDIT_COMMIT (R60, R69, R70), the checks and the
blank entry of ENTRY_DELETE (R58, R73, R74), and the statements EditCommitValidatesAndWrites and
EntryDeleteFollowsItsChecks. -/

namespace Sys2Proof.Machine

/-! ### A number as an index -/

theorem index?_of_le (n i : Nat) (h : n ≤ i) : index? n i = none := dif_neg (Nat.not_lt.mpr h)

@[simp] theorem index?_val {n : Nat} (i : Fin n) : index? n i.val = some i := dif_pos i.isLt

/-! ### What a commit asks of the staged steps (R60, R69) -/

/-- The three ways in which a step fails the validation of a commit. -/
theorem Step.valid_eq_false_iff (t : Step) : t.valid = false ↔
    t.dry < t.depression ∨ t.maxDuration < t.minDuration ∨ t.maxDuration = 0 := by
  simp [Step.valid, ← or_assoc, imp_iff_not_or]

theorem Step.valid_iff (t : Step) : t.valid = true ↔
    ¬ (t.dry < t.depression ∨ t.maxDuration < t.minDuration ∨ t.maxDuration = 0) := by
  rw [← t.valid_eq_false_iff, Bool.not_eq_false]

theorem Staging.firstFault_noStep (e : Staging) (h : e.header.count = 0) : e.firstFault = some 255 := if_pos h

/-- With a step to run, the fault is the first one that a search from index 0 upward finds. -/
theorem Staging.firstFault_search (e : Staging) (h : e.header.count ≠ 0) :
    e.firstFault = (e.steps.toList.take e.header.count).findIdx? (fun t => !t.valid) := if_neg h

theorem Staging.firstFault_first (e : Staging) (j : Fin 24) (hcount : j.val < e.header.count)
    (hfails : e.steps[j].valid = false) (hbefore : ∀ i : Fin 24, i < j → e.steps[i].valid = true) :
    e.firstFault = some j.val := by
  have inRun : j.val < (e.steps.toList.take e.header.count).length := by simp [hcount]
  rw [e.firstFault_search (Nat.ne_zero_of_lt hcount), List.findIdx?_eq_some_iff_getElem]
  refine ⟨inRun, by simpa using hfails, fun i hi => ?_⟩
  simpa using hbefore ⟨i, hi.trans j.isLt⟩ hi

theorem Staging.firstFault_none (e : Staging) (hcount : e.header.count ≠ 0)
    (hvalid : ∀ j : Fin 24, j.val < e.header.count → e.steps[j].valid = true) : e.firstFault = none := by
  rw [e.firstFault_search hcount, List.findIdx?_eq_none_iff]
  intro t ht
  obtain ⟨i, hi, rfl⟩ := List.getElem_of_mem ht
  obtain ⟨hrun, hsteps⟩ : i < e.header.count ∧ i < 24 := by simpa using hi
  simpa using hvalid ⟨i, hsteps⟩ hrun

/-! ### EDIT_COMMIT by its cases (R69, R70) -/

theorem serveEditCommit_arguments (r : Request) (s : State) (h : r.args ≠ []) :
    serveEditCommit r s = ⟨s, .badArgument, []⟩ :=
  if_pos (mt List.length_eq_zero_iff.mp h)

theorem serveEditCommit_closed (r : Request) (s : State) (h : r.args = []) (hstaging : s.staging = none) :
    serveEditCommit r s = ⟨s, .noEdit, []⟩ := by
  simp [serveEditCommit, h, hstaging, refuse]

theorem serveEditCommit_fault (r : Request) (s : State) (e : Staging) (i : Nat) (h : r.args = [])
    (hstaging : s.staging = some e) (hfault : e.firstFault = some i) :
    serveEditCommit r s = ⟨s, .invalidStep, be8 i⟩ := by
  simp [serveEditCommit, h, hstaging, hfault]

/-- A commit that passes validation writes the target entry, all but its in-use count. -/
theorem serveEditCommit_commits (r : Request) (s : State) (e : Staging) (h : r.args = [])
    (hstaging : s.staging = some e) (hfault : e.firstFault = none) :
    serveEditCommit r s =
      ⟨{ s with
          directory := s.directory.set e.target ⟨true, nextGeneration s.directory[e.target].generation, e.header,
            s.directory[e.target].inUse, e.steps⟩
          staging := none }, .ok, be8 e.target.val ++ be16 (nextGeneration s.directory[e.target].generation)⟩ := by
  simp [serveEditCommit, h, hstaging, hfault, okWith, State.modEntry]

/-- Settles O23: what the row replies is what `serveEditCommit` gives, case by case of the first fault in the staged
content. -/
theorem editCommitValidatesAndWrites : Obligations.EditCommitValidatesAndWrites := by
  unfold Obligations.EditCommitValidatesAndWrites
  refine ⟨rfl, fun s d p g a ready => ?_⟩
  intro r
  have served : exec (.editCommit d p g a) s = .next (answer r (serveEditCommit r s)) :=
    exec_ready _ s .editCommit d p g a rfl ready
  rw [served]
  refine ⟨fun ha => ?arguments, fun ha hs => ?closed, fun e ha hs => ?opened⟩
  case arguments => rw [serveEditCommit_arguments r s ha]
  case closed => rw [serveEditCommit_closed r s ha hs]
  case opened =>
    intro fails old generation
    have valid_iff (j : Fin 24) : e.steps[j].valid = true ↔ ¬ fails j := e.steps[j].valid_iff
    refine ⟨fun hcount => ?noStep, fun j hcount hj hbefore => ?fault, fun hcount hall => ?commits⟩
    case noStep => rw [serveEditCommit_fault r s e 255 ha hs (e.firstFault_noStep hcount)]; rfl
    case fault =>
      have first : e.firstFault = some j.val :=
        e.firstFault_first j hcount (e.steps[j].valid_eq_false_iff.mpr hj) fun i hi => (valid_iff i).mpr (hbefore i hi)
      rw [serveEditCommit_fault r s e j ha hs first]
    case commits =>
      have passes : e.firstFault = none := e.firstFault_none hcount fun j hj => (valid_iff j).mpr (hall j hj)
      rw [serveEditCommit_commits r s e ha hs passes]; rfl

/-! ### ENTRY_DELETE by its checks (R73, R74) -/

theorem State.editingOn_iff (s : State) (d : Fin 32) :
    s.editingOn d = true ↔ ∃ x, s.staging = some x ∧ x.target = d := by
  unfold State.editingOn
  cases s.staging <;> simp

theorem serveEntryDelete_arguments (r : Request) (s : State) (h : r.args.length ≠ 1 ∨ 31 < u8 r.args 0) :
    serveEntryDelete r s = ⟨s, .badArgument, []⟩ := by
  unfold serveEntryDelete
  split
  · rfl
  · next hlength =>
      have above : 32 ≤ u8 r.args 0 := h.resolve_left hlength
      rw [index?_of_le 32 _ above]
      rfl

/-- With a directory index, the three checks of the entry decide. -/
theorem serveEntryDelete_entry (r : Request) (s : State) (i : Fin 32) (hlength : r.args.length = 1)
    (hindex : u8 r.args 0 = i.val) : serveEntryDelete r s =
      if s.directory[i].valid = false then ⟨s, .notFound, []⟩
      else if s.directory[i].inUse ≠ 0 then ⟨s, .inUse, []⟩
      else if s.editingOn i = true then ⟨s, .editBusy, []⟩
      else ⟨{ s with directory := s.directory.set i {} }, .ok, []⟩ := by
  simp [serveEntryDelete, hlength, hindex, refuse, okWith, State.modEntry]

/-- Settles O24: the arguments first, then each check of `serveEntryDelete_entry` with those before it passed. -/
theorem entryDeleteFollowsItsChecks : Obligations.EntryDeleteFollowsItsChecks := by
  unfold Obligations.EntryDeleteFollowsItsChecks
  refine ⟨rfl, fun s d p g a ready => ?_⟩
  intro r refused blank
  have served : exec (.entryDelete d p g a) s = .next (answer r (serveEntryDelete r s)) :=
    exec_ready _ s .entryDelete d p g a rfl ready
  refine ⟨fun h => ?arguments, fun i hlength hindex => ?entry⟩
  case arguments => exact served.trans (by rw [serveEntryDelete_arguments r s h])
  case entry =>
    intro e
    rw [serveEntryDelete_entry r s i hlength hindex] at served
    refine ⟨fun hvalid => ?notFound, fun hvalid huse => ?inUse, fun x hvalid huse hx htarget => ?editBusy,
      fun hvalid huse hother => ?deleted⟩
    case notFound => rwa [if_pos hvalid] at served
    case inUse => rwa [if_neg (ne_true_of_eq_false · hvalid), if_pos huse] at served
    case editBusy =>
      have editing : s.editingOn i = true := (s.editingOn_iff i).mpr ⟨x, hx, htarget⟩
      rwa [if_neg (ne_true_of_eq_false · hvalid), if_neg (not_not.mpr huse), if_pos editing] at served
    case deleted =>
      have elsewhere : ¬ s.editingOn i = true := by
        rw [s.editingOn_iff i]
        rintro ⟨x, hx, htarget⟩
        exact hother x hx htarget
      rwa [if_neg (ne_true_of_eq_false · hvalid), if_neg (not_not.mpr huse), if_neg elsewhere] at served

end Sys2Proof.Machine
end

section
/-! PROOFS. Faults (chapter 6): the fault action row and its write (R115), the latches and the FAULT output (R118), and the
statements FaultOutputFollowsTheLatches and WriteFaultActionsReplacesTheRow. -/

namespace Sys2Proof.Machine

/-! ### One field of every kiln -/

/-- An operation on one kiln keeps a field of every kiln where it keeps that kiln's. -/
theorem State.kiln_field_of_self {α : Type} (field : Kiln → α) {s t : State} (k : KilnId)
    (self : field (t.kiln k) = field (s.kiln k)) (other : ∀ j, j ≠ k → t.kiln j = s.kiln j) (j : KilnId) :
    field (t.kiln j) = field (s.kiln j) := by
  by_cases h : j = k
  · rw [h, self]
  · rw [other j h]

/-- Every kiln of a reset part is the default one. -/
@[simp] theorem State.kiln_afterReset (straps : Byte) (eye encA encB : Bool) (k : KilnId) :
    (State.afterReset straps eye encA encB).kiln k = {} := by
  simp [State.kiln, State.afterReset]

/-! ### The FAULT output and the latches (R118) -/

theorem FaultKind.mem_all (f : FaultKind) : f ∈ FaultKind.all := by cases f <;> decide

theorem FaultKind.bit_ne_zero (f : FaultKind) : f.bit ≠ 0 := by cases f <;> decide

/-- The latches byte is 0 exactly while every latch is clear. -/
theorem Kiln.latchByte_eq_zero_iff (q : Kiln) : q.latchByte = 0 ↔ ∀ f, q.latches.get f = none := by
  simp [Kiln.latchByte, List.sum_eq_zero_iff, FaultKind.mem_all, FaultKind.bit_ne_zero]

theorem State.faultOutput_iff (s : State) :
    s.faultOutput = true ↔ ∃ (k : KilnId) (f : FaultKind), (s.kiln k).latches.get f ≠ none := by
  have asserts (q : Kiln) : (q.latchByte != 0) = true ↔ ∃ f, q.latches.get f ≠ none := by
    rw [bne_iff_ne, ne_eq, q.latchByte_eq_zero_iff, not_forall]
  simp only [State.faultOutput, List.any_eq_true, Vector.mem_toList_iff, asserts]
  constructor
  · rintro ⟨q, hq, latched⟩
    obtain ⟨k, hk, rfl⟩ := Vector.getElem_of_mem hq
    exact ⟨⟨k, hk⟩, latched⟩
  · rintro ⟨k, latched⟩
    exact ⟨s.kiln k, Vector.getElem_mem k.isLt, latched⟩

/-- The output depends on the latches alone. -/
theorem State.faultOutput_congr {s t : State} (h : ∀ k, (t.kiln k).latches = (s.kiln k).latches) :
    t.faultOutput = s.faultOutput := by
  rw [Bool.eq_iff_iff, State.faultOutput_iff, State.faultOutput_iff]
  simp only [h]

theorem State.announceFault_latches (f : FaultKind) (k : KilnId) (s : State) (j : KilnId) :
    ((s.announceFault f k).kiln j).latches = (s.kiln j).latches := by
  refine State.kiln_field_of_self Kiln.latches k ?_ (State.announceFault_other f k s) j
  simp only [State.announceFault]
  split <;> simp

/-- A kiln in LOADED, STOPPED or DONE takes no latch: a detection is announced, or finds its latch set already (R114). -/
theorem State.detect_announces (m : Bool) (f : FaultKind) (k : KilnId) (s : State)
    (h : (s.kiln k).state = .loaded ∨ (s.kiln k).state = .stopped ∨ (s.kiln k).state = .done) :
    s.detect m f k = if ((s.kiln k).latches.get f).isSome then s else s.announceFault f k := by
  rcases h with h | h | h <;> simp only [State.detect, h]

theorem State.stopKiln_latches (m : Bool) (c : StopCause) (k : KilnId) (s : State) (j : KilnId) :
    ((s.stopKiln m c k).kiln j).latches = (s.kiln j).latches :=
  State.kiln_field_of_self Kiln.latches k (by rw [State.stopKiln_self]; rfl) (State.stopKiln_other m c k s) j

/-- Settles O40: the output by `State.faultOutput_iff`, and the rest by what each operation leaves of the latches. -/
theorem faultOutputFollowsTheLatches : Obligations.FaultOutputFollowsTheLatches := by
  unfold Obligations.FaultOutputFollowsTheLatches
  refine ⟨State.faultOutput_iff, fun s k f m h => ?detection, fun straps eye encA encB => ?reset,
    fun s k f m c latched => ?stop⟩
  case detection =>
    rw [s.detect_announces m f k h]
    split
    · rfl
    · exact State.faultOutput_congr (s.announceFault_latches f k)
  case reset =>
    rw [Bool.eq_false_iff, ne_eq, State.faultOutput_iff]
    rintro ⟨k, f, latched⟩
    rw [State.kiln_afterReset] at latched
    cases f <;> exact latched rfl
  case stop =>
    have kept : ((s.stopKiln m c k).kiln k).latches.get f = some .shutdown := by rwa [State.stopKiln_latches]
    exact ⟨kept, (State.faultOutput_iff _).mpr ⟨k, f, ne_of_eq_of_ne kept (Option.some_ne_none _)⟩⟩

/-! ### The fault action row (R115) -/

theorem FaultAction.ofCode?_eq_some_iff (n : Nat) (a : FaultAction) : FaultAction.ofCode? n = some a ↔ n = a.code := by
  constructor
  · intro h
    unfold FaultAction.ofCode? at h
    split at h <;> cases h <;> rfl
  · rintro rfl
    cases a <;> rfl

theorem FaultAction.code_le (a : FaultAction) : a.code ≤ 3 := by cases a <;> decide

theorem kilnArg?_eq_some_iff (args : List Byte) (i : Nat) (k : KilnId) : kilnArg? args i = some k ↔ u8 args i = k.val := by
  constructor
  · intro h
    unfold kilnArg? index? at h
    split at h
    · cases h; rfl
    · cases h
  · intro h
    rw [kilnArg?, h, index?_val]

/-- A write is served only with five arguments, a kiln and four action codes. -/
theorem serveWriteFaultActions_refused (r : Request) (s : State)
    (h : r.args.length ≠ 5 ∨ 15 < u8 r.args 0 ∨ 3 < u8 r.args 1 ∨ 3 < u8 r.args 2 ∨ 3 < u8 r.args 3 ∨ 3 < u8 r.args 4) :
    serveWriteFaultActions r s = ⟨s, .badArgument, []⟩ := by
  unfold serveWriteFaultActions
  split
  · rfl
  · next hlength =>
      split
      · next k w x y z hk hw hx hy hz =>
          rw [kilnArg?_eq_some_iff] at hk
          rw [FaultAction.ofCode?_eq_some_iff] at hw hx hy hz
          have wKnown := w.code_le
          have xKnown := x.code_le
          have yKnown := y.code_le
          have zKnown := z.code_le
          omega
      · rfl

theorem serveWriteFaultActions_writes (r : Request) (s : State) (k : KilnId) (w x y z : FaultAction)
    (hlength : r.args.length = 5) (hk : u8 r.args 0 = k.val) (hw : u8 r.args 1 = w.code) (hx : u8 r.args 2 = x.code)
    (hy : u8 r.args 3 = y.code) (hz : u8 r.args 4 = z.code) :
    serveWriteFaultActions r s = ⟨s.setKiln k { s.kiln k with actions := ⟨w, x, y, z⟩ }, .ok, []⟩ := by
  rw [← kilnArg?_eq_some_iff] at hk
  rw [← FaultAction.ofCode?_eq_some_iff] at hw hx hy hz
  simp [serveWriteFaultActions, hlength, hk, hw, hx, hy, hz, okWith, State.modKiln]

theorem serveReadEntry_found (r : Request) (s : State) (data : List Byte) (hlength : r.args.length = 3)
    (h : s.entryBytes (u8 r.args 0) (u16 r.args 1) = some data) : serveReadEntry r s = ⟨s, .ok, data⟩ := by
  simp [serveReadEntry, hlength, h, okWith]

/-- Table 3 of READ_ENTRY holds the rows of fault actions (R27, R115). -/
theorem serveReadEntry_actions (r : Request) (s : State) (k : KilnId) (h : r.args = [3, 0, BitVec.ofNat 8 k.val]) :
    serveReadEntry r s = ⟨s, .ok, (s.kiln k).actionBytes⟩ := by
  have table : u8 r.args 0 = 3 := by rw [h]; rfl
  have index : u16 r.args 1 = k.val := by
    have small : k.val % 256 = k.val := Nat.mod_eq_of_lt (k.isLt.trans (by decide))
    simp [h, u16, u8, small]
  refine serveReadEntry_found r s _ (by rw [h]; rfl) ?_
  rw [table, index, State.entryBytes, index?_val, Option.map_some]

/-! ### The row through a charge's time in the kiln (R115) -/

theorem State.loadCharge_actions (k : KilnId) (d : Fin 32) (g : Fin 16) (i : Fin 48) (args : List Byte) (s : State)
    (j : KilnId) : ((s.loadCharge k d g i args).kiln j).actions = (s.kiln j).actions := by
  refine State.kiln_field_of_self Kiln.actions k ?_ (fun j hj => ?_) j
  · simp only [State.loadCharge, State.announceState_self, State.kiln_modKiln_self]
    rfl
  · simp only [State.loadCharge, State.announceState_other _ _ _ _ hj, State.kiln_modKiln_other _ _ hj]
    rfl

theorem State.unloadKiln_actions (k : KilnId) (e : EndReason) (s : State) (j : KilnId) :
    ((s.unloadKiln k e).kiln j).actions = (s.kiln j).actions :=
  State.kiln_field_of_self Kiln.actions k (by rw [State.unloadKiln_self]; rfl) (State.unloadKiln_other k e s) j

theorem State.stopKiln_actions (m : Bool) (c : StopCause) (k : KilnId) (s : State) (j : KilnId) :
    ((s.stopKiln m c k).kiln j).actions = (s.kiln j).actions :=
  State.kiln_field_of_self Kiln.actions k (by rw [State.stopKiln_self]; rfl) (State.stopKiln_other m c k s) j

/-- Settles O38: the write and the read by what their owners serve, and the row's standing by the three effects. -/
theorem writeFaultActionsReplacesTheRow : Obligations.WriteFaultActionsReplacesTheRow := by
  unfold Obligations.WriteFaultActionsReplacesTheRow
  refine ⟨rfl, fun s d p g a ready => ?write, fun s d p g k ready => ?read, fun kind r s k hkind => ?kept,
    fun straps eye encA encB k => by rw [State.kiln_afterReset]⟩
  case write =>
    intro r
    have served : exec (.writeFaultActions d p g a) s = .next (answer r (serveWriteFaultActions r s)) :=
      exec_ready _ s .writeFaultActions d p g a rfl ready
    rw [served]
    refine ⟨fun h => ?_, fun k w x y z hlength hk hw hx hy hz => ?_⟩
    · rw [serveWriteFaultActions_refused r s h]
    · rw [serveWriteFaultActions_writes r s k w x y z hlength hk hw hx hy hz]
  case read =>
    intro a
    have served : exec (.readEntry d p g a) s
        = .next (answer (requestFor .readEntry d p g a) (serveReadEntry (requestFor .readEntry d p g a) s)) :=
      exec_ready _ s .readEntry d p g a rfl ready
    rw [served, serveReadEntry_actions _ s k rfl]
    rfl
  case kept =>
    rcases hkind with rfl | rfl | rfl <;> simp only [serve]
    · fun_cases serveLoadCharge r s <;> simp [State.loadCharge_actions]
    · fun_cases serveUnload r s <;> simp [State.unloadKiln_actions]
    · fun_cases serveStop r s <;> simp [State.stopKiln_actions]

end Sys2Proof.Machine
end

section
/-! PROOFS. Line tracking (chapter 8): WRITE_LINE by its checks (R157, R158), WRITE_MARK (R149), and the statement
WriteLineAndMarkReplaceSettings. -/

namespace Sys2Proof.Machine

/-! ### Argument fields and the codes of the early-edge policy -/

theorem u8_le (a : List Byte) (i : Nat) : u8 a i ≤ 255 := Nat.le_of_lt_succ (BitVec.isLt _)

theorem u16_le (a : List Byte) (i : Nat) : u16 a i ≤ 65535 := by
  have high := u8_le a i
  have low := u8_le a (i + 1)
  unfold u16
  omega

/-- A field counts as clamped exactly where its value is not the one that was sent (R29). -/
theorem natField_clamped (lo hi n : Nat) : (natField lo hi n).clamped = ((natField lo hi n).value != n) := rfl

/-- A clamp from 0 has an upper end alone. -/
theorem natField_zero_value (hi n : Nat) : (natField 0 hi n).value = min hi n := Nat.zero_max _

/-- Sixteen bits reach the upper end of the minimum spacing and no further. -/
theorem natField_u16_value (lo : Nat) (a : List Byte) (i : Nat) : (natField lo 65535 (u16 a i)).value =
    max lo (u16 a i) :=
  congrArg (max lo) (min_eq_right (u16_le a i))

theorem EdgePolicy.ofCode?_eq_some_iff (n : Nat) (e : EdgePolicy) : EdgePolicy.ofCode? n = some e ↔ n = e.code := by
  constructor
  · intro h
    unfold EdgePolicy.ofCode? at h
    split at h <;> cases h <;> rfl
  · rintro rfl
    cases e <;> rfl

theorem EdgePolicy.exists_code_iff (n : Nat) : (∃ e : EdgePolicy, n = e.code) ↔ n ≤ 1 := by
  constructor
  · rintro ⟨e, rfl⟩
    cases e <;> decide
  · intro h
    interval_cases n
    · exact ⟨.split, rfl⟩
    · exact ⟨.merge, rfl⟩

theorem index?_eq_some_iff {n : Nat} (m : Nat) (i : Fin n) : index? n m = some i ↔ m = i.val := by
  constructor
  · intro h
    unfold index? at h
    split at h
    · cases h; rfl
    · cases h
  · rintro rfl
    exact index?_val i

/-! ### What WRITE_LINE asks for (R158) -/

/-- The settings that the arguments of WRITE_LINE ask for, each numeric field clamped into its range (R29, R158). -/
def LineSettings.ofArgs (a : List Byte) (policy : EdgePolicy) (species bin : Fin 16) : LineSettings where
  minSpacing := max 1 (u16 a 0)
  policy := policy
  markDistance := max 1 (min 4194304 (u24 a 3))
  stackerDistance := max 1 (min 4194304 (u24 a 6))
  defaultSpecies := species
  fallThrough := bin
  overdry := min 600 (u16 a 11)
  wet := min 600 (u16 a 13)
  redry := min 600 (u16 a 15)
  labelTimeout := max 5 (min 120 (u8 a 17))

/-- Checks 3 and 4 of R158: the mark point comes before the stacker point, and the class limits are in order. -/
abbrev LineSettings.Ordered (x : LineSettings) : Prop :=
  x.markDistance < x.stackerDistance ∧ x.overdry < x.wet ∧ x.wet ≤ x.redry

/-- Every numeric field of the settings is as the arguments gave it: no clamp changed one. -/
abbrev LineSettings.AsSent (x : LineSettings) (a : List Byte) : Prop :=
  x.minSpacing = u16 a 0 ∧ x.markDistance = u24 a 3 ∧ x.stackerDistance = u24 a 6 ∧ x.overdry = u16 a 11
    ∧ x.wet = u16 a 13 ∧ x.redry = u16 a 15 ∧ x.labelTimeout = u8 a 17

/-- Check 5 of R158. -/
theorem Line.mayTake_iff (l : Line) (x : LineSettings) : l.mayTake x = true ↔ l.queue = [] ∨
    (x.markDistance = l.settings.markDistance ∧ x.stackerDistance = l.settings.stackerDistance
      ∧ x.policy = l.settings.policy) := by
  simp [Line.mayTake, and_assoc]

/-- The two refusals of checks 3 and 4 are one: that of settings out of order. -/
theorem LineSettings.refused_unless_ordered {α : Type} (x : LineSettings) (refused taken : α) :
    (if x.stackerDistance ≤ x.markDistance then refused
      else if x.wet ≤ x.overdry ∨ x.redry < x.wet then refused else taken)
      = if x.Ordered then taken else refused := by
  by_cases distances : x.markDistance < x.stackerDistance
  · by_cases limits : x.overdry < x.wet ∧ x.wet ≤ x.redry
    · rw [if_neg (by omega), if_neg (by omega), if_pos ⟨distances, limits⟩]
    · rw [if_neg (by omega), if_pos (by omega), if_neg fun ordered => limits ordered.2]
  · rw [if_pos (by omega), if_neg fun ordered => distances ordered.1]

/-- A write replies OK where every field is as sent, and OK_CLAMPED where a clamp changed one (R29). -/
theorem okClampedIf_changed (x : LineSettings) (a : List Byte) (s : State) :
    okClampedIf (x.minSpacing != u16 a 0 || x.markDistance != u24 a 3 || x.stackerDistance != u24 a 6
        || x.overdry != u16 a 11 || x.wet != u16 a 13 || x.redry != u16 a 15 || x.labelTimeout != u8 a 17) s []
      = ⟨s, if x.AsSent a then .ok else .okClamped, []⟩ := by
  by_cases sent : x.AsSent a
  · rw [if_pos sent]
    simpa [okClampedIf, LineSettings.AsSent, and_assoc] using sent
  · rw [if_neg sent]
    simpa [okClampedIf] using sent

/-! ### WRITE_LINE by its checks (R158) -/

/-- Checks 1 and 2: eighteen arguments, a policy's code, and a species and a bin below 16. -/
theorem serveWriteLine_codes (r : Request) (s : State)
    (h : r.args.length ≠ 18 ∨ 1 < u8 r.args 2 ∨ 15 < u8 r.args 9 ∨ 15 < u8 r.args 10) :
    serveWriteLine r s = ⟨s, .badArgument, []⟩ := by
  unfold serveWriteLine
  split
  · rfl
  · next hlength =>
      dsimp only
      split
      · next policy species bin hpolicy hspecies hbin =>
          rw [EdgePolicy.ofCode?_eq_some_iff] at hpolicy
          rw [index?_eq_some_iff] at hspecies hbin
          have policyKnown := (EdgePolicy.exists_code_iff _).mp ⟨policy, hpolicy⟩
          omega
      · rfl

/-- With the codes known, what the arguments ask for goes through checks 3 to 5 and is then in force as a whole. -/
theorem serveWriteLine_settings (r : Request) (s : State) (policy : EdgePolicy) (species bin : Fin 16)
    (hlength : r.args.length = 18) (hpolicy : u8 r.args 2 = policy.code) (hspecies : u8 r.args 9 = species.val)
    (hbin : u8 r.args 10 = bin.val) : serveWriteLine r s =
      let x := LineSettings.ofArgs r.args policy species bin
      if x.Ordered then
        if s.line.mayTake x = true then
          ⟨{ s with line := { s.line with settings := x } }, if x.AsSent r.args then .ok else .okClamped, []⟩
        else ⟨s, .wrongState, []⟩
      else ⟨s, .badArgument, []⟩ := by
  rw [← EdgePolicy.ofCode?_eq_some_iff] at hpolicy
  rw [← index?_eq_some_iff] at hspecies hbin
  simp only [serveWriteLine, hlength, hpolicy, hspecies, hbin, ne_eq, not_true_eq_false, if_false, natField_clamped,
    natField_zero_value, natField_u16_value]
  rw [← LineSettings.refused_unless_ordered, ← okClampedIf_changed]
  rfl

/-- Checks 1 to 4 together: what the arguments get refused whatever the line is doing. -/
theorem serveWriteLine_arguments (r : Request) (s : State)
    (h : r.args.length ≠ 18 ∨ 1 < u8 r.args 2 ∨ 15 < u8 r.args 9 ∨ 15 < u8 r.args 10 ∨
      ∀ (policy : EdgePolicy) (species bin : Fin 16), ¬ (LineSettings.ofArgs r.args policy species bin).Ordered) :
    serveWriteLine r s = ⟨s, .badArgument, []⟩ := by
  by_cases codes : r.args.length ≠ 18 ∨ 1 < u8 r.args 2 ∨ 15 < u8 r.args 9 ∨ 15 < u8 r.args 10
  · exact serveWriteLine_codes r s codes
  · simp only [not_or, Nat.not_lt, ne_eq, not_not] at codes
    obtain ⟨hlength, hpolicy, hspecies, hbin⟩ := codes
    have unordered := (((h.resolve_left (not_not.mpr hlength)).resolve_left hpolicy.not_gt).resolve_left
      hspecies.not_gt).resolve_left hbin.not_gt
    obtain ⟨policy, hcode⟩ := (EdgePolicy.exists_code_iff _).mpr hpolicy
    have decided := serveWriteLine_settings r s policy ⟨_, Nat.lt_succ_of_le hspecies⟩ ⟨_, Nat.lt_succ_of_le hbin⟩
      hlength hcode rfl rfl
    exact decided.trans (if_neg (unordered policy _ _))

/-! ### WRITE_MARK by its checks (R149) -/

theorem serveWriteMark_refused (r : Request) (s : State) (h : r.args.length ≠ 6 ∨ 5 < u8 r.args 0) :
    serveWriteMark r s = ⟨s, .badArgument, []⟩ := by
  unfold serveWriteMark
  split
  · rfl
  · next hlength =>
      have above : 6 ≤ u8 r.args 0 := h.resolve_left hlength
      rw [index?_of_le 6 _ above]
      rfl

theorem serveWriteMark_writes (r : Request) (s : State) (i : Fin 6) (hlength : r.args.length = 6)
    (hindex : u8 r.args 0 = i.val) : serveWriteMark r s =
      ⟨{ s with line := { s.line with
          patterns := s.line.patterns.set i ⟨BitVec.ofNat 4 (u8 r.args 1), u16 r.args 2, u16 r.args 4⟩ } }, .ok, []⟩ := by
  simp [serveWriteMark, hlength, hindex, okWith, State.modLine]

/-- Settles O47: WRITE_LINE by what its arguments alone get refused and, with its codes known, by the settings they ask
for; WRITE_MARK by its two cases. -/
theorem writeLineAndMarkReplaceSettings : Obligations.WriteLineAndMarkReplaceSettings := by
  unfold Obligations.WriteLineAndMarkReplaceSettings
  refine ⟨rfl, rfl, fun s d p g a => ⟨fun ready => ?line, fun ready => ?mark⟩⟩
  case line =>
    intro r refused mark stacker overdry wet redry
    have served : exec (.writeLine d p g a) s = .next (answer r (serveWriteLine r s)) :=
      exec_ready _ s .writeLine d p g a rfl ready
    refine ⟨fun h => ?arguments,
      fun policy species bin hlength hpolicy hspecies hbin hdistances hwet hredry => ?settings⟩
    case arguments =>
      have refuses : serveWriteLine r s = ⟨s, .badArgument, []⟩ := by
        refine serveWriteLine_arguments r s (h.imp_right <| Or.imp_right <| Or.imp_right <| Or.imp_right ?_)
        rintro (distances | limits | limits) policy species bin ⟨markFirst, overdryFirst, wetFirst⟩
        · exact Nat.not_lt.mpr distances markFirst
        · exact Nat.not_lt.mpr limits overdryFirst
        · exact Nat.not_le.mpr limits wetFirst
      exact served.trans (by rw [refuses])
    case settings =>
      intro x same free
      have ordered : x.Ordered := ⟨hdistances, hwet, hredry⟩
      have decided : serveWriteLine r s = if s.line.mayTake x = true then
          ⟨{ s with line := { s.line with settings := x } }, if x.AsSent a then .ok else .okClamped, []⟩
          else ⟨s, .wrongState, []⟩ :=
        (serveWriteLine_settings r s policy species bin hlength hpolicy hspecies hbin).trans (if_pos ordered)
      have mayTake_iff_free : s.line.mayTake x = true ↔ free := s.line.mayTake_iff x
      rw [decided] at served
      refine ⟨fun bound => ?wrongState, fun unbound => ⟨if x.AsSent a then .ok else .okClamped, ?taken,
        fun sent => if_pos sent, fun clamped => if_neg clamped⟩⟩
      case wrongState => rwa [if_neg (mt mayTake_iff_free.mp bound)] at served
      case taken => rwa [if_pos (mayTake_iff_free.mpr unbound)] at served
  case mark =>
    intro r
    have served : exec (.writeMark d p g a) s = .next (answer r (serveWriteMark r s)) :=
      exec_ready _ s .writeMark d p g a rfl ready
    rw [served]
    refine ⟨fun h => ?_, fun i hlength hindex => ?_⟩
    · rw [serveWriteMark_refused r s h]
    · rw [serveWriteMark_writes r s i hlength hindex]
      rfl

end Sys2Proof.Machine
end

section
/-! PROOFS. Sorting and packs (chapter 9): the first sort list entry that a board matches (R163), what a close leaves of the
bins, the pack numbers and the log (R165, R171, R175), the pack with a board added (R168), the three ways of placing a
board (R166 to R168), and the statement BoardsAreSortedIntoPacks. -/

namespace Sys2Proof.Machine

/-! ### The sort list (R163) -/

theorem SortEntry.takes_iff (e : SortEntry) (cls : MoistureClass) (scan : Option ScanData) :
    e.takes cls scan = true ↔ e.mask.getLsbD cls.code = true ∧ ∀ x, scan = some x →
      e.gradeLow ≤ x.grade ∧ x.grade ≤ e.gradeHigh ∧ e.lengthLow ≤ x.length ∧ x.length ≤ e.lengthHigh := by
  cases scan <;> simp [SortEntry.takes, SortEntry.takesScan, and_assoc]

theorem State.chooseBin_long (s : State) (b : Board) (h : b.long = true) :
    s.chooseBin b = s.line.settings.fallThrough := if_pos h

/-- The search from index 0 stops at an entry that takes the board while no earlier one does. -/
theorem State.chooseBin_first (s : State) (b : Board) (i : Fin 16) (hlong : b.long = false)
    (htakes : s.sortList[i].takes b.settled b.scan = true)
    (hbefore : ∀ j : Fin 16, j < i → ¬ s.sortList[j].takes b.settled b.scan = true) :
    s.chooseBin b = s.sortList[i].bin := by
  have found : s.sortList.toList.find? (fun e => e.takes b.settled b.scan) = some s.sortList[i] := by
    rw [List.find?_eq_some_iff_getElem]
    refine ⟨htakes, i.val, by simp, by simp, fun j hj => ?_⟩
    simpa using hbefore ⟨j, hj.trans i.isLt⟩ hj
  simp [State.chooseBin, hlong, found]

theorem State.chooseBin_none (s : State) (b : Board) (hlong : b.long = false)
    (hnone : ∀ i : Fin 16, ¬ s.sortList[i].takes b.settled b.scan = true) :
    s.chooseBin b = s.line.settings.fallThrough := by
  have missed : s.sortList.toList.find? (fun e => e.takes b.settled b.scan) = none := by
    rw [List.find?_eq_none]
    intro e he
    obtain ⟨i, hi, rfl⟩ := Vector.getElem_of_mem (Vector.mem_toList_iff.mp he)
    exact hnone ⟨i, hi⟩
  simp [State.chooseBin, hlong, missed]

/-! ### What leaves the bins, the pack numbers and the pack log as they are -/

/-- What the pack builder keeps: the bins with their open packs, the next pack number and the pack log. -/
def State.packSide (s : State) : Vector Bin 16 × Word × List LogEntry := (s.bins, s.nextPack, s.packLog)

theorem State.bins_of_packSide {s t : State} (h : t.packSide = s.packSide) : t.bins = s.bins :=
  (congrArg Prod.fst h :)

@[simp] theorem State.raise_packSide (n : Notice) (s : State) : (s.raise n).packSide = s.packSide := by
  simp [State.packSide]

@[simp] theorem State.produceRows_packSide (s : State) : s.produceRows.packSide = s.packSide := by
  simp [State.packSide]

@[simp] theorem State.modLine_packSide (f : Line → Line) (s : State) : (s.modLine f).packSide = s.packSide := rfl

@[simp] theorem State.modLabels_packSide (f : LabelUnit → LabelUnit) (s : State) :
    (s.modLabels f).packSide = s.packSide := rfl

@[simp] theorem State.drewFree_packSide (n : Nat) (s : State) : (s.drewFree n).packSide = s.packSide := rfl

@[simp] theorem State.takeRef_packSide (c : Option Nat) (s : State) : (s.takeRef c).packSide = s.packSide := by
  fun_cases State.takeRef c s
  · unfold State.modCharge; split <;> rfl
  · rfl

@[simp] theorem State.releaseRef_packSide (c : Option Nat) (s : State) : (s.releaseRef c).packSide = s.packSide := by
  fun_cases State.releaseRef c s <;> rfl

theorem State.releaseRef_foldl_packSide (l : List (Option Nat)) (s : State) :
    (l.foldl (fun t c => t.releaseRef c) s).packSide = s.packSide := by
  induction l generalizing s with
  | nil => rfl
  | cons c l ih => rw [List.foldl_cons, ih, State.releaseRef_packSide]

@[simp] theorem State.releaseRefs_packSide (l : List (Option Nat)) (s : State) :
    (s.releaseRefs l).packSide = s.packSide := by
  simp [State.releaseRefs, State.releaseRef_foldl_packSide]

@[simp] theorem State.evaluateHold_packSide (s : State) : s.evaluateHold.packSide = s.packSide := by
  simp only [State.evaluateHold]; split <;> simp

@[simp] theorem State.startHead_packSide (s : State) : s.startHead.packSide = s.packSide := by
  fun_cases State.startHead s <;> simp

@[simp] theorem State.handOff_packSide (p : Pack) (bin : Fin 16) (r : CloseReason) (s : State) :
    (s.handOff p bin r).packSide = s.packSide := by
  fun_cases State.handOff p bin r s <;> simp +zetaDelta

@[simp] theorem State.makeLot_packSide (p : Pack) (s : State) : (s.makeLot p).packSide = s.packSide := by
  fun_cases State.makeLot p s <;> rfl

@[simp] theorem State.raiseLotLost_packSide (p : Pack) (c : Option Nat) (s : State) :
    (s.raiseLotLost p c).packSide = s.packSide := by
  fun_cases State.raiseLotLost p c s <;> simp

@[simp] theorem State.raiseNoLabel_packSide (p : Pack) (bin : Fin 16) (o : LabelOutcome) (s : State) :
    (s.raiseNoLabel p bin o).packSide = s.packSide := by
  fun_cases State.raiseNoLabel p bin o s <;> simp

/-! ### A close, as the pack builder sees it (R171, R175) -/

theorem State.writeLog_packSide (e : LogEntry) (s : State) : (s.writeLog e).packSide =
    (s.bins, s.nextPack, (if Config.logCapacity ≤ s.packLog.length then s.packLog.tail else s.packLog) ++ [e]) := rfl

/-- What changes a bin after the rest has left the pack builder's side alone. -/
theorem State.modBin_packSide (bin : Fin 16) (f : Bin → Bin) (s : State) : (s.modBin bin f).packSide =
    (s.packSide.1.set bin (f s.packSide.1[bin]), s.packSide.2) := rfl

/-- Of the pack builder's side a close empties the pack's bin and writes the pack's log entry; no more. -/
theorem State.closePack_packSide (bin : Fin 16) (p : Pack) (reason : CloseReason) (s : State) :
    ∃ (kept : List LogEntry) (e : LogEntry), (s.closePack bin p reason).packSide =
        (s.bins.set bin { s.bins[bin] with pack := none }, s.nextPack, kept ++ [e])
      ∧ e.pack = p ∧ e.bin = bin ∧ e.reason = reason := by
  have before : ((s.handOff p bin reason).makeLot p).packSide = s.packSide := by simp
  obtain ⟨hbins, hnext, hlog⟩ : _ ∧ _ ∧ _ := by simpa only [State.packSide, Prod.mk.injEq] using before
  simp only [State.closePack, State.modBin_packSide, State.releaseRefs_packSide, State.raiseLotLost_packSide,
    State.raiseNoLabel_packSide, State.raise_packSide, State.writeLog_packSide, hbins, hnext]
  exact ⟨_, _, rfl, rfl, rfl, rfl⟩

theorem State.closePack_bin (bin : Fin 16) (p : Pack) (reason : CloseReason) (s : State) :
    (s.closePack bin p reason).bins[bin] = { s.bins[bin] with pack := none } := by
  obtain ⟨kept, e, closed, -⟩ := s.closePack_packSide bin p reason
  have hbins : (s.closePack bin p reason).bins = s.bins.set bin { s.bins[bin] with pack := none } :=
    (congrArg Prod.fst closed :)
  simp [hbins]

theorem State.closePack_nextPack (bin : Fin 16) (p : Pack) (reason : CloseReason) (s : State) :
    (s.closePack bin p reason).nextPack = s.nextPack := by
  obtain ⟨kept, e, closed, -⟩ := s.closePack_packSide bin p reason
  exact (congrArg (fun x => x.2.1) closed :)

theorem State.closePack_lastLog (bin : Fin 16) (p : Pack) (reason : CloseReason) (s : State) :
    ∃ e, (s.closePack bin p reason).packLog.getLast? = some e ∧ e.pack = p ∧ e.bin = bin ∧ e.reason = reason := by
  obtain ⟨kept, e, closed, entry⟩ := s.closePack_packSide bin p reason
  have hlog : (s.closePack bin p reason).packLog = kept ++ [e] := (congrArg (fun x => x.2.2) closed :)
  exact ⟨e, by simp [hlog], entry⟩

/-! ### A pack with a board added (R168) -/

theorem Pack.takeCharge_eq (c : Option Nat) (p : Pack) :
    p.takeCharge c = { p with charges := if c ∈ p.charges then p.charges else p.charges ++ [c] } := by
  by_cases listed : c ∈ p.charges <;> simp [Pack.takeCharge, listed]

theorem Pack.takeReading_eq (mc : Option Nat) (p : Pack) : p.takeReading mc = { p with
    mcSum := p.mcSum + mc.getD 0, reads := if mc = none then p.reads else p.reads + 1
    mcMin := if mc = none then p.mcMin else some (min (p.mcMin.getD (mc.getD 0)) (mc.getD 0))
    mcMax := if mc = none then p.mcMax else some (max (p.mcMax.getD (mc.getD 0)) (mc.getD 0)) } := by
  cases mc <;> rfl

theorem Pack.takeScan_eq (scan : Option ScanData) (p : Pack) : p.takeScan scan = { p with
    grades := scan.elim p.grades (fun y => widen p.grades y.grade)
    lengths := scan.elim p.lengths (fun y => widen p.lengths y.length) } := by
  cases scan <;> rfl

/-- The four parts of R168 at once, each field by what the board brings to it. -/
theorem Pack.add_eq (b : Board) (p : Pack) : p.add b = { p with
    countdown := p.countdown - 1, count := p.count + 1
    charges := if b.charge ∈ p.charges then p.charges else p.charges ++ [b.charge]
    mcSum := p.mcSum + b.mc.getD 0, reads := if b.mc = none then p.reads else p.reads + 1
    mcMin := if b.mc = none then p.mcMin else some (min (p.mcMin.getD (b.mc.getD 0)) (b.mc.getD 0))
    mcMax := if b.mc = none then p.mcMax else some (max (p.mcMax.getD (b.mc.getD 0)) (b.mc.getD 0))
    grades := b.scan.elim p.grades (fun y => widen p.grades y.grade)
    lengths := b.scan.elim p.lengths (fun y => widen p.lengths y.length) } := by
  rw [Pack.add, Pack.takeCharge_eq, Pack.takeReading_eq, Pack.takeScan_eq]

theorem Pack.add_countdown (b : Board) (p : Pack) : (p.add b).countdown = p.countdown - 1 := by
  rw [Pack.add_eq]

/-- The pack of one board, as it stands in a bin that had none (R166). -/
theorem State.freshPack_add (s : State) (bin : Fin 16) (b : Board) : (s.freshPack bin).add b =
    { number := s.nextPack, kind := s.bins[bin].kind, target := s.bins[bin].target
      countdown := s.bins[bin].target - 1, count := 1, opened := ⟨s.clock.value, s.clock.isSet⟩
      mcSum := b.mc.getD 0, reads := if b.mc = none then 0 else 1, mcMin := b.mc, mcMax := b.mc
      grades := b.scan.map (fun y => ⟨y.grade, y.grade⟩), lengths := b.scan.map (fun y => ⟨y.length, y.length⟩)
      charges := [b.charge] } := by
  rw [Pack.add_eq]
  cases hmc : b.mc <;> cases hscan : b.scan <;> simp [State.freshPack, State.stamp, widen]

/-! ### Placing a board (R166 to R168) -/

/-- A bin is changed as it stands in any part with the same bins. -/
theorem State.modBin_of_bins {s u : State} (h : u.bins = s.bins) (bin : Fin 16) (f : Bin → Bin) :
    u.modBin bin f = { u with bins := s.bins.set bin (f s.bins[bin]) } := by
  simp only [State.modBin, h]

/-- The part with a board counted in a bin whose open pack has become `q`, and with the board's reference taken where its
charge is new to the list `charges` that the pack had before (R127, R164, R168). -/
def State.joined (bin : Fin 16) (b : Board) (charges : List (Option Nat)) (q : Pack) (s : State) : State :=
  (if b.charge ∈ charges then s else s.takeRef b.charge).modBin bin (fun x => { x.countBoard with pack := some q })

theorem State.joined_eq (bin : Fin 16) (b : Board) (charges : List (Option Nat)) (q : Pack) (s : State) :
    s.joined bin b charges q = { (if b.charge ∈ charges then s else s.takeRef b.charge) with
      bins := s.bins.set bin { s.bins[bin] with counter := bump16 s.bins[bin].counter, pack := some q } } := by
  have referred : (if b.charge ∈ charges then s else s.takeRef b.charge).bins = s.bins := by
    split
    · rfl
    · exact State.bins_of_packSide (s.takeRef_packSide b.charge)
  exact State.modBin_of_bins referred bin _

theorem State.joined_bin (bin : Fin 16) (b : Board) (charges : List (Option Nat)) (q : Pack) (s : State) :
    (s.joined bin b charges q).bins[bin] =
      { s.bins[bin] with counter := bump16 s.bins[bin].counter, pack := some q } := by
  simp [State.joined_eq]

/-- A joining board is in the pack, and closes it where the count-down was at its last board. -/
theorem State.addBoard_eq (bin : Fin 16) (b : Board) (p : Pack) (s : State) : s.addBoard bin b p =
    if p.countdown ≤ 1 then (s.joined bin b p.charges (p.add b)).closePack bin (p.add b) .countReached
    else s.joined bin b p.charges (p.add b) := by
  have reached : (p.add b).countdown = 0 ↔ p.countdown ≤ 1 := by rw [Pack.add_countdown]; omega
  simp only [State.addBoard, reached, List.contains_iff_mem]
  rfl

/-- Which number the next pack gets plays no part in taking a reference. -/
theorem State.takeRef_withNextPack (c : Option Nat) (n : Word) (s : State) :
    ({ s with nextPack := n } : State).takeRef c = { s.takeRef c with nextPack := n } := by
  cases c with
  | none => rfl
  | some m =>
    have same : ({ s with nextPack := n } : State).findLive m = s.findLive m := rfl
    simp only [State.takeRef, State.modCharge, same]
    split <;> rfl

theorem State.placeBoard_chute (s : State) (bin : Fin 16) (b : Board) (hpack : s.bins[bin].pack = none)
    (htarget : s.bins[bin].target = 0) : s.placeBoard bin b =
      { s with bins := s.bins.set bin { s.bins[bin] with counter := bump16 s.bins[bin].counter } } := by
  rw [State.placeBoard, hpack]
  exact if_pos htarget

/-- The part with a board counted in a bin and a pack of that board alone opened there with the next number (R165,
R166). -/
def State.opened (bin : Fin 16) (b : Board) (s : State) : State :=
  ({ s with nextPack := nextPackNumber s.nextPack } : State).joined bin b [] ((s.freshPack bin).add b)

theorem State.opened_eq (bin : Fin 16) (b : Board) (s : State) : s.opened bin b =
    { s.takeRef b.charge with
      nextPack := nextPackNumber s.nextPack
      bins := s.bins.set bin { s.bins[bin] with
        counter := bump16 s.bins[bin].counter, pack := some ((s.freshPack bin).add b) } } := by
  simp only [State.opened, State.joined_eq, List.not_mem_nil, if_false, State.takeRef_withNextPack]

theorem State.opened_bin (bin : Fin 16) (b : Board) (s : State) : (s.opened bin b).bins[bin] =
    { s.bins[bin] with counter := bump16 s.bins[bin].counter, pack := some ((s.freshPack bin).add b) } :=
  State.joined_bin bin b [] ((s.freshPack bin).add b) _

theorem State.opened_packLog (bin : Fin 16) (b : Board) (s : State) : (s.opened bin b).packLog = s.packLog := by
  rw [State.opened_eq]
  exact (congrArg (fun x => x.2.2) (s.takeRef_packSide b.charge) :)

/-- A bin without an open pack, and with a target, opens one; at target 1 that pack is full at once. -/
theorem State.placeBoard_opens (s : State) (bin : Fin 16) (b : Board) (hpack : s.bins[bin].pack = none)
    (htarget : 1 ≤ s.bins[bin].target) : s.placeBoard bin b =
      if s.bins[bin].target ≤ 1 then (s.opened bin b).closePack bin ((s.freshPack bin).add b) .countReached
      else s.opened bin b := by
  rw [State.placeBoard, hpack]
  dsimp only
  rw [State.openWith, if_neg (Nat.one_le_iff_ne_zero.mp htarget), State.addBoard_eq]
  rfl

theorem State.placeBoard_keepsOpen (s : State) (bin : Fin 16) (b : Board) (hpack : s.bins[bin].pack = none)
    (htarget : 2 ≤ s.bins[bin].target) : s.placeBoard bin b = s.opened bin b :=
  (s.placeBoard_opens bin b hpack (Nat.le_of_succ_le htarget)).trans (if_neg (Nat.not_le.mpr htarget))

theorem Pack.mixes_iff (p : Pack) (c : Option Nat) : p.mixes c = true ↔ c ∉ p.charges ∧ 4 ≤ p.charges.length := by
  simp [Pack.mixes]

theorem State.placeBoard_joins (s : State) (bin : Fin 16) (b : Board) (k : Pack) (hpack : s.bins[bin].pack = some k)
    (hroom : b.charge ∈ k.charges ∨ k.charges.length < 4) : s.placeBoard bin b =
      if k.countdown ≤ 1 then (s.joined bin b k.charges (k.add b)).closePack bin (k.add b) .countReached
      else s.joined bin b k.charges (k.add b) := by
  have takes : ¬ k.mixes b.charge = true := fun h =>
    have ⟨hnew, hfull⟩ := (k.mixes_iff b.charge).mp h
    hroom.elim hnew (Nat.not_lt.mpr hfull)
  rw [← State.addBoard_eq, State.placeBoard, hpack]
  exact if_neg takes

/-- A board of a fifth charge finds the bin as its closed pack leaves it, without an open pack (R167). -/
theorem State.placeBoard_mixes (s : State) (bin : Fin 16) (b : Board) (k : Pack) (hpack : s.bins[bin].pack = some k)
    (hnew : b.charge ∉ k.charges) (hfull : 4 ≤ k.charges.length) :
    s.placeBoard bin b = (s.closePack bin k .chargeMix).placeBoard bin b := by
  have emptied : (s.closePack bin k .chargeMix).bins[bin].pack = none := by rw [State.closePack_bin]
  rw [State.placeBoard, hpack, State.placeBoard, emptied]
  exact if_pos ((k.mixes_iff b.charge).mpr ⟨hnew, hfull⟩)

/-- Settles O49: the bin by the three outcomes of the search; a placed board by the three lemmas about `placeBoard`, of
which that of a fifth charge leads back to the bin without an open pack. -/
theorem boardsAreSortedIntoPacks : Obligations.BoardsAreSortedIntoPacks := by
  unfold Obligations.BoardsAreSortedIntoPacks
  refine ⟨fun s b cls hcls => ?sorting, fun s bin b => ?placing⟩
  case sorting =>
    intro matchesEntry
    have matches_iff (e : SortEntry) : matchesEntry e ↔ e.takes b.settled b.scan = true := by
      rw [show b.settled = cls by simp [Board.settled, hcls]]
      exact (e.takes_iff cls b.scan).symm
    simp only [matches_iff]
    exact ⟨s.chooseBin_long b, s.chooseBin_first b, s.chooseBin_none b⟩
  case placing =>
    intro x t
    refine ⟨s.placeBoard_chute bin b, fun hpack htarget => ?opens, fun hpack htarget => ?opened,
      fun k hpack hroom => ?joins, fun k => s.placeBoard_mixes bin b k,
      fun k hpack hnew hfull htarget => ?mixes⟩
    case opens =>
      intro first started
      have placed := s.placeBoard_opens bin b hpack htarget
      have hfirst : (s.freshPack bin).add b = first := s.freshPack_add bin b
      have hstarted : s.opened bin b = started := by
        rw [State.opened_eq, hfirst]
        rfl
      rw [hfirst, hstarted] at placed
      exact ⟨fun h => placed.trans (if_neg (Nat.not_le.mpr h)), fun h => placed.trans (if_pos h.le)⟩
    case opened =>
      have placed : t = s.opened bin b := s.placeBoard_keepsOpen bin b hpack htarget
      rw [placed, State.opened_bin, State.freshPack_add, State.opened_eq]
      exact ⟨rfl, rfl⟩
    case joins =>
      intro full added
      have hfull : k.add b = full := by
        simp only [full]
        rw [Pack.add_eq]
      have hadded : s.joined bin b k.charges full = added := State.joined_eq bin b k.charges full s
      have hgrades : full.grades = b.scan.elim k.grades (fun y => widen k.grades y.grade) := by
        rw [← hfull, Pack.add_eq]
      have hlengths : full.lengths = b.scan.elim k.lengths (fun y => widen k.lengths y.length) := by
        rw [← hfull, Pack.add_eq]
      have placed := s.placeBoard_joins bin b k hpack hroom
      rw [hfull, hadded] at placed
      have stays (h : 2 ≤ k.countdown) : t = added := placed.trans (if_neg (Nat.not_le.mpr h))
      have closes (h : k.countdown = 1) : t = added.closePack bin full .countReached := placed.trans (if_pos h.le)
      have hbin : added.bins[bin] = { x with counter := bump16 x.counter, pack := some full } := by
        rw [← hadded, State.joined_bin]
      refine ⟨stays, closes, fun h => ?_, fun h => ⟨?_, ?_⟩, fun y hy hk => ?_, fun y z hy hk => ?_, fun y hy hk => ?_,
        fun y z hy hk => ?_, fun hscan => ?_⟩
      · rw [stays h, hbin]
      · rw [closes h, State.closePack_bin, hbin]
      · rw [closes h]
        exact added.closePack_lastLog bin full .countReached
      · rw [hgrades, hy, hk]; rfl
      · rw [hgrades, hy, hk]; rfl
      · rw [hlengths, hy, hk]; rfl
      · rw [hlengths, hy, hk]; rfl
      · rw [hgrades, hlengths, hscan]; exact ⟨rfl, rfl⟩
    case mixes =>
      have emptied : (s.closePack bin k .chargeMix).bins[bin].pack = none := by rw [State.closePack_bin]
      have sameTarget : (s.closePack bin k .chargeMix).bins[bin].target = x.target := by rw [State.closePack_bin]
      have placed : t = (s.closePack bin k .chargeMix).opened bin b :=
        (s.placeBoard_mixes bin b k hpack hnew hfull).trans
          (State.placeBoard_keepsOpen _ bin b emptied (htarget.trans_eq sameTarget.symm))
      rw [placed, State.opened_bin, State.opened_packLog, State.freshPack_add, State.closePack_nextPack, sameTarget]
      exact ⟨_, rfl, rfl, rfl, rfl, rfl, s.closePack_lastLog bin k .chargeMix⟩

end Sys2Proof.Machine
end

section
/-! PROOFS. What serving a request and running a command can do, said once: the effects of an accepted request with the
checks it has passed, what a step runs, and the induction over a step that the invariants and the frames use. -/

namespace Sys2Proof.Machine

/-! ### The effect of a served request (R23, R25) -/

/-- What serving a request of a kind can leave of the part: nothing changed, or the effect of its owner with the checks
that have passed before it. -/
inductive Effect (r : Request) (s : State) : ReqKind → State → Prop
  | unchanged (kind : ReqKind) : Effect r s kind s
  | readFree : Effect r s .readKiln (s.drewFree 5)
  | clearPort (p : PortId) : Effect r s .readCounters (s.clearPort p)
  | clearSupervision : Effect r s .readCounters { s with supervision := {} }
  | clearLine : Effect r s .readCounters (s.modLine (fun l => { l with counters := {} }))
  | heartbeat (d : StationId) : Effect r s .heartbeat (s.heartbeat d)
  | setClock (c : MillClock) : Effect r s .setClock { s with clock := c }
  | loadCharge (k : KilnId) (d : Fin 32) (g : Fin 16) (i : Fin 48) (hk : kilnArg? r.args 0 = some k)
      (fits : loadFits r.args = true) (idle : (s.kiln k).state = .idle) (bind : s.bindRefusal k d g = none)
      (load : s.loadRefusal d g r.args = none) (record : s.recordToTake = some i) :
      Effect r s .loadCharge (s.loadCharge k d g i r.args)
  | startKiln (k : KilnId) (p : StepPosition) (hk : kilnArg? r.args 0 = some k) (loaded : (s.kiln k).state = .loaded)
      (position : (s.kiln k).position = some p) : Effect r s .startKiln (s.startKiln k p)
  | override (k : KilnId) (dry wet : Int) (dr wr : Nat) (hk : kilnArg? r.args 0 = some k)
      (state : (s.kiln k).state = .running ∨ (s.kiln k).state = .held) (room : (s.kiln k).stack.length < 4) :
      Effect r s .override (s.pushHold false (.override dry wet dr wr) k)
  | resume (k : KilnId) (top : HoldEntry) (rest : List HoldEntry) (hk : kilnArg? r.args 0 = some k)
      (stack : (s.kiln k).stack = top :: rest) : Effect r s .resume (s.resumeEntry top.kind k)
  | stop (k : KilnId) (hk : kilnArg? r.args 0 = some k)
      (state : (s.kiln k).state = .running ∨ (s.kiln k).state = .held) : Effect r s .stop (s.stopKiln false .request k)
  | restart (k : KilnId) (hk : kilnArg? r.args 0 = some k) (stopped : (s.kiln k).state = .stopped) :
      Effect r s .restart (s.restartKiln k)
  | unload (k : KilnId) (reason : EndReason) (hk : kilnArg? r.args 0 = some k)
      (state : (s.kiln k).state.unloadReason = some reason) : Effect r s .unload (s.unloadKiln k reason)
  | feedNone : Effect r s .planerFeed (s.planerFeed 0)
  | feed (n : Nat) (c : Charge) (nonzero : n ≠ 0) (found : s.charge? n = some c) (state : c.state.finishing = true) :
      Effect r s .planerFeed (s.planerFeed n)
  | release (n : Nat) (i : Fin 48) (found : s.findLive n = some i) (state : s.charges[i].state.finishing = true)
      (unreferenced : s.charges[i].refs = 0) : Effect r s .releaseCharge (s.closeRecord i)
  | closePack (bin : Fin 16) (p : Pack) (isOpen : s.bins[bin].pack = some p) :
      Effect r s .closePack (s.closePack bin p .forced)
  | lineReset : Effect r s .lineReset s.lineReset
  | editOpen (d : Fin 32) (closed : s.staging = none) :
      Effect r s .editOpen { s with staging := some ⟨d, s.directory[d].header, s.directory[d].steps, 0⟩ }
  | editHeader (e : Staging) (h : Header) (isOpen : s.staging = some e) (count : h.count ≤ 24) :
      Effect r s .editHeader { s with staging := some { e with header := h, timer := 0 } }
  | editStep (e : Staging) (x : Vector Step 24) (isOpen : s.staging = some e) :
      Effect r s .editStep { s with staging := some { e with steps := x, timer := 0 } }
  | editCommit (e : Staging) (isOpen : s.staging = some e) (valid : e.firstFault = none) :
      Effect r s .editCommit { s.modEntry e.target (fun x => { x with
        valid := true, generation := nextGeneration s.directory[e.target].generation, header := e.header, steps := e.steps })
        with staging := none }
  | editAbort : Effect r s .editAbort { s with staging := none }
  | entryDelete (d : Fin 32) (unused : s.directory[d].inUse = 0) : Effect r s .entryDelete (s.modEntry d (fun _ => {}))
  | writeStation (d : StationId) (e : Station) (other : d ≠ s.own) (notify : e.notify = true → e.role = .supervisor) :
      Effect r s .writeStation (s.writeStation d e)
  | writeSpecies (x : Vector SpeciesGroup 16) : Effect r s .writeSpecies { s with species := x }
  | writeKilnLimits (k : KilnId) (l : Limits) (hk : kilnArg? r.args 0 = some k) (legal : l.Legal) :
      Effect r s .writeKilnLimits (s.modKiln k (Kiln.writeLimits l))
  | writeFaultActions (k : KilnId) (x : PerFault FaultAction) (hk : kilnArg? r.args 0 = some k) :
      Effect r s .writeFaultActions (s.modKiln k (fun q => { q with actions := x }))
  | writeWatchdog (upper lower : Nat) : Effect r s .writeWatchdog
      { s with watchdog := { s.watchdog with upperWritten := upper, lowerWritten := lower } }
  | writeLine (x : LineSettings) : Effect r s .writeLine (s.modLine (fun l => { l with settings := x }))
  | writeMark (x : Vector MarkPattern 6) : Effect r s .writeMark (s.modLine (fun l => { l with patterns := x }))
  | writeSort (x : Vector SortEntry 16) : Effect r s .writeSort { s with sortList := x }
  | writeBin (i : Fin 16) (target : Nat) (kind : PackKind) :
      Effect r s .writeBin (s.modBin i (fun b => { b with target := target, kind := kind }))
  | writeLabelField (i : Fin 16) (f : Option LabelField) : Effect r s .writeLabelField (s.setField i f)
  | setPackBase (n : Word) : Effect r s .setPackBase { s with nextPack := n }

/-- A field clamp lies within its bounds (R29). -/
theorem clampInt_bounds {lo hi : Int} (x : Int) (h : lo ≤ hi) : lo ≤ clampInt lo hi x ∧ clampInt lo hi x ≤ hi := by
  unfold clampInt; omega

theorem clampNat_bounds {lo hi : Nat} (x : Nat) (h : lo ≤ hi) : lo ≤ clampNat lo hi x ∧ clampNat lo hi x ≤ hi := by
  unfold clampNat; omega

/-- The record that WRITE_KILN_LIMITS writes keeps its values in order (R79). -/
theorem serveWriteKilnLimits_effect (r : Request) (s : State) :
    Effect r s .writeKilnLimits (serveWriteKilnLimits r s).st := by
  fun_cases serveWriteKilnLimits r s
  case case4 k hk a dMin dMax pLow pHigh band devMin silMin sDry rate iDry group tBand mBand ordered sDry2 sWet iDry2 iWet =>
    refine .writeKilnLimits k _ hk ?_
    have hmin := clampInt_bounds (lo := 0) (hi := 1300) (i16 a 1) (by decide)
    have hmax := clampInt_bounds (lo := 0) (hi := 1300) (i16 a 3) (by decide)
    have inOrder : dMin.value ≤ dMax.value := by omega
    have hsafe := clampInt_bounds sDry.value inOrder
    have hidle := clampInt_bounds iDry.value inOrder
    have hswet := clampInt_bounds (i16 a 15) (hmin.1.trans hsafe.1)
    have hiwet := clampInt_bounds (i16 a 20) (hmin.1.trans hidle.1)
    exact ⟨hmin.1, inOrder, hmax.2, hidle.1, hidle.2, hiwet.1, hiwet.2, hsafe.1, hsafe.2, hswet.1, hswet.2⟩
  all_goals exact .unchanged _

theorem serveLoadCharge_effect (r : Request) (s : State) : Effect r s .loadCharge (serveLoadCharge r s).st := by
  fun_cases serveLoadCharge r s
  case case8 fits g k hk hg idle mapped d hd bind load i record =>
    exact .loadCharge k d g i hk (by simpa using fits) (by simpa using idle) bind load record
  all_goals exact .unchanged _

theorem serveWriteStation_effect (r : Request) (s : State) : Effect r s .writeStation (serveWriteStation r s).st := by
  fun_cases serveWriteStation r s
  case case5 =>
    rename_i other notify _ _
    exact .writeStation _ _ other (by simpa using notify)
  all_goals exact .unchanged _

theorem serveReadKiln_effect (r : Request) (s : State) : Effect r s .readKiln (serveReadKiln r s).st := by
  fun_cases serveReadKiln r s
  case case2 =>
    rw [okWith_st]
    split
    · exact .readFree
    · exact .unchanged _
  all_goals exact .unchanged _

theorem serveReadCharge_effect (r : Request) (s : State) : Effect r s .readCharge (serveReadCharge r s).st := by
  fun_cases serveReadCharge r s <;> exact .unchanged _

theorem serveReadPackLog_effect (r : Request) (s : State) : Effect r s .readPackLog (serveReadPackLog r s).st := by
  fun_cases serveReadPackLog r s <;> exact .unchanged _

theorem serveReadLot_effect (r : Request) (s : State) : Effect r s .readLot (serveReadLot r s).st := by
  fun_cases serveReadLot r s <;> exact .unchanged _

theorem serveReadEntry_effect (r : Request) (s : State) : Effect r s .readEntry (serveReadEntry r s).st := by
  fun_cases serveReadEntry r s <;> exact .unchanged _

theorem serveReadLine_effect (r : Request) (s : State) : Effect r s .readLine (serveReadLine r s).st := by
  fun_cases serveReadLine r s <;> exact .unchanged _

theorem serveReadCounters_effect (r : Request) (s : State) : Effect r s .readCounters (serveReadCounters r s).st := by
  fun_cases serveReadCounters r s
  case case2 => exact .clearPort .a
  case case3 => exact .clearPort .b
  case case4 => exact .clearSupervision
  case case5 => exact .clearLine
  all_goals exact .unchanged _

theorem serveHeartbeat_effect (r : Request) (s : State) : Effect r s .heartbeat (serveHeartbeat r s).st := by
  fun_cases serveHeartbeat r s
  case case1 => exact .unchanged _
  case case2 => exact .heartbeat r.station

theorem serveSetClock_effect (r : Request) (s : State) : Effect r s .setClock (serveSetClock r s).st := by
  fun_cases serveSetClock r s
  case case1 => exact .unchanged _
  case case2 => exact .setClock _

theorem serveStartKiln_effect (r : Request) (s : State) : Effect r s .startKiln (serveStartKiln r s).st := by
  fun_cases serveStartKiln r s
  case case3 k hk p position loaded t => exact .startKiln k p hk loaded position
  all_goals exact .unchanged _

theorem serveOverride_effect (r : Request) (s : State) : Effect r s .override (serveOverride r s).st := by
  fun_cases serveOverride r s
  case case5 k hk q state room dr wr dry wet t =>
    rw [okClampedIf_st]
    exact .override k _ _ _ _ hk ((not_and_or.mp state).imp not_not.mp not_not.mp) (Nat.lt_of_not_le room)
  all_goals exact .unchanged _

theorem serveResume_effect (r : Request) (s : State) : Effect r s .resume (serveResume r s).st := by
  fun_cases serveResume r s
  case case5 k hk top rest stack _ t => exact .resume k top rest hk stack
  all_goals exact .unchanged _

theorem serveStop_effect (r : Request) (s : State) : Effect r s .stop (serveStop r s).st := by
  fun_cases serveStop r s
  case case4 k hk q state =>
    rw [okWith_st]
    exact .stop k hk ((not_and_or.mp state).imp not_not.mp not_not.mp)
  all_goals exact .unchanged _

theorem serveRestart_effect (r : Request) (s : State) : Effect r s .restart (serveRestart r s).st := by
  fun_cases serveRestart r s
  case case5 k hk stopped _ t =>
    rw [okWith_st]
    exact .restart k hk (not_not.mp stopped)
  all_goals exact .unchanged _

theorem serveUnload_effect (r : Request) (s : State) : Effect r s .unload (serveUnload r s).st := by
  fun_cases serveUnload r s
  case case4 k hk reason state => exact .unload k reason hk state
  all_goals exact .unchanged _

theorem servePlanerFeed_effect (r : Request) (s : State) : Effect r s .planerFeed (servePlanerFeed r s).st := by
  fun_cases servePlanerFeed r s
  case case2 => exact .feedNone
  case case4 n nonzero c found state => exact .feed n c nonzero found state
  all_goals exact .unchanged _

theorem serveReleaseCharge_effect (r : Request) (s : State) : Effect r s .releaseCharge (serveReleaseCharge r s).st := by
  fun_cases serveReleaseCharge r s
  case case6 i found state refs => exact .release _ i found (by simpa using state) (by simpa using refs)
  all_goals exact .unchanged _

theorem serveClosePack_effect (r : Request) (s : State) : Effect r s .closePack (serveClosePack r s).st := by
  fun_cases serveClosePack r s
  case case4 bin _ p isOpen => exact .closePack bin p isOpen
  all_goals exact .unchanged _

theorem serveLineReset_effect (r : Request) (s : State) : Effect r s .lineReset (serveLineReset r s).st := by
  fun_cases serveLineReset r s
  case case1 => exact .unchanged _
  case case2 =>
    rw [okWith_st]
    exact .lineReset

theorem serveEditOpen_effect (r : Request) (s : State) : Effect r s .editOpen (serveEditOpen r s).st := by
  fun_cases serveEditOpen r s
  case case4 d _ closed e => exact .editOpen d (by simpa using closed)
  all_goals exact .unchanged _

theorem serveEditHeader_effect (r : Request) (s : State) : Effect r s .editHeader (serveEditHeader r s).st := by
  fun_cases serveEditHeader r s
  case case3 e isOpen _ c => exact .editHeader e _ isOpen (clampNat_bounds _ (by decide)).2
  all_goals exact .unchanged _

theorem serveEditStep_effect (r : Request) (s : State) : Effect r s .editStep (serveEditStep r s).st := by
  fun_cases serveEditStep r s
  case case3 => exact .editStep _ _ (by assumption)
  all_goals exact .unchanged _

theorem serveEditCommit_effect (r : Request) (s : State) : Effect r s .editCommit (serveEditCommit r s).st := by
  fun_cases serveEditCommit r s
  case case4 e isOpen valid g => exact .editCommit e isOpen valid
  all_goals exact .unchanged _

theorem serveEditAbort_effect (r : Request) (s : State) : Effect r s .editAbort (serveEditAbort r s).st := by
  fun_cases serveEditAbort r s
  case case2 => exact .editAbort
  all_goals exact .unchanged _

theorem serveEntryDelete_effect (r : Request) (s : State) : Effect r s .entryDelete (serveEntryDelete r s).st := by
  fun_cases serveEntryDelete r s
  case case6 d _ e _ unused _ => exact .entryDelete d (by simpa [e] using unused)
  all_goals exact .unchanged _

theorem serveWriteSpecies_effect (r : Request) (s : State) : Effect r s .writeSpecies (serveWriteSpecies r s).st := by
  fun_cases serveWriteSpecies r s
  case case3 => exact .writeSpecies _
  all_goals exact .unchanged _

theorem serveWriteFaultActions_effect (r : Request) (s : State) : Effect r s .writeFaultActions (serveWriteFaultActions r s).st := by
  fun_cases serveWriteFaultActions r s
  case case2 => exact .writeFaultActions _ _ (by assumption)
  all_goals exact .unchanged _

theorem serveWriteWatchdog_effect (r : Request) (s : State) : Effect r s .writeWatchdog (serveWriteWatchdog r s).st := by
  fun_cases serveWriteWatchdog r s
  case case1 => exact .unchanged _
  case case2 => exact .writeWatchdog _ _

theorem serveWriteLine_effect (r : Request) (s : State) : Effect r s .writeLine (serveWriteLine r s).st := by
  fun_cases serveWriteLine r s
  case case4 => exact .writeLine _
  all_goals exact .unchanged _

theorem serveWriteMark_effect (r : Request) (s : State) : Effect r s .writeMark (serveWriteMark r s).st := by
  fun_cases serveWriteMark r s
  case case3 => exact .writeMark _
  all_goals exact .unchanged _

theorem serveWriteSort_effect (r : Request) (s : State) : Effect r s .writeSort (serveWriteSort r s).st := by
  fun_cases serveWriteSort r s
  case case3 => exact .writeSort _
  case case6 => exact .writeSort _
  all_goals exact .unchanged _

theorem serveWriteBin_effect (r : Request) (s : State) : Effect r s .writeBin (serveWriteBin r s).st := by
  fun_cases serveWriteBin r s
  case case2 => exact .writeBin _ _ _
  all_goals exact .unchanged _

theorem serveWriteLabelField_effect (r : Request) (s : State) : Effect r s .writeLabelField (serveWriteLabelField r s).st := by
  fun_cases serveWriteLabelField r s
  case case3 => exact .writeLabelField _ none
  case case6 i _ _ what _ =>
    fun_cases writeField i what r.args s
    case case4 => exact .writeLabelField _ _
    all_goals exact .unchanged _
  all_goals exact .unchanged _

theorem serveSetPackBase_effect (r : Request) (s : State) : Effect r s .setPackBase (serveSetPackBase r s).st := by
  fun_cases serveSetPackBase r s
  case case3 => exact .setPackBase _
  all_goals exact .unchanged _

/-- Serving a request has one of the effects of its kind. -/
theorem serve_effect (kind : ReqKind) (r : Request) (s : State) : Effect r s kind (serve kind r s).st := by
  cases kind
  case readKiln => exact serveReadKiln_effect r s
  case readCharge => exact serveReadCharge_effect r s
  case readPackLog => exact serveReadPackLog_effect r s
  case readLot => exact serveReadLot_effect r s
  case readEntry => exact serveReadEntry_effect r s
  case readLine => exact serveReadLine_effect r s
  case readCounters => exact serveReadCounters_effect r s
  case heartbeat => exact serveHeartbeat_effect r s
  case setClock => exact serveSetClock_effect r s
  case loadCharge => exact serveLoadCharge_effect r s
  case startKiln => exact serveStartKiln_effect r s
  case override => exact serveOverride_effect r s
  case resume => exact serveResume_effect r s
  case stop => exact serveStop_effect r s
  case restart => exact serveRestart_effect r s
  case unload => exact serveUnload_effect r s
  case planerFeed => exact servePlanerFeed_effect r s
  case releaseCharge => exact serveReleaseCharge_effect r s
  case closePack => exact serveClosePack_effect r s
  case lineReset => exact serveLineReset_effect r s
  case editOpen => exact serveEditOpen_effect r s
  case editHeader => exact serveEditHeader_effect r s
  case editStep => exact serveEditStep_effect r s
  case editCommit => exact serveEditCommit_effect r s
  case editAbort => exact serveEditAbort_effect r s
  case entryDelete => exact serveEntryDelete_effect r s
  case writeStation => exact serveWriteStation_effect r s
  case writeSpecies => exact serveWriteSpecies_effect r s
  case writeKilnLimits => exact serveWriteKilnLimits_effect r s
  case writeFaultActions => exact serveWriteFaultActions_effect r s
  case writeWatchdog => exact serveWriteWatchdog_effect r s
  case writeLine => exact serveWriteLine_effect r s
  case writeMark => exact serveWriteMark_effect r s
  case writeSort => exact serveWriteSort_effect r s
  case writeBin => exact serveWriteBin_effect r s
  case writeLabelField => exact serveWriteLabelField_effect r s
  case setPackBase => exact serveSetPackBase_effect r s

end Sys2Proof.Machine
end

section
/-! PROOFS. The machine: what one step runs, an invariant's induction over a step, and the statements
StepRunsTheFrontCommand and IdleStepDoesOneThing. -/

namespace Sys2Proof.Machine

/-! ### What one step runs -/

theorem step_command {s : State} {c : Instr} {rest : List Instr} (h : s.pending = c :: rest) :
    step s = exec c { s with pending := rest } := by
  rw [step, h]

theorem step_idle {s : State} (h : s.pending = []) : step s = s.idle := by
  rw [step, h]

/-- What is picked is one of the things to pick from. -/
theorem pick_mem {α : Type} (c : Nat) (first : α) (rest : List α) : pick c first rest ∈ first :: rest := by
  unfold pick
  split
  · exact List.mem_cons_self
  · have small : Config.freeChoice c % (rest.length + 1) < (first :: rest).length := Nat.mod_lt _ (Nat.succ_pos _)
    rw [List.getD_eq_getElem _ _ small]
    exact List.getElem_mem small

theorem State.drewPick_eq {α : Type} (rest : List α) (s : State) : ∃ n, s.drewPick rest = { s with freeCount := n } := by
  unfold State.drewPick
  split
  · exact ⟨s.freeCount, rfl⟩
  · exact ⟨s.freeCount + 1, rfl⟩

/-- An idle step can always do something: a second passes where no expiry is due. -/
theorem State.idleChoices_ne_nil (s : State) : s.idleChoices ≠ [] := by
  unfold State.idleChoices
  split
  · exact List.cons_ne_nil _ _
  · next due => simp [List.isEmpty_iff.not.mp due]

theorem State.mem_idleChoices {s : State} {e : Option Instr} (h : e ∈ s.idleChoices) :
    (e = none ∧ s.dueEvents = []) ∨ ∃ c, e = some c ∧ (c ∈ s.dueEvents ∨ c ∈ s.linkEvents) := by
  unfold State.idleChoices at h
  rcases List.mem_append.mp h with h | h
  · split at h
    · next due => exact .inl ⟨List.mem_singleton.mp h, List.isEmpty_iff.mp due⟩
    · obtain ⟨c, hc, rfl⟩ := List.mem_map.mp h
      exact .inr ⟨c, rfl, .inl hc⟩
  · obtain ⟨c, hc, rfl⟩ := List.mem_map.mp h
    exact .inr ⟨c, rfl, .inr hc⟩

/-- An idle step runs a due expiry or a link event, or a second passes while no expiry is due (log 2). -/
theorem State.idle_cases (s : State) :
    (∃ (c : Instr) (n : Nat), (c ∈ s.dueEvents ∨ c ∈ s.linkEvents) ∧ s.idle = exec c { s with freeCount := n })
      ∨ (s.dueEvents = [] ∧ ∃ n : Nat, s.idle = .next { s with freeCount := n }.tick) := by
  cases hc : s.idleChoices with
  | nil => exact absurd hc s.idleChoices_ne_nil
  | cons e rest =>
    obtain ⟨n, hn⟩ := s.drewPick_eq rest
    have picked : pick s.freeCount e rest ∈ s.idleChoices := hc ▸ pick_mem _ _ _
    have idle : s.idle = State.doIdle (pick s.freeCount e rest) { s with freeCount := n } := by
      rw [State.idle, hc]
      exact congrArg (State.doIdle (pick s.freeCount e rest)) hn
    rcases State.mem_idleChoices picked with ⟨second, due⟩ | ⟨c, command, possible⟩
    · exact .inr ⟨due, n, by rw [idle, second]; rfl⟩
    · exact .inl ⟨c, n, possible, by rw [idle, command]; rfl⟩

/-- One step runs a command on the part with another queue or another free-value counter, or is a second that passes. -/
theorem step_cases (s : State) :
    (∃ (c : Instr) (l : List Instr) (n : Nat), step s = exec c { s with pending := l, freeCount := n })
      ∨ ∃ n : Nat, step s = .next { s with freeCount := n }.tick := by
  cases h : s.pending with
  | cons c rest => exact .inl ⟨c, rest, s.freeCount, step_command h⟩
  | nil =>
    rw [step_idle h]
    rcases s.idle_cases with ⟨c, n, _, run⟩ | ⟨_, n, run⟩
    · exact .inl ⟨c, s.pending, n, run⟩
    · exact .inr ⟨n, by rw [run, h]⟩

/-- Settles O1: the first case of a step. -/
theorem stepRunsTheFrontCommand : Obligations.StepRunsTheFrontCommand := fun _ _ _ h => step_command h

/-! ### Which expiries and link events an idle step can run (R18, R32, R33, R34, R71, R87, R186) -/

theorem mem_dueIf {b : Bool} {c e : Instr} : e ∈ dueIf b c ↔ b = true ∧ e = c := by
  cases b <;> simp [dueIf]

theorem State.editDue_iff (s : State) : s.editDue = true ↔ ∃ e, s.staging = some e ∧ 1800 ≤ e.timer := by
  unfold State.editDue
  cases s.staging with
  | none => simp
  | some e => exact decide_eq_true_iff.trans (by simp [Config.editLimit])

theorem LabelUnit.due_iff (u : LabelUnit) :
    u.due = true ↔ u.head = some .awaitPrint ∧ ∃ n, u.timer = some n ∧ u.timeoutInUse ≤ n := by
  unfold LabelUnit.due
  cases u.timer <;> simp

theorem Kiln.minuteDue_iff (q : Kiln) : q.minuteDue = true ↔ ∃ n, q.timer = some n ∧ 60 ≤ n := by
  unfold Kiln.minuteDue
  cases q.timer <;> simp

theorem State.mem_dueEvents (s : State) (c : Instr) : c ∈ s.dueEvents ↔
    (c = .watchdogExpiry ∧ s.watchdog.state = .armed ∧ s.watchdog.upperInUse ≤ s.watchdog.elapsed)
    ∨ (c = .editExpiry ∧ s.editDue = true) ∨ (c = .labelTimeout ∧ s.labels.due = true)
    ∨ (c = .millClockMinute ∧ 60 ≤ s.clock.phase) ∨ (c = .resetMinuteCount ∧ 60 ≤ s.minutePhase)
    ∨ ∃ k, c = .kilnMinuteExpiry k ∧ (s.kiln k).minuteDue = true := by
  simp only [State.dueEvents, List.mem_append, List.mem_flatMap, mem_dueIf, List.mem_finRange, true_and,
    Bool.and_eq_true, beq_iff_eq, decide_eq_true_eq, or_assoc, and_assoc]
  grind

theorem Port.nextQueue_isSome (q : Port) : q.nextQueue.isSome = true ↔ q.passQueue ≠ [] ∨ q.localQueue ≠ [] := by
  unfold Port.nextQueue
  cases q.turn <;> cases q.passQueue <;> cases q.localQueue <;> simp

theorem State.mem_portEvents (s : State) (p : PortId) (c : Instr) : c ∈ s.portEvents p ↔
    (c = .transmissionComplete p ∧ (s.port p).sending ≠ none)
    ∨ (c = .transmitStart p 3 ∧ (s.port p).sending = none ∧ ((s.port p).passQueue ≠ [] ∨ (s.port p).localQueue ≠ [])) := by
  unfold State.portEvents
  cases (s.port p).sending <;> simp [mem_dueIf, Port.nextQueue_isSome, and_comm]

theorem State.mem_linkEvents (s : State) (c : Instr) : c ∈ s.linkEvents ↔ ∃ p, c ∈ s.portEvents p := by
  rw [State.linkEvents, List.mem_append]
  constructor
  · rintro (h | h)
    · exact ⟨.a, h⟩
    · exact ⟨.b, h⟩
  · rintro ⟨p, h⟩
    cases p
    · exact .inl h
    · exact .inr h

theorem tickCount_none : tickCount none = none := rfl

theorem tickCount_some (n : Nat) : tickCount (some n) = some (n + 1) := rfl

/-- Settles O3: an idle step by its choices, each event by the list that holds it, and a second field by field. -/
theorem idleStepDoesOneThing : Obligations.IdleStepDoesOneThing := by
  unfold Obligations.IdleStepDoesOneThing
  refine ⟨fun s h => ?step, fun s => ?due, fun s => ?link, fun s => ?second⟩
  case step =>
    rw [step_idle h]
    exact s.idle_cases
  case due =>
    simp [State.mem_dueEvents, State.editDue_iff, LabelUnit.due_iff, Kiln.minuteDue_iff]
  case link =>
    simp only [State.mem_linkEvents, State.mem_portEvents]
    refine ⟨?_, fun p => ⟨?_, ?_⟩⟩
    · rintro c ⟨p, ⟨rfl, -⟩ | ⟨rfl, -⟩⟩
      · exact ⟨p, .inr rfl⟩
      · exact ⟨p, .inl rfl⟩
    · simp
    · simp
  case second =>
    intro t
    refine ⟨fun h => Watchdog.tick_armed h, fun h => Watchdog.tick_unarmed h, rfl, rfl, fun h => ?_, fun e h => ?_,
      fun k => ⟨fun h => ?_, fun n h => ?_⟩, fun h => ?_, fun n h => ?_, rfl⟩
    · simp [t, State.tick, h]
    · simp [t, State.tick, h]
    · rw [s.kiln_tick k, h, tickCount_none, ← h]
    · rw [s.kiln_tick k, h, tickCount_some]
    · change { s.labels with timer := tickCount s.labels.timer } = s.labels
      rw [h, tickCount_none, ← h]
    · change { s.labels with timer := tickCount s.labels.timer } = _
      rw [h, tickCount_some]

/-! ### What keeps an invariant through a step -/

/-- The part without its outgoing traffic, its waiting commands and requests, and the free-value counter. -/
def State.blocks (s : State) : State := { s.inner with pending := [], freeCount := 0, requests := [] }

theorem State.blocks_of_inner {s t : State} (h : t.inner = s.inner) : t.blocks = s.blocks := by
  simp only [State.blocks, h]

/-- The events that reach a block: what the world, a timer, a delivered telegram or a transmitted final row makes of the
part outside its outgoing traffic; a device reset is one of them where `resets` says so. -/
inductive Happens (resets : Bool) (s : State) : State → Prop
  | reset (straps : Byte) (eye encA encB : Bool) (can : resets = true) :
      Happens resets s (State.afterReset straps eye encA encB)
  | tick : Happens resets s s.tick
  | climate (k : KilnId) (x : List Byte) : Happens resets s (s.climateArrival k x)
  | probe (k : KilnId) (x : List Byte) : Happens resets s (s.probeArrival k x)
  | scan (x : List Byte) : Happens resets s (s.scanArrival x)
  | printDone (x : List Byte) : Happens resets s (s.printDone x)
  | awaitPrint : Happens resets s s.awaitPrint
  | encoder (x y : Bool) : Happens resets s (s.encoderChange x y)
  | leading : Happens resets s s.leadingEdge
  | trailing : Happens resets s s.trailingEdge
  | minute (k : KilnId) (busy : (s.kiln k).state ≠ .idle) : Happens resets s (s.kilnMinute k)
  | watchdog : Happens resets s s.expireWatchdog
  | edit : Happens resets s s.expireEdit
  | label : Happens resets s s.labelTimeout
  | clock : Happens resets s s.clockMinute
  | minutes : Happens resets s s.resetMinute

/-- A property that a step carries on: kept by every move of the waiting commands and requests, of a port, and by every
event and every served request. Only a step and a reset ask that it does not look at the commands that wait. -/
structure Carried (resets : Bool) (P : State → Prop) : Prop where
  pending : resets = true → ∀ {s : State} (l : List Instr), P s → P { s with pending := l }
  drawn : ∀ {s : State} (n : Nat), P s → P { s with freeCount := n }
  admitted : ∀ {s : State} (r : Request), s.requests.length < 4 → P s → P { s with requests := s.requests ++ [r] }
  taken : ∀ {s : State} (r : Request) (rest : List Request), s.requests = r :: rest → P s → P { s with requests := rest }
  counted : ∀ {s : State} (x : SupervisionCounters), P s → P { s with supervision := x }
  answered : ∀ (r : Request) (v : Served), P v.st → P (answer r v)
  buffered : ∀ {s : State} (p : PortId) (bytes : List Byte), bytes.length ≤ 64 → P s → P (s.setBuffer p bytes)
  portCounted : ∀ {s : State} (p : PortId) (f : PortCounters → PortCounters), P s → P (s.count p f)
  forwarded : ∀ {s : State} (p : PortId) (run : List Byte), P s → P (s.forward p run)
  started : ∀ {s : State} (p : PortId) (q : Option QueueName), P s → P (s.modPort p (fun x => { x with sending := q }))
  sentPass : ∀ {s : State} (p : PortId), P s →
    P (s.modPort p (fun q => { q with passQueue := q.passQueue.tail, sending := none, turn := .loc }))
  sentLocal : ∀ {s : State} (p : PortId), P s →
    P ((s.modPort p (fun q => { q with localQueue := q.localQueue.tail, sending := none, turn := .pass })).offer p)
  event : ∀ {s t : State}, Happens resets s t → P s → P t
  served : ∀ {kind : ReqKind} {r : Request} {s t : State}, Effect r s kind t → P s → P t

namespace Carried

variable {resets : Bool} {P : State → Prop} (carried : Carried resets P)
include carried

theorem judge {s : State} (r : Request) (hs : P s) : P (s.judge r).st := by
  unfold State.judge
  split
  · exact hs
  · split
    · exact carried.served (serve_effect _ r s) hs
    · exact hs

theorem drainFuel {s : State} (n : Nat) (hs : P s) : P (drainFuel n s) := by
  induction n generalizing s with
  | zero => exact hs
  | succ n ih =>
    unfold Machine.drainFuel
    split
    · next r rest _ waiting => exact ih (carried.answered r _ (carried.judge r (carried.taken r rest waiting hs)))
    · exact hs

theorem drain {s : State} (hs : P s) : P s.drain := carried.drainFuel _ hs

theorem takeIn {s : State} (r : Request) (hs : P s) : P (s.takeIn r) := by
  unfold State.takeIn
  split
  · split
    · next room => exact carried.drain (carried.admitted r room hs)
    · exact carried.counted _ hs
  · exact carried.counted _ hs

theorem actIf {s : State} (p : PortId) (fits : Bool) {act : State → State} (hact : P (act s)) (hs : P s) :
    P (s.actIf p fits act) := by
  unfold State.actIf
  split
  · exact hact
  · exact carried.portCounted p _ hs

/-- A delivered telegram reaches one block, or none (R9, R10). -/
theorem deliver {s : State} (p : PortId) (source : StationId) (run : List Byte) (hs : P s) : P (s.deliver p source run) := by
  fun_cases State.deliver p source run s
  case case1 =>
    unfold State.deliverClimate
    split
    · exact carried.actIf p _ (carried.event (.climate _ _) hs) hs
    · exact hs
  case case2 =>
    unfold State.deliverProbe
    split
    · exact carried.actIf p _ (carried.event (.probe _ _) hs) hs
    · exact hs
  case case3 =>
    unfold State.deliverBoard
    split
    · exact carried.actIf p _ (carried.event (.scan _) hs) hs
    · exact hs
  case case4 =>
    unfold State.deliverPrintDone
    split
    · exact carried.actIf p _ (carried.event (.printDone _) hs) hs
    · exact hs
  case case5 =>
    unfold State.deliverRequest
    split
    · exact carried.actIf p _ (carried.takeIn _ hs) hs
    · exact hs
  case case6 => exact hs

theorem receive {s : State} (p : PortId) (idle : Nat) (run : List Byte) (hs : P s) : P (s.receive p idle run) := by
  unfold State.receive
  split
  · refine carried.buffered p [] (Nat.zero_le _) ?_
    have stored : P (s.setBuffer p (run.take Config.bufferSize)) :=
      carried.buffered p _ (List.length_take_le _ _) hs
    unfold State.checkTelegram
    split
    · exact carried.portCounted p _ stored
    · split
      · exact carried.portCounted p _ stored
      · split
        · exact carried.portCounted p _ stored
        · split
          · exact carried.portCounted p _ stored
          · exact carried.deliver p _ run (carried.forwarded p run (carried.portCounted p _ stored))
  · exact hs

theorem afterOffer {s : State} (final : Bool) (hs : P s) : P (s.afterOffer final) := by
  have drew : P (s.drewFree 1) := carried.drawn _ hs
  unfold State.afterOffer
  split
  · split
    · exact carried.drain (carried.event .awaitPrint drew)
    · exact carried.event .awaitPrint (carried.drain drew)
  · refine carried.drain ?_
    unfold State.reportRow
    split
    · exact carried.event .awaitPrint hs
    · exact hs

theorem completeSending {s : State} (p : PortId) (hs : P s) : P (s.completeSending p) := by
  unfold State.completeSending
  split
  · exact hs
  · exact carried.sentPass p hs
  · exact carried.afterOffer _ (carried.sentLocal p hs)

/-- Every command carries the property on, a device reset where it is one of the events. -/
theorem exec {c : Instr} {s t : State} (can : ∀ straps eye encA encB, c = .deviceReset straps eye encA encB → resets = true)
    (h : exec c s = .next t) (hs : P s) : P t := by
  cases hc : requestOfCommand c with
  | some r =>
    obtain rfl := Host.Outcome.next.inj ((exec_request c r hc s).symm.trans h)
    exact carried.takeIn r hs
  | none =>
    cases c <;> first | exact absurd hc (Option.some_ne_none _) | (obtain rfl := Host.Outcome.next.inj h)
    case deviceReset straps eye encA encB =>
      have can := can straps eye encA encB rfl
      exact carried.drawn s.freeCount (carried.pending can s.pending (carried.event (.reset straps eye encA encB can) hs))
    case telegramReception => exact carried.receive _ _ _ hs
    case transmitStart p idle =>
      unfold State.startSending
      split
      · exact carried.started p (s.port p).nextQueue hs
      · exact hs
    case transmissionComplete => exact carried.completeSending _ hs
    case encoderCount => exact carried.event (.encoder _ _) hs
    case leadingEdge => exact carried.event .leading hs
    case trailingEdge => exact carried.event .trailing hs
    case kilnMinuteExpiry k =>
      split
      · exact hs
      · next busy => exact carried.event (.minute k busy) hs
    case watchdogExpiry => exact carried.event .watchdog hs
    case editExpiry => exact carried.event .edit hs
    case labelTimeout => exact carried.event .label hs
    case millClockMinute => exact carried.event .clock hs
    case resetMinuteCount => exact carried.event .minutes hs

/-- Every step carries the property on. -/
theorem step (can : resets = true) {s t : State} (hs : P s) (h : step s = .next t) : P t := by
  rcases step_cases s with ⟨c, l, n, run⟩ | ⟨n, run⟩
  · exact carried.exec (fun _ _ _ _ _ => can) (run.symm.trans h) (carried.drawn n (carried.pending can l hs))
  · obtain rfl := Host.Outcome.next.inj (run.symm.trans h)
    exact carried.event .tick (carried.drawn n hs)

end Carried

/-- A property of the part that its outgoing traffic does not touch, and that every event and every served request keeps. -/
structure Kept (P : State → Prop) : Prop where
  congr : ∀ {s t : State}, t.blocks = s.blocks → P s → P t
  event : ∀ {s t : State}, Happens true s t → P s → P t
  served : ∀ {kind : ReqKind} {r : Request} {s t : State}, Effect r s kind t → P s → P t

namespace Kept

variable {P : State → Prop} (kept : Kept P)
include kept

theorem ofInner {s t : State} (h : t.inner = s.inner) (hs : P s) : P t := kept.congr (State.blocks_of_inner h) hs

/-- What the outgoing traffic does not touch is carried on by every move of a port. -/
theorem carried : Carried true P where
  pending _ {s} _ hs := kept.congr (s := s) rfl hs
  drawn {s} _ hs := kept.congr (s := s) rfl hs
  admitted {s} _ _ hs := kept.congr (s := s) rfl hs
  taken {s} _ _ _ hs := kept.congr (s := s) rfl hs
  counted {s} _ hs := kept.congr (s := s) rfl hs
  answered r v hs := kept.ofInner (answer_inner r v) hs
  buffered {s} p _ _ hs := kept.ofInner (State.modPort_inner p _ s) hs
  portCounted {s} p _ hs := kept.ofInner (State.modPort_inner p _ s) hs
  forwarded {s} p run hs := by
    unfold State.forward
    split
    · exact hs
    · split
      · exact kept.ofInner (by rw [State.count, State.modPort_inner, State.modPort_inner]) hs
      · exact kept.ofInner (State.modPort_inner p _ s) hs
  started {s} p _ hs := kept.ofInner (State.modPort_inner p _ s) hs
  sentPass {s} p hs := kept.ofInner (State.modPort_inner p _ s) hs
  sentLocal {s} p hs := kept.ofInner (by rw [State.offer_inner, State.modPort_inner]) hs
  event := kept.event
  served := kept.served

/-- Every step keeps the property. -/
theorem step {s t : State} (hs : P s) (h : Machine.step s = .next t) : P t := kept.carried.step rfl hs h

end Kept

end Sys2Proof.Machine
end

section
/-! PROOFS. The station map (chapter 1): the lookups, the map after WRITE_STATION entry by entry, what every command leaves
of the map, and the statement StepsKeepTheMapLegal. -/

namespace Sys2Proof.Machine

/-! ### The lookups (R11, section 1.6) -/

theorem State.findStation_eq_some_iff (s : State) (f : Station → Bool) (d : StationId) :
    s.findStation f = some d ↔ f s.stations[d] = true ∧ ∀ e : StationId, e < d → f s.stations[e] = false := by
  unfold State.findStation
  split
  · next i hi =>
      obtain ⟨small, found, first⟩ := List.findIdx?_eq_some_iff_getElem.mp hi
      have bound : i < 255 := by simpa using small
      rw [index?_eq_some_iff]
      constructor
      · rintro rfl
        exact ⟨by simpa using found, fun e he => by simpa using first e.val he⟩
      · rintro ⟨hd, before⟩
        rcases Nat.lt_trichotomy i d.val with lt | eq | gt
        · have := before ⟨i, bound⟩ lt
          simp_all
        · exact eq
        · have := first d.val gt
          simp_all
  · next hi =>
      have none : ∀ d : StationId, f s.stations[d] = false := fun d => by
        simpa using List.findIdx?_eq_none_iff.mp hi s.stations[d] (by simp)
      constructor
      · exact fun h => nomatch h
      · rintro ⟨hd, -⟩
        rw [none d] at hd
        exact nomatch hd

theorem State.findStation_congr {s t : State} (h : t.stations = s.stations) (f : Station → Bool) :
    t.findStation f = s.findStation f := by
  simp only [State.findStation, h]

theorem State.holder_congr {s t : State} (h : t.stations = s.stations) (r : Role) : t.holder r = s.holder r :=
  State.findStation_congr h _

theorem State.holder_role {s : State} {r : Role} {d : StationId} (h : s.holder r = some d) : s.stations[d].role = r := by
  simpa using ((s.findStation_eq_some_iff _ d).mp h).1

/-- Where one station at most passes a test, the lookup finds it. -/
theorem State.findStation_of_unique {s : State} {f : Station → Bool} {d : StationId} (hd : f s.stations[d] = true)
    (unique : ∀ e : StationId, f s.stations[e] = true → e = d) : s.findStation f = some d := by
  refine (s.findStation_eq_some_iff f d).mpr ⟨hd, fun e he => ?_⟩
  cases found : f s.stations[e] with
  | false => rfl
  | true => exact absurd (unique e found) (Fin.ne_of_lt he)

/-! ### The map after WRITE_STATION (R13) -/

theorem State.modStation_entry (s : State) (d e : StationId) (f : Station → Station) :
    (s.modStation d f).stations[e] = if e = d then f s.stations[d] else s.stations[e] := by
  rw [State.modStation_stations]
  split
  · next h => subst h; exact Vector.getElem_set_self ..
  · next h => exact Vector.getElem_set_ne _ _ (fun eq => h (Fin.ext eq.symm))

theorem State.modOther_entry (s : State) (found : Option StationId) (d e : StationId) (f : Station → Station) :
    (s.modOther found d f).stations[e] = if found = some e ∧ e ≠ d then f s.stations[e] else s.stations[e] := by
  unfold State.modOther
  split
  · next h =>
      split
      · next hd => simp [hd, eq_comm]
      · next hd =>
          rw [State.modStation_entry]
          by_cases he : e = h
          · subst he; simp [hd]
          · simp [he, Ne.symm he]
  · simp

/-- An entry of a station other than the one written, after an accepted write (R13 parts 1 and 2): a unique role goes with its
classes and the notify flag, the flag goes to the station that takes it. -/
theorem State.writeMap_other (s : State) (d x : StationId) (e : Station) (hx : x ≠ d)
    (notify : e.notify = true → e.role = .supervisor) :
    (s.writeMap d e).stations[x] =
      if e.role.isUnique = true ∧ s.holder e.role = some x then s.stations[x].displaced
      else if e.notify = true ∧ s.notifyStation = some x then { s.stations[x] with notify := false }
      else s.stations[x] := by
  unfold State.writeMap
  rw [State.modStation_entry, if_neg hx]
  cases hn : e.notify with
  | true =>
    have shared : e.role.isUnique = false := by rw [notify hn]; rfl
    simp only [shared, if_true, Bool.false_eq_true, if_false, false_and, true_and, State.modOther_entry, hx, ne_eq,
      not_false_eq_true, and_true]
  | false =>
    cases hu : e.role.isUnique with
    | true =>
      simp only [if_true, Bool.false_eq_true, if_false, false_and, true_and, State.modOther_entry, hx, ne_eq,
        not_false_eq_true, and_true]
    | false => simp only [Bool.false_eq_true, if_false, false_and]

theorem State.writeMap_self (s : State) (d : StationId) (e : Station) : (s.writeMap d e).stations[d] = e := by
  unfold State.writeMap
  rw [State.modStation_entry, if_pos rfl]

/-- The part without its station map. -/
def State.offMap (s : State) : State := { s with stations := Vector.replicate 255 {} }

theorem State.modOther_offMap (found : Option StationId) (d : StationId) (f : Station → Station) (s : State) :
    (s.modOther found d f).offMap = s.offMap := by
  fun_cases State.modOther found d f s <;> rfl

/-- Outside the map a write of the map changes nothing. -/
theorem State.writeMap_offMap (d : StationId) (e : Station) (s : State) : (s.writeMap d e).offMap = s.offMap := by
  have written (u : State) (f : Station → Station) : (u.modStation d f).offMap = u.offMap := rfl
  unfold State.writeMap
  rw [written]
  split <;> split <;> simp only [State.modOther_offMap]

theorem State.writeMap_eq (s : State) (d : StationId) (e : Station) :
    s.writeMap d e = { s with stations := (s.writeMap d e).stations } :=
  congrArg (fun u : State => { u with stations := (s.writeMap d e).stations }) (State.writeMap_offMap d e s)

theorem State.MapLegal.congr {s t : State} (hs : s.MapLegal) (stations : t.stations = s.stations) (own : t.own = s.own) :
    t.MapLegal := by
  unfold State.MapLegal at hs ⊢
  simp only [stations, own]
  exact hs

/-- An accepted write keeps the map legal (R13). -/
theorem State.MapLegal.writeMap {s : State} (hs : s.MapLegal) {d : StationId} {e : Station} (other : d ≠ s.own)
    (notify : e.notify = true → e.role = .supervisor) : (s.writeMap d e).MapLegal := by
  obtain ⟨roles, flags, supervised, free⟩ := hs
  have self := s.writeMap_self d e
  have entry (x : StationId) (hx : x ≠ d) := s.writeMap_other d x e hx notify
  have role (x : StationId) (hx : x ≠ d) (h : (s.writeMap d e).stations[x].role.isUnique = true) :
      (s.writeMap d e).stations[x].role = s.stations[x].role ∧ s.holder e.role ≠ some x := by
    rw [entry x hx] at h ⊢
    split at h
    · exact nomatch h
    · next stays =>
        have free (held : s.holder e.role = some x) : e.role.isUnique ≠ true := fun u => stays ⟨u, held⟩
        split at h
        · next moved =>
            rw [if_neg stays, if_pos moved]
            exact ⟨rfl, fun held => free held (State.holder_role held ▸ h)⟩
        · next moved =>
            rw [if_neg stays, if_neg moved]
            exact ⟨rfl, fun held => free held (State.holder_role held ▸ h)⟩
  have flag (x : StationId) (hx : x ≠ d) (h : (s.writeMap d e).stations[x].notify = true) :
      (s.writeMap d e).stations[x].role = s.stations[x].role ∧ s.stations[x].notify = true
        ∧ ¬ (e.notify = true ∧ s.notifyStation = some x) := by
    rw [entry x hx] at h ⊢
    split at h
    · exact nomatch h
    · next stays =>
        split at h
        · exact nomatch h
        · next moved =>
            rw [if_neg stays, if_neg moved]
            exact ⟨rfl, h, moved⟩
  have written (x : StationId) (hx : x ≠ d) (same : (s.writeMap d e).stations[x].role = e.role) :
      e.role.isUnique = false := by
    by_contra unique
    rw [Bool.not_eq_false] at unique
    obtain ⟨kept, lost⟩ := role x hx (same ▸ unique)
    have here : s.stations[x].role = e.role := kept.symm.trans same
    refine lost (State.findStation_of_unique (beq_iff_eq.mpr here) (fun y hy => ?_))
    have there : s.stations[y].role = e.role := beq_iff_eq.mp hy
    exact roles y x (there.trans here.symm) (there ▸ unique)
  have taken (x : StationId) (hx : x ≠ d) (h : (s.writeMap d e).stations[x].notify = true) : e.notify = false := by
    by_contra set
    rw [Bool.not_eq_false] at set
    obtain ⟨-, was, lost⟩ := flag x hx h
    exact lost ⟨set, State.findStation_of_unique was (fun y hy => flags y x hy was)⟩
  refine ⟨fun x y same unique => ?_, fun x y hx hy => ?_, fun x hx => ?_, ?_⟩
  · by_cases hx : x = d <;> by_cases hy : y = d
    · rw [hx, hy]
    · subst hx
      rw [self] at same unique
      exact absurd unique (by rw [written y hy same.symm]; decide)
    · subst hy
      rw [self] at same
      exact absurd unique (by rw [same, written x hx same]; decide)
    · have keptX := (role x hx unique).1
      have keptY := (role y hy (same ▸ unique)).1
      exact roles x y (keptX.symm.trans (same.trans keptY)) (keptX ▸ unique)
  · by_cases hxd : x = d <;> by_cases hyd : y = d
    · rw [hxd, hyd]
    · subst hxd
      rw [self] at hx
      exact absurd hx (by rw [taken y hyd hy]; decide)
    · subst hyd
      rw [self] at hy
      exact absurd hy (by rw [taken x hxd hx]; decide)
    · exact flags x y (flag x hxd hx).2.1 (flag y hyd hy).2.1
  · by_cases hxd : x = d
    · subst hxd
      rw [self] at hx ⊢
      exact notify hx
    · obtain ⟨kept, was, -⟩ := flag x hxd hx
      rw [kept]
      exact supervised x was
  · have own : (s.writeMap d e).own = s.own := by rw [s.writeMap_eq d e]
    simp only [own]
    rw [entry s.own other.symm]
    split
    · rfl
    · split <;> exact free

/-! ### What leaves the map (R11) -/

/-- The commands and requests that wait, the part's own number and the station map. -/
def State.base (s : State) : List Instr × List Request × StationId × Vector Station 255 :=
  (s.pending, s.requests, s.own, s.stations)

theorem State.base_of_inner {s t : State} (h : t.inner = s.inner) : t.base = s.base := (congrArg State.base h :)

theorem State.base_of_aside {s t : State} (h : t.aside = s.aside) : t.base = s.base := (congrArg State.base h :)

theorem State.base_of_beyond {s t : State} (h : t.beyond = s.beyond) : t.base = s.base :=
  (congrArg State.base h :)

theorem State.lapse_base (cause : Nat) (s : State) : (s.lapse cause).base = s.base := by
  refine (State.base_of_aside (State.drewFree_aside _ _)).trans ?_
  refine (State.base_of_aside (State.detect_foldl_aside _ _ _)).trans ?_
  exact (State.base_of_inner (State.raise_inner _ _)).trans rfl

theorem State.heartbeat_base (d : StationId) (s : State) : (s.heartbeat d).base = s.base := by
  fun_cases State.heartbeat d s
  case case1 => rfl
  case case2 => exact (State.base_of_inner (State.raise_inner _ _)).trans rfl
  case case3 => exact State.lapse_base 1 s
  case case4 => rfl

theorem State.loadCharge_base (k : KilnId) (d : Fin 32) (g : Fin 16) (i : Fin 48) (args : List Byte) (s : State) :
    (s.loadCharge k d g i args).base = s.base :=
  (State.base_of_aside (State.announceState_aside false k _)).trans rfl

theorem State.modCharge_base (n : Nat) (f : Charge → Charge) (s : State) : (s.modCharge n f).base = s.base :=
  State.base_of_aside (State.modCharge_aside n f s)

theorem State.planerFeed_base (n : Nat) (s : State) : (s.planerFeed n).base = s.base := by
  have left : s.leaveInfeed.base = s.base := by
    unfold State.leaveInfeed
    split
    · exact State.modCharge_base _ _ s
    · rfl
  unfold State.planerFeed State.enterInfeed
  split
  · exact left
  · exact (State.modCharge_base n _ _).trans left

theorem State.writeStation_beyond (d : StationId) (e : Station) (s : State) :
    (s.writeStation d e).beyond = (s.writeMap d e).beyond := by
  have moved : ((s.writeMap d e).followActuator e.role e.side).inner = (s.writeMap d e).inner := by
    fun_cases State.followActuator e.role e.side (s.writeMap d e) <;> simp
  unfold State.writeStation
  rw [State.followPrinter_beyond, State.beyond_of_inner (State.produceNotices_inner _), State.beyond_of_inner moved]

/-- A served request other than WRITE_STATION leaves the base. -/
theorem Effect.base {kind : ReqKind} {r : Request} {s t : State} (h : Effect r s kind t) (hk : kind ≠ .writeStation) :
    t.base = s.base := by
  cases h
  case heartbeat => exact State.heartbeat_base _ s
  case loadCharge => exact State.loadCharge_base _ _ _ _ _ s
  case startKiln => exact State.base_of_aside (State.startKiln_aside _ _ s)
  case override => exact State.base_of_aside (State.pushHold_aside _ _ _ s)
  case resume => exact State.base_of_aside (State.resumeEntry_aside _ _ s)
  case stop => exact State.base_of_aside (State.stopKiln_aside _ _ _ s)
  case restart => exact State.base_of_aside (State.restartKiln_aside _ s)
  case unload => exact State.base_of_aside (State.unloadKiln_aside _ _ s)
  case feedNone => exact State.planerFeed_base 0 s
  case feed => exact State.planerFeed_base _ s
  case closePack => exact State.base_of_beyond (State.closePack_beyond _ _ _ s)
  case lineReset => exact State.base_of_beyond (State.lineReset_beyond s)
  case writeStation => exact absurd rfl hk
  case clearPort => exact State.base_of_inner (State.modPort_inner _ _ s)
  all_goals rfl

/-- The base after an event: as it was, but for a reset. -/
theorem Happens.base {resets : Bool} {s t : State} (h : Happens resets s t) :
    t.base = s.base ∨ resets = true ∧ ∃ straps eye encA encB, t = State.afterReset straps eye encA encB := by
  cases h
  case reset straps eye encA encB can => exact .inr ⟨can, straps, eye, encA, encB, rfl⟩
  all_goals left
  case climate => exact State.base_of_aside (State.climateArrival_aside _ _ s)
  case probe => exact State.base_of_aside (State.probeArrival_aside _ _ s)
  case scan => exact State.base_of_beyond (State.scanArrival_beyond _ s)
  case printDone => exact State.base_of_beyond (State.printDone_beyond _ s)
  case encoder => exact State.base_of_beyond (State.encoderChange_beyond _ _ s)
  case leading => exact State.base_of_beyond (State.leadingEdge_beyond s)
  case trailing => exact State.base_of_beyond (State.trailingEdge_beyond s)
  case minute => exact State.base_of_aside (State.kilnMinute_aside _ s)
  case watchdog =>
    unfold State.expireWatchdog
    split
    · exact State.lapse_base 0 s
    · rfl
  case edit =>
    unfold State.expireEdit
    split
    · exact (State.base_of_inner (State.raise_inner _ _)).trans rfl
    · rfl
  case label => exact State.base_of_beyond (State.labelTimeout_beyond s)
  all_goals rfl

theorem State.MapLegal.of_base {s t : State} (hs : s.MapLegal) (h : t.base = s.base) : t.MapLegal :=
  hs.congr (congrArg (fun x => x.2.2.2) h) (congrArg (fun x => x.2.2.1) h)

theorem State.afterReset_stations (straps : Byte) (eye encA encB : Bool) (d : StationId) :
    (State.afterReset straps eye encA encB).stations[d] = {} := Vector.getElem_replicate ..

theorem State.mapLegal_afterReset (straps : Byte) (eye encA encB : Bool) :
    (State.afterReset straps eye encA encB).MapLegal := by
  unfold State.MapLegal
  simp only [State.afterReset_stations]
  exact ⟨fun _ _ _ h => (nomatch h), fun _ _ h => (nomatch h), fun _ h => (nomatch h), trivial⟩

theorem mapLegal_kept : Kept State.MapLegal where
  congr h hs := hs.congr (congrArg State.stations h :) (congrArg State.own h :)
  event h hs := by
    rcases h.base with same | ⟨-, straps, eye, encA, encB, rfl⟩
    · exact hs.of_base same
    · exact State.mapLegal_afterReset straps eye encA encB
  served {kind r s t} h hs := by
    by_cases hk : kind = .writeStation
    · subst hk
      cases h with
      | unchanged => exact hs
      | writeStation d e other notify =>
        exact (hs.writeMap other notify).of_base (State.base_of_beyond (State.writeStation_beyond d e s))
    · exact hs.of_base (h.base hk)

/-- Settles O59: a write that passes its checks keeps the map legal, and nothing else but a reset touches it. -/
theorem stepsKeepTheMapLegal : Obligations.StepsKeepTheMapLegal := fun _ _ hs h => mapLegal_kept.step hs h

end Sys2Proof.Machine
end

section
/-! PROOFS. What the operations of one kiln unit are made of: changes of that unit outside its written limits and fault
actions, changes of its charge's record outside what the finishing side reads, a fall of its entry's in-use count, and what
it sends. Each operation of chapters 5 and 6 is such work, said once; its frames follow. -/

namespace Sys2Proof.Machine

/-! ### The work of a kiln unit -/

/-- A change of a kiln unit outside what WRITE_KILN_LIMITS and WRITE_FAULT_ACTIONS write (R76, R78, R115). -/
def Kiln.KeepsWritten (f : Kiln → Kiln) : Prop := ∀ q, (f q).written = q.written ∧ (f q).actions = q.actions

/-- A change of a charge record that the charge table's agreement with boards, packs and the infeed does not see. -/
def Charge.KeepsLedger (f : Charge → Charge) : Prop :=
  ∀ c, (f c).number = c.number ∧ (f c).refs = c.refs ∧ (f c).origins = c.origins ∧ (f c).kiln = c.kiln
    ∧ (f c).entry = c.entry ∧ (c.state ≠ .closed → (f c).state ≠ .closed) ∧ (c.state ≠ .planing → (f c).state ≠ .planing)

/-- A kiln unit that holds a charge: not IDLE, with a position in its schedule and a running timer (R77, R87). -/
structure Kiln.Busy (q : Kiln) : Prop where
  state : q.state ≠ .idle
  charge : q.charge.isSome = true
  position : q.position.isSome = true
  timer : q.timer.isSome = true

/-- Legal limits, and setpoints within those in use (R79, R91). -/
structure Kiln.Priced (q : Kiln) : Prop where
  written : q.written.Legal
  inUse : q.inUse.Legal
  setpoints : ∃ p, q.setpoints = some p ∧ q.inUse.Admits p

/-- The unit holds its charge still, and its setpoints lie within its limits as they did. -/
structure Kiln.Retains (q r : Kiln) : Prop where
  charge : r.charge = q.charge
  busy : r.Busy
  priced : q.Priced → r.Priced

/-- A change of a kiln unit that holds a charge, after which it holds that charge still. -/
def Kiln.KeepsDuty (f : Kiln → Kiln) : Prop := ∀ q : Kiln, q.Busy → q.Retains (f q)

/-- What the duty reads of a kiln unit besides its state. -/
def Kiln.duty (q : Kiln) : Option Nat × Option StepPosition × Option Nat × Limits × Limits × Option TempPair :=
  (q.charge, q.position, q.timer, q.written, q.inUse, q.setpoints)

/-- What the operations of a kiln unit are made of; its charge leaves it where `leaves` says so. -/
inductive KilnDuty (leaves : Bool) (k : KilnId) : State → State → Prop
  | refl (s : State) : KilnDuty leaves k s s
  | trans {s t u : State} (first : KilnDuty leaves k s t) (next : KilnDuty leaves k t u) : KilnDuty leaves k s u
  | raise (n : Notice) (s : State) : KilnDuty leaves k s (s.raise n)
  | setpoint (s : State) : KilnDuty leaves k s (s.produceSetpoint k)
  | withdraw (s : State) : KilnDuty leaves k s (s.withdrawSetpoint k)
  | drew (n : Nat) (s : State) : KilnDuty leaves k s (s.drewFree n)
  | kiln {f : Kiln → Kiln} (s : State) (keeps : Kiln.KeepsWritten f) (duty : leaves = false → Kiln.KeepsDuty f) :
      KilnDuty leaves k s (s.modKiln k f)
  | charge {f : Charge → Charge} (s : State) (keeps : Charge.KeepsLedger f) : KilnDuty leaves k s (s.modKilnCharge k f)
  | unbind (s : State) : KilnDuty leaves k s (s.unbindKiln k)

/-- What any operation of a kiln unit is made of. -/
abbrev KilnWork (k : KilnId) (s t : State) : Prop := KilnDuty true k s t

namespace Kiln.Busy

variable {q r : Kiln} (hq : q.Busy)
include hq

/-- Outside the limits and setpoints, and what is left of those. -/
theorem retains (state : r.state ≠ .idle) (charge : r.charge = q.charge) (position : r.position.isSome = true)
    (timer : r.timer.isSome = true) (priced : q.Priced → r.Priced) : q.Retains r :=
  ⟨charge, ⟨state, charge ▸ hq.charge, position, timer⟩, priced⟩

theorem retains_duty (state : r.state ≠ .idle) (same : r.duty = q.duty) : q.Retains r := by
  obtain ⟨charge, position, timer, written, inUse, setpoints⟩ : r.charge = q.charge ∧ r.position = q.position
      ∧ r.timer = q.timer ∧ r.written = q.written ∧ r.inUse = q.inUse ∧ r.setpoints = q.setpoints := by
    simpa [Kiln.duty] using same
  refine hq.retains state charge (position ▸ hq.position) (timer ▸ hq.timer) fun hp => ?_
  exact ⟨written ▸ hp.written, inUse ▸ hp.inUse, by rw [setpoints, inUse]; exact hp.setpoints⟩

end Kiln.Busy

namespace Kiln.Retains

theorem refl {q : Kiln} (hq : q.Busy) : q.Retains q := ⟨rfl, hq, id⟩

theorem trans {q r x : Kiln} (first : q.Retains r) (next : r.Retains x) : q.Retains x :=
  ⟨next.charge.trans first.charge, next.busy, fun h => next.priced (first.priced h)⟩

end Kiln.Retains

namespace Kiln.KeepsDuty

/-- A change outside what the duty reads. -/
theorem of_duty {f : Kiln → Kiln} (state : ∀ q, (f q).state = q.state) (same : ∀ q, (f q).duty = q.duty) :
    Kiln.KeepsDuty f := fun q hq => hq.retains_duty ((state q).trans_ne hq.state) (same q)

theorem comp {f g : Kiln → Kiln} (first : Kiln.KeepsDuty f) (next : Kiln.KeepsDuty g) :
    Kiln.KeepsDuty (fun q => g (f q)) := fun q hq => (first q hq).trans (next _ (first q hq).busy)

end Kiln.KeepsDuty

namespace KilnDuty

variable {leaves : Bool} {k : KilnId} {s t u : State}

/-- Work after which the kiln unit holds its charge is work. -/
theorem work (h : KilnDuty leaves k s t) : KilnWork k s t := by
  induction h with
  | refl s => exact .refl s
  | trans _ _ first next => exact .trans first next
  | raise n s => exact .raise n s
  | setpoint s => exact .setpoint s
  | withdraw s => exact .withdraw s
  | drew n s => exact .drew n s
  | kiln s keeps _ => exact .kiln s keeps (fun h => nomatch h)
  | charge s keeps => exact .charge s keeps
  | unbind s => exact .unbind s

theorem thenRaise (h : KilnDuty leaves k s t) (n : Notice) : KilnDuty leaves k s (t.raise n) := h.trans (.raise n t)

theorem ofKiln {f : Kiln → Kiln} (s : State) (keeps : Kiln.KeepsWritten f := by exact fun _ => ⟨rfl, rfl⟩)
    (duty : Kiln.KeepsDuty f := by exact .of_duty (fun _ => rfl) fun _ => rfl) : KilnDuty leaves k s (s.modKiln k f) :=
  .kiln s keeps fun _ => duty

theorem thenKiln (h : KilnDuty leaves k s t) {f : Kiln → Kiln}
    (keeps : Kiln.KeepsWritten f := by exact fun _ => ⟨rfl, rfl⟩)
    (duty : Kiln.KeepsDuty f := by exact .of_duty (fun _ => rfl) fun _ => rfl) : KilnDuty leaves k s (t.modKiln k f) :=
  h.trans (.kiln t keeps fun _ => duty)

theorem ofCharge {f : Charge → Charge} (s : State)
    (keeps : Charge.KeepsLedger f := by exact fun _ => ⟨rfl, rfl, rfl, rfl, rfl, id, id⟩) :
    KilnDuty leaves k s (s.modKilnCharge k f) := .charge s keeps

theorem thenCharge (h : KilnDuty leaves k s t) {f : Charge → Charge} (keeps : Charge.KeepsLedger f) :
    KilnDuty leaves k s (t.modKilnCharge k f) := h.trans (.charge t keeps)

/-- A kiln unit's work touches that unit, the charge table, the directory and the outgoing traffic only. -/
theorem aside (h : KilnWork k s t) : t.aside = s.aside := by
  induction h with
  | trans _ _ first next => exact next.trans first
  | _ => simp

theorem other (h : KilnWork k s t) (j : KilnId) (hj : j ≠ k) : t.kiln j = s.kiln j := by
  induction h with
  | trans _ _ first next => exact next.trans first
  | kiln s _ _ => exact State.kiln_modKiln_other k j hj _ s
  | _ => simp

theorem written (h : KilnWork k s t) (j : KilnId) :
    (t.kiln j).written = (s.kiln j).written ∧ (t.kiln j).actions = (s.kiln j).actions := by
  induction h with
  | trans _ _ first next => exact ⟨next.1.trans first.1, next.2.trans first.2⟩
  | kiln s keeps _ =>
    by_cases hj : j = k
    · subst hj
      rw [State.kiln_modKiln_self]
      exact keeps _
    · rw [State.kiln_modKiln_other k j hj]
      exact ⟨rfl, rfl⟩
  | _ => simp

end KilnDuty

/-! ### Changes of a kiln unit that keep what has been written -/

theorem Kiln.keepsWritten_takeStarting : Kiln.KeepsWritten Kiln.takeStarting := fun _ => ⟨rfl, rfl⟩

theorem Kiln.deriveTargets_written (q : Kiln) :
    q.deriveTargets.written = q.written ∧ q.deriveTargets.actions = q.actions := by
  fun_cases Kiln.deriveTargets q <;> exact ⟨rfl, rfl⟩

theorem Kiln.keepsWritten_enter (t : Step) (i e : Nat) : Kiln.KeepsWritten (Kiln.enter t i e) :=
  fun q => Kiln.deriveTargets_written { q with stepCopy := some t, position := some ⟨i, e⟩, entryPending := false }

theorem Kiln.rampTo_written (p : TempPair) (x y : Nat) (q : Kiln) :
    (q.rampTo p x y).written = q.written ∧ (q.rampTo p x y).actions = q.actions := by
  fun_cases Kiln.rampTo p x y q <;> exact ⟨rfl, rfl⟩

theorem Kiln.rampToStep_written (q : Kiln) : q.rampToStep.written = q.written ∧ q.rampToStep.actions = q.actions := by
  fun_cases Kiln.rampToStep q
  case case1 => exact Kiln.rampTo_written _ _ _ q
  case case2 => exact ⟨rfl, rfl⟩

theorem Kiln.fanStep_written (q : Kiln) : q.fanStep.written = q.written ∧ q.fanStep.actions = q.actions := by
  fun_cases Kiln.fanStep q <;> exact ⟨rfl, rfl⟩

theorem Kiln.keepsWritten_runPart : Kiln.KeepsWritten (fun q => q.countElapsed.deriveTargets.rampToStep.fanStep) := by
  intro q
  simp only [Kiln.fanStep_written, Kiln.rampToStep_written, Kiln.deriveTargets_written]
  exact ⟨rfl, rfl⟩

theorem Kiln.keepsWritten_governed : Kiln.KeepsWritten Kiln.governed := by
  intro q
  fun_cases Kiln.governed q
  case case3 => exact ⟨rfl, rfl⟩
  all_goals exact Kiln.rampTo_written _ _ _ q

theorem Kiln.keepsWritten_minuteLimits : Kiln.KeepsWritten (fun q => { q with timer := some 0 }.minuteLimits) := by
  intro q
  dsimp only
  fun_cases Kiln.minuteLimits { q with timer := some 0 } <;> exact ⟨rfl, rfl⟩

/-! ### Changes of a kiln unit that keep its charge -/

/-- Clamped setpoints lie within legal limits (R85, R88, R92). -/
theorem Limits.Legal.admits_clampPair {l : Limits} (h : l.Legal) (p : TempPair) : l.Admits (l.clampPair p) := by
  obtain ⟨low, ordered, -⟩ := h
  have dry := clampInt_bounds p.dry ordered
  have wet := clampInt_bounds p.wet (low.trans dry.1)
  exact ⟨dry.1, dry.2, wet.1, wet.2⟩

theorem Limits.Legal.admits_idle {l : Limits} (h : l.Legal) : l.Admits ⟨l.idleDry, l.idleWet⟩ := by
  obtain ⟨-, -, -, low, high, wet, least, -⟩ := h
  exact ⟨low, high, wet, least⟩

theorem Kiln.keepsDuty_takeStarting : Kiln.KeepsDuty Kiln.takeStarting := fun q hq =>
  hq.retains hq.state rfl hq.position hq.timer fun hp => ⟨hp.written, hp.inUse, q.startingPair, rfl, hp.inUse.admits_clampPair _⟩

theorem Kiln.keepsDuty_finish : Kiln.KeepsDuty Kiln.finish := fun q hq =>
  hq.retains (nomatch ·) rfl hq.position hq.timer fun hp => ⟨hp.written, hp.inUse, q.idlePair, rfl, hp.inUse.admits_idle⟩

/-- A ramp stays within the limits in use (R92). -/
theorem Kiln.Busy.retains_rampTo {q : Kiln} (hq : q.Busy) (target : TempPair) (x y : Nat) : q.Retains (q.rampTo target x y) := by
  fun_cases Kiln.rampTo target x y q
  case case1 => exact hq.retains hq.state rfl hq.position hq.timer fun hp =>
    ⟨hp.written, hp.inUse, _, rfl, hp.inUse.admits_clampPair _⟩
  case case2 => exact .refl hq

theorem Kiln.keepsDuty_rampToStep : Kiln.KeepsDuty Kiln.rampToStep := fun q hq => by
  fun_cases Kiln.rampToStep q
  case case1 => exact hq.retains_rampTo _ _ _
  case case2 => exact .refl hq

theorem Kiln.keepsDuty_governed : Kiln.KeepsDuty Kiln.governed := fun q hq => by
  fun_cases Kiln.governed q
  case case3 => exact .refl hq
  all_goals exact hq.retains_rampTo _ _ _

theorem Kiln.keepsDuty_deriveTargets : Kiln.KeepsDuty Kiln.deriveTargets := by
  refine .of_duty (fun q => ?_) (fun q => ?_) <;> fun_cases Kiln.deriveTargets q <;> rfl

theorem Kiln.keepsDuty_fanStep : Kiln.KeepsDuty Kiln.fanStep := by
  refine .of_duty (fun q => ?_) (fun q => ?_) <;> fun_cases Kiln.fanStep q <;> rfl

/-- A change of the position to another. -/
theorem Kiln.Busy.retains_position {q : Kiln} (hq : q.Busy) {p : Option StepPosition} (placed : p.isSome = true) :
    q.Retains { q with position := p } :=
  hq.retains hq.state rfl placed hq.timer fun hp => ⟨hp.written, hp.inUse, hp.setpoints⟩

theorem Kiln.keepsDuty_enter (t : Step) (i e : Nat) : Kiln.KeepsDuty (Kiln.enter t i e) := fun _ hq =>
  (hq.retains_position (p := some ⟨i, e⟩) rfl).trans ((hq.retains_position (p := some ⟨i, e⟩) rfl).busy.retains_duty
    hq.state rfl)

theorem Kiln.keepsDuty_countElapsed : Kiln.KeepsDuty Kiln.countElapsed := fun _ hq =>
  hq.retains_position (by rw [Option.isSome_map]; exact hq.position)

theorem Kiln.keepsDuty_runPart : Kiln.KeepsDuty (fun q => q.countElapsed.deriveTargets.rampToStep.fanStep) :=
  ((Kiln.keepsDuty_countElapsed.comp Kiln.keepsDuty_deriveTargets).comp Kiln.keepsDuty_rampToStep).comp
    Kiln.keepsDuty_fanStep

/-- Part 1 of a kiln minute prices the unit afresh (R88). -/
theorem Kiln.keepsDuty_minuteLimits : Kiln.KeepsDuty (fun q => { q with timer := some 0 }.minuteLimits) := fun q hq => by
  have priced {p : TempPair} (admitted : q.written.Legal → q.written.Admits p) :
      q.Retains ({ q with timer := some 0 }.takeLimits.withSetpoints p) :=
    hq.retains hq.state rfl hq.position rfl fun hp => ⟨hp.written, hp.written, p, rfl, admitted hp.written⟩
  dsimp only
  fun_cases Kiln.minuteLimits { q with timer := some 0 }
  case case1 _ state => exact absurd state hq.state
  case case2 => exact priced fun h => h.admits_idle
  case case3 => exact priced fun h => h.admits_idle
  all_goals exact priced fun h => h.admits_clampPair _

theorem Kiln.keepsDuty_running : Kiln.KeepsDuty (fun q => { q.loadCountdown with state := .running }) := fun _ hq =>
  hq.retains_duty (nomatch ·) rfl

theorem Kiln.keepsDuty_stopped : Kiln.KeepsDuty (fun q => { q with state := .stopped, stack := [] }) := fun _ hq =>
  hq.retains_duty (nomatch ·) rfl

theorem Kiln.keepsDuty_pushed (e : HoldEntry) : Kiln.KeepsDuty (Kiln.pushed e) := fun _ hq =>
  hq.retains_duty (nomatch ·) rfl

/-! ### Changes of a charge record that keep its ledger -/

theorem Charge.keepsLedger_of_state {f : Charge → Charge} {x : ChargeState} (hc : x ≠ .closed) (hp : x ≠ .planing)
    (h : ∀ c, f c = { f c with
      number := c.number, refs := c.refs, origins := c.origins, kiln := c.kiln, entry := c.entry, state := x }) :
    Charge.KeepsLedger f := by
  intro c
  rw [h c]
  exact ⟨rfl, rfl, rfl, rfl, rfl, fun _ => hc, fun _ => hp⟩

theorem Charge.keepsLedger_complete (t : Stamp) (q : Kiln) : Charge.KeepsLedger (Charge.complete t q) :=
  Charge.keepsLedger_of_state (x := .dried) (by decide) (by decide) fun _ => rfl

theorem Charge.keepsLedger_countPush : Charge.KeepsLedger Charge.countPush := fun _ => ⟨rfl, rfl, rfl, rfl, rfl, id, id⟩

theorem Charge.keepsLedger_drying : Charge.KeepsLedger (fun c => { c with state := .drying }) :=
  Charge.keepsLedger_of_state (x := .drying) (by decide) (by decide) fun _ => rfl

/-! ### The operations of a kiln unit are its work -/

section
variable {leaves : Bool} (k : KilnId) (s : State)

theorem State.drewElapsed_work : KilnDuty leaves k s (s.drewElapsed k) := by
  unfold State.drewElapsed
  split
  · exact .refl s
  · exact .drew 2 s

theorem State.raiseStatus_work : KilnDuty leaves k s (s.raiseStatus k) := by
  unfold State.raiseStatus
  exact ((s.drewElapsed_work k).thenKiln).thenRaise _

theorem State.testStatus_work : KilnDuty leaves k s (s.testStatus k) := by
  unfold State.testStatus
  split
  · exact s.raiseStatus_work k
  · exact .refl s

theorem State.setpointOnChange_work (m : Bool) : KilnDuty leaves k s (s.setpointOnChange m k) := by
  unfold State.setpointOnChange
  split
  · exact .refl s
  · exact .setpoint s

theorem State.announceState_work (m : Bool) : KilnDuty leaves k s (s.announceState m k) := by
  unfold State.announceState
  exact (s.raiseStatus_work k).trans (State.setpointOnChange_work k _ m)

theorem State.enterStep_work (i e : Nat) (c : EntryCause) : KilnDuty leaves k s (s.enterStep k i e c) := by
  unfold State.enterStep
  exact (KilnDuty.ofKiln s (Kiln.keepsWritten_enter _ i e) (Kiln.keepsDuty_enter _ i e)).thenRaise _

theorem State.completeCharge_work (m : Bool) : KilnDuty leaves k s (s.completeCharge m k) := by
  unfold State.completeCharge
  exact ((((KilnDuty.charge s (Charge.keepsLedger_complete _ _)).thenRaise _).thenKiln
    (duty := Kiln.keepsDuty_finish)).trans (.unbind _)).trans
    (State.announceState_work k _ m)

theorem State.adoptGeneration_work : KilnDuty leaves k s (s.adoptGeneration k) := by
  unfold State.adoptGeneration
  exact .ofCharge s

theorem State.becomeRunning_work : KilnDuty leaves k s (s.becomeRunning k) := by
  unfold State.becomeRunning
  exact (KilnDuty.ofKiln s (duty := Kiln.keepsDuty_running)).trans (State.announceState_work k _ false)

theorem State.resumeSchedule_work {prepare : Kiln → Kiln} (keeps : Kiln.KeepsWritten prepare)
    (duty : Kiln.KeepsDuty prepare) : KilnDuty leaves k s (s.resumeSchedule prepare k) := by
  unfold State.resumeSchedule
  dsimp only
  split
  · exact (s.adoptGeneration_work k).trans (State.completeCharge_work k _ false)
  · exact (((s.adoptGeneration_work k).thenKiln keeps duty).trans (State.enterStep_work k _ _ _ _)).trans
      (State.becomeRunning_work k _)

theorem State.stackEntry_work (e : HoldKind) : KilnDuty leaves k s (s.stackEntry e k) := by
  unfold State.stackEntry
  exact (KilnDuty.ofKiln s (duty := Kiln.keepsDuty_pushed _)).thenCharge Charge.keepsLedger_countPush

theorem State.pushHold_work (m : Bool) (e : HoldKind) : KilnDuty leaves k s (s.pushHold m e k) := by
  unfold State.pushHold
  dsimp only
  split
  · exact (s.stackEntry_work k e).trans (State.announceState_work k _ m)
  · exact s.stackEntry_work k e

theorem State.stopKiln_work (m : Bool) (c : StopCause) : KilnDuty leaves k s (s.stopKiln m c k) := by
  unfold State.stopKiln
  exact ((KilnDuty.ofKiln s (duty := Kiln.keepsDuty_stopped)).thenRaise _).trans
    (State.announceState_work k _ m)

theorem State.applyAction_work (m : Bool) (f : FaultKind) (a : FaultAction) (x : Bool) :
    KilnDuty leaves k s (s.applyAction m f a x k) := by
  cases a with
  | none => exact .refl s
  | hold => exact s.pushHold_work k m _
  | safe => exact s.pushHold_work k m _
  | shutdown => exact s.stopKiln_work k m _

theorem State.takeFault_work (m : Bool) (f : FaultKind) : KilnDuty leaves k s (s.takeFault m f k) := by
  unfold State.takeFault
  exact ((KilnDuty.ofKiln s).thenRaise _).trans (State.applyAction_work k _ m f _ _)

theorem State.announceFault_work (f : FaultKind) : KilnDuty leaves k s (s.announceFault f k) := by
  unfold State.announceFault
  dsimp only
  split
  · exact .refl s
  · exact (KilnDuty.ofKiln s).thenRaise _

theorem State.detect_work (m : Bool) (f : FaultKind) : KilnDuty leaves k s (s.detect m f k) := by
  unfold State.detect
  dsimp only
  split
  · exact .refl s
  · split
    · exact .refl s
    · exact s.takeFault_work k m f
    · exact s.takeFault_work k m f
    · exact s.announceFault_work k f
    · exact s.announceFault_work k f
    · exact s.announceFault_work k f

theorem State.clearLatch_work (c : ClearCause) (f : FaultKind) : KilnDuty leaves k s (s.clearLatch c k f) := by
  unfold State.clearLatch
  exact (KilnDuty.ofKiln s).thenRaise _

theorem State.clearLatch_foldl_work (c : ClearCause) (l : List FaultKind) :
    KilnDuty leaves k s (l.foldl (State.clearLatch c k) s) := by
  induction l generalizing s with
  | nil => exact .refl s
  | cons f l ih => exact (s.clearLatch_work k c f).trans (ih _)

theorem State.clearLatches_work (c : ClearCause) (l : List FaultKind) : KilnDuty leaves k s (s.clearLatches c k l) := by
  unfold State.clearLatches
  exact (s.clearLatch_foldl_work k c _).trans (.drew _ _)

theorem State.selfClear_work : KilnDuty leaves k s (s.selfClear k) := by
  unfold State.selfClear
  exact (s.clearLatches_work k _ _).thenKiln

theorem State.runIfEmpty_work : KilnDuty leaves k s (s.runIfEmpty k) := by
  unfold State.runIfEmpty
  split
  · exact s.becomeRunning_work k
  · exact .refl s

theorem State.resumeEntry_work (e : HoldKind) : KilnDuty leaves k s (s.resumeEntry e k) := by
  have popped : KilnDuty leaves k s (s.modKiln k Kiln.popped) := .ofKiln s
  cases e with
  | override => exact popped.trans (State.runIfEmpty_work k _)
  | fault f a => exact (popped.trans (State.clearLatch_work k _ _ f)).trans (State.runIfEmpty_work k _)
  | schedule => exact popped.trans (State.resumeSchedule_work k _ (fun _ => ⟨rfl, rfl⟩) fun _ => Kiln.Retains.refl)

theorem State.restartKiln_work : KilnDuty leaves k s (s.restartKiln k) := by
  unfold State.restartKiln
  dsimp only
  split
  · exact ((s.clearLatches_work k _ _).thenKiln).trans (State.resumeSchedule_work k _ Kiln.keepsWritten_takeStarting
      Kiln.keepsDuty_takeStarting)
  · exact (((s.clearLatches_work k _ _).thenKiln).thenKiln Kiln.keepsWritten_takeStarting
      Kiln.keepsDuty_takeStarting).trans (State.becomeRunning_work k _)

theorem State.beginStart_work : KilnDuty leaves k s (s.beginStart k) := by
  unfold State.beginStart
  exact ((KilnDuty.ofCharge s).trans (State.adoptGeneration_work k _)).thenKiln

theorem State.startRunning_work (p : StepPosition) : KilnDuty leaves k s (s.startRunning k p) := by
  unfold State.startRunning
  exact (((KilnDuty.ofKiln s (duty := Kiln.keepsDuty_takeStarting)).trans (State.enterStep_work k _ _ _ _)).thenCharge Charge.keepsLedger_drying).trans
    (State.becomeRunning_work k _)

theorem State.startKiln_work (p : StepPosition) : KilnDuty leaves k s (s.startKiln k p) := by
  unfold State.startKiln
  dsimp only
  split
  · exact (s.beginStart_work k).trans (State.completeCharge_work k _ false)
  · exact (s.beginStart_work k).trans (State.startRunning_work k _ p)

theorem State.minuteAgeing_work : KilnDuty leaves k s (s.minuteAgeing k) := by
  unfold State.minuteAgeing
  split
  · exact (KilnDuty.ofKiln s).trans (State.testStatus_work k _)
  · exact .ofKiln s

theorem State.minuteSilence_work : KilnDuty leaves k s (s.minuteSilence k) := by
  unfold State.minuteSilence
  dsimp only
  split
  · exact (KilnDuty.ofKiln s).trans (State.detect_work k _ true .silent)
  · exact .ofKiln s

theorem State.recordExit_work (p : StepPosition) (r : ExitReason) : KilnDuty leaves k s (s.recordExit k p r) := by
  unfold State.recordExit
  exact (KilnDuty.ofCharge s).thenKiln (duty := fun _ hq => hq.retains_position rfl)

theorem State.advance_work (i : Nat) : KilnDuty leaves k s (s.advance k i) := by
  unfold State.advance
  split
  · exact s.completeCharge_work k true
  · exact s.enterStep_work k i 0 .transition

theorem State.follow_work (c : Charge) : KilnDuty leaves k s (s.follow k c) := by
  unfold State.follow
  exact (s.adoptGeneration_work k).thenRaise _

theorem State.holdSchedule_work (c : Charge) (i : Nat) : KilnDuty leaves k s (s.holdSchedule k c i) := by
  unfold State.holdSchedule
  exact ((s.stackEntry_work k .schedule).thenRaise _).trans (State.announceState_work k _ true)

theorem State.exitStep_work (r : ExitReason) : KilnDuty leaves k s (s.exitStep k r) := by
  unfold State.exitStep
  split
  · next p c _ _ =>
      dsimp only
      split
      · exact (s.recordExit_work k p r).trans (State.advance_work k _ _)
      · split
        · exact ((s.recordExit_work k p r).trans (State.follow_work k _ c)).trans (State.advance_work k _ _)
        · exact (s.recordExit_work k p r).trans (State.holdSchedule_work k _ c _)
  · exact .refl s

theorem State.evaluateExit_work : KilnDuty leaves k s (s.evaluateExit k) := by
  unfold State.evaluateExit
  split
  · exact s.exitStep_work k _
  · exact .refl s

theorem State.applyDeviation_work : KilnDuty leaves k s (s.applyDeviation k) := by
  fun_cases State.applyDeviation k s
  case case1 => exact .refl s
  case case2 => exact .refl s
  case case3 => exact .ofKiln s
  case case4 => exact .refl s
  case case5 => exact (KilnDuty.ofKiln s).trans (State.detect_work k _ true .deviation)
  case case6 => exact .ofKiln s

theorem State.minuteRun_work : KilnDuty leaves k s (s.minuteRun k) := by
  unfold State.minuteRun
  split
  · exact ((KilnDuty.ofKiln s Kiln.keepsWritten_runPart Kiln.keepsDuty_runPart).trans (State.evaluateExit_work k _)).trans
      (State.applyDeviation_work k _)
  · exact .ofKiln s Kiln.keepsWritten_governed Kiln.keepsDuty_governed
  all_goals exact .refl s

theorem State.kilnMinute_work : KilnDuty leaves k s (s.kilnMinute k) := by
  unfold State.kilnMinute
  exact (((((KilnDuty.ofKiln s Kiln.keepsWritten_minuteLimits Kiln.keepsDuty_minuteLimits).trans (State.minuteAgeing_work k _)).trans
    (State.minuteSilence_work k _)).trans (State.minuteRun_work k _)).trans (State.selfClear_work k _)).trans (.setpoint _)

theorem State.climateArrival_work (x : List Byte) : KilnDuty leaves k s (s.climateArrival k x) := by
  have taken : KilnDuty leaves k s (s.modKiln k (Kiln.takeClimate x)) := .ofKiln s
  unfold State.climateArrival
  dsimp only
  split
  · exact .refl s
  · refine KilnDuty.trans ?_ (State.testStatus_work k _)
    split
    · exact taken.trans (State.detect_work k _ false .range)
    · exact taken

theorem State.probeArrival_work (x : List Byte) : KilnDuty leaves k s (s.probeArrival k x) := by
  unfold State.probeArrival
  split
  · exact .refl s
  · exact (KilnDuty.ofKiln s).trans (State.testStatus_work k _)

theorem State.releaseEntry_work : KilnDuty leaves k s (s.releaseEntry k) := by
  unfold State.releaseEntry
  split
  · exact .refl s
  · exact .unbind s

theorem State.unloadKiln_work (r : EndReason) : KilnWork k s (s.unloadKiln k r) := by
  have given (t : State) : KilnWork k t (t.modKiln k Kiln.unload) := .kiln t (fun _ => ⟨rfl, rfl⟩) fun h => nomatch h
  unfold State.unloadKiln
  exact ((((s.releaseEntry_work k).thenCharge
    (Charge.keepsLedger_of_state (x := .stored) (by decide) (by decide) fun _ => rfl)).trans (given _)).trans
    (.withdraw _)).trans (State.raiseStatus_work k _)

end

/-! ### The directory's committed content (R58, R62) -/

/-- A directory entry without its in-use count. -/
def DirEntry.content (e : DirEntry) : DirEntry := { e with inUse := 0 }

/-- The directory's committed content. -/
def State.committed (s : State) (d : Fin 32) : DirEntry := s.directory[d].content

theorem State.modEntry_entry (s : State) (d e : Fin 32) (f : DirEntry → DirEntry) :
    (s.modEntry d f).directory[e] = if e = d then f s.directory[d] else s.directory[e] := by
  rw [State.modEntry_directory]
  split
  · next h => subst h; exact Vector.getElem_set_self ..
  · next h => exact Vector.getElem_set_ne _ _ (fun eq => h (Fin.ext eq.symm))

theorem State.committed_of_inner {s t : State} (h : t.inner = s.inner) : t.committed = s.committed :=
  (congrArg State.committed h :)

theorem State.committed_of_beyond {s t : State} (h : t.beyond = s.beyond) : t.committed = s.committed :=
  (congrArg State.committed h :)

theorem State.unbindEntry_committed (d : Fin 32) (s : State) : (s.unbindEntry d).committed = s.committed := by
  funext e
  unfold State.committed State.unbindEntry
  rw [State.modEntry_entry]
  split
  · next h => subst h; rfl
  · rfl

theorem State.bindEntry_committed (d : Fin 32) (s : State) : (s.bindEntry d).committed = s.committed := by
  funext e
  unfold State.committed State.bindEntry
  rw [State.modEntry_entry]
  split
  · next h => subst h; rfl
  · rfl

theorem State.modCharge_committed (n : Nat) (f : Charge → Charge) (s : State) :
    (s.modCharge n f).committed = s.committed := by
  fun_cases State.modCharge n f s <;> rfl

theorem State.modKilnCharge_committed (k : KilnId) (f : Charge → Charge) (s : State) :
    (s.modKilnCharge k f).committed = s.committed := by
  fun_cases State.modKilnCharge k f s
  case case1 => exact State.modCharge_committed _ f s
  case case2 => rfl

theorem KilnDuty.committed {k : KilnId} {s t : State} (h : KilnWork k s t) : t.committed = s.committed := by
  induction h with
  | refl => rfl
  | trans _ _ first next => exact next.trans first
  | raise n s => exact State.committed_of_inner (State.raise_inner n s)
  | setpoint s => exact State.committed_of_inner (State.produceSetpoint_inner k s)
  | withdraw s => exact State.committed_of_inner (State.withdrawSetpoint_inner k s)
  | drew => rfl
  | kiln => rfl
  | charge s _ => exact State.modKilnCharge_committed k _ s
  | unbind s =>
    fun_cases State.unbindKiln k s
    case case1 => exact State.unbindEntry_committed _ s
    case case2 => rfl

/-! ### The charge table's ledger (R127, R133, R136) -/

theorem State.findLive_eq_some {s : State} {n : Nat} {i : Fin 48} (h : s.findLive n = some i) :
    s.charges[i].number = n ∧ s.charges[i].state ≠ .closed := by
  unfold State.findLive at h
  split at h
  · next m hm =>
      obtain ⟨small, found, -⟩ := List.findIdx?_eq_some_iff_getElem.mp hm
      rw [index?_eq_some_iff] at h
      subst h
      simpa using found
  · exact nomatch h

/-- What the table's agreement reads of a record: its number, references and origins, and whether it is live. -/
def Charge.ledger (c : Charge) : Nat × Nat × List Nat × Bool := (c.number, c.refs, c.origins, c.state == .closed)

theorem State.setCharge_entry (s : State) (i j : Fin 48) (c : Charge) :
    (s.setCharge i c).charges[j] = if j = i then c else s.charges[j] := by
  rw [State.setCharge_charges]
  split
  · next h => subst h; exact Vector.getElem_set_self ..
  · next h => exact Vector.getElem_set_ne _ _ (fun eq => h (Fin.ext eq.symm))

/-- A change of the live record of a number reaches that record alone. -/
theorem State.modCharge_entry (n : Nat) (f : Charge → Charge) (s : State) (j : Fin 48) :
    (s.modCharge n f).charges[j] = if s.findLive n = some j then f s.charges[j] else s.charges[j] := by
  unfold State.modCharge
  split
  · next i hi =>
      rw [State.setCharge_entry, hi]
      by_cases h : j = i
      · subst h; rw [if_pos rfl, if_pos rfl]
      · rw [if_neg h, if_neg (fun eq => h (Option.some.inj eq).symm)]
  · next hi => rw [hi, if_neg (Option.some_ne_none j).symm]

theorem State.modCharge_ledger {f : Charge → Charge} (keeps : Charge.KeepsLedger f) (n : Nat) (s : State) (j : Fin 48) :
    (s.modCharge n f).charges[j].ledger = s.charges[j].ledger := by
  rw [State.modCharge_entry]
  split
  · next h =>
      obtain ⟨number, refs, origins, -, -, live, -⟩ := keeps s.charges[j]
      have was := (State.findLive_eq_some h).2
      simp only [Charge.ledger, number, refs, origins, beq_eq_false_iff_ne.mpr was, beq_eq_false_iff_ne.mpr (live was)]
  · rfl

theorem State.charges_of_inner {s t : State} (h : t.inner = s.inner) : t.charges = s.charges :=
  (congrArg State.charges h :)

theorem KilnDuty.ledger {k : KilnId} {s t : State} (h : KilnWork k s t) (j : Fin 48) :
    t.charges[j].ledger = s.charges[j].ledger := by
  induction h with
  | refl => rfl
  | trans _ _ first next => exact next.trans first
  | raise n s => rw [State.charges_of_inner (State.raise_inner n s)]
  | setpoint s => rw [State.charges_of_inner (State.produceSetpoint_inner k s)]
  | withdraw s => rw [State.charges_of_inner (State.withdrawSetpoint_inner k s)]
  | drew => rfl
  | kiln => rfl
  | charge s keeps =>
    fun_cases State.modKilnCharge k _ s
    case case1 => exact State.modCharge_ledger keeps _ s j
    case case2 => rfl
  | unbind s => fun_cases State.unbindKiln k s <;> rfl

end Sys2Proof.Machine
end

section
/-! PROOFS. Bounds: the outgoing traffic, the collections of the finishing side and the line-hold through everything a step
can do, the committed schedules, and the statement StepsKeepTheBounds. -/

namespace Sys2Proof.Machine

/-! ### The outgoing traffic stays within its bounds (R7, R15, R17, R38) -/

/-- The ports' queues and buffers and the notice queue within their bounds. -/
def State.TrafficBounded (s : State) : Prop :=
  (∀ p, (s.port p).Bounded) ∧ s.notices.length ≤ 32 ∧ infoCount s.notices ≤ 24

theorem State.TrafficBounded.congr {s t : State} (hs : s.TrafficBounded) (a : t.portA = s.portA) (b : t.portB = s.portB)
    (n : t.notices = s.notices) : t.TrafficBounded := by
  obtain ⟨ports, notices, infos⟩ := hs
  refine ⟨fun p => ?_, n ▸ notices, n ▸ infos⟩
  cases p
  · exact (congrArg Port.Bounded a).mpr (ports .a)
  · exact (congrArg Port.Bounded b).mpr (ports .b)

theorem State.TrafficBounded.modPort {s : State} (hs : s.TrafficBounded) (p : PortId) {f : Port → Port}
    (h : (s.port p).Bounded → (f (s.port p)).Bounded) : (s.modPort p f).TrafficBounded := by
  obtain ⟨ports, notices, infos⟩ := hs
  refine ⟨fun r => ?_, by rwa [State.modPort_notices], by rwa [State.modPort_notices]⟩
  by_cases hr : r = p
  · subst hr
    rw [State.port_modPort_self]
    exact h (ports r)
  · rw [State.port_modPort_other p r hr]
    exact ports r

theorem State.TrafficBounded.place {s : State} (hs : s.TrafficBounded) (p : PortId) (d : StationId) (kind : Byte)
    (x : List Byte) (room : (s.port p).localQueue.length < 16) : (s.place p d kind x).TrafficBounded := by
  unfold State.place
  refine (hs.modPort p (f := fun q => { q with localQueue := q.localQueue ++ _ }) ?_).congr rfl rfl rfl
  rintro ⟨buffer, pass, -, waiting⟩
  exact ⟨buffer, pass, by simpa using room, waiting⟩

theorem State.TrafficBounded.placeReply {s : State} (hs : s.TrafficBounded)
    (room : ∀ r, s.replySlot = some r → (s.port r.port).localQueue.length < 16) : s.placeReply.TrafficBounded := by
  unfold State.placeReply
  split
  · next r hr => exact (hs.place r.port r.dest kindReply r.payload (room r hr)).congr rfl rfl rfl
  · exact hs

theorem State.TrafficBounded.placeSetpoint {s : State} (hs : s.TrafficBounded) (k : KilnId) (p : PortId)
    (room : (s.port p).localQueue.length < 16) : (s.placeSetpoint k p).TrafficBounded := by
  unfold State.placeSetpoint
  split
  · exact hs.place p _ _ _ room
  · exact hs

theorem State.TrafficBounded.placeNotice {s : State} (hs : s.TrafficBounded) (p : PortId)
    (room : (s.port p).localQueue.length < 16) : (s.placeNotice p).TrafficBounded := by
  unfold State.placeNotice
  split
  · next n rest d hn _ =>
      obtain ⟨ports, -, -⟩ := hs.place p d kindNotice (n.payload s.dropCount) room
      obtain ⟨-, notices, infos⟩ := hs
      have fewer : rest.Sublist s.notices := hn ▸ List.sublist_cons_self n rest
      refine ⟨fun q => ?_, fewer.length_le.trans notices, fewer.countP_le.trans infos⟩
      cases q
      · exact ports .a
      · exact ports .b
  · exact hs

theorem State.TrafficBounded.placeRow {s : State} (hs : s.TrafficBounded) (p : PortId)
    (room : (s.port p).localQueue.length < 16) : (s.placeRow p).TrafficBounded := by
  unfold State.placeRow
  split
  · exact (hs.place p _ kindLabelRow _ room).congr rfl rfl rfl
  · exact hs

theorem State.mayPlace_room {s : State} {p : PortId} {c : SourceClass} (h : s.mayPlace p c = true) :
    (s.port p).localQueue.length < 16 := ((s.mayPlace_iff p c).mp h).1

theorem State.TrafficBounded.produceReply {s : State} (hs : s.TrafficBounded) : s.produceReply.TrafficBounded := by
  unfold State.produceReply
  split
  · next r hr =>
      split
      · next may =>
          refine hs.placeReply (fun x hx => ?_)
          obtain rfl := Option.some.inj (hr.symm.trans hx)
          exact State.mayPlace_room may
      · exact hs
  · exact hs

theorem State.TrafficBounded.produceSetpoint {s : State} (hs : s.TrafficBounded) (k : KilnId) :
    (s.produceSetpoint k).TrafficBounded := by
  unfold State.produceSetpoint
  split
  · exact hs
  · next p _ =>
      split
      · exact hs
      · next absent =>
          split
          · next may => exact hs.placeSetpoint k p (State.mayPlace_room (Bool.and_eq_true_iff.mp may).2)
          · refine hs.modPort p ?_
            rintro ⟨buffer, pass, loc, waiting⟩
            refine ⟨buffer, pass, loc, waiting.append (List.nodup_singleton k) ?_⟩
            simpa using absent

theorem State.TrafficBounded.withdrawSetpoint {s : State} (hs : s.TrafficBounded) (k : KilnId) :
    (s.withdrawSetpoint k).TrafficBounded := by
  have dropped (q : Port) (h : q.Bounded) :
      Port.Bounded { q with setpointWaiting := q.setpointWaiting.filter (fun j => j != k) } := by
    obtain ⟨buffer, pass, loc, waiting⟩ := h
    exact ⟨buffer, pass, loc, waiting.filter _⟩
  unfold State.withdrawSetpoint
  exact (hs.modPort .a (dropped _)).modPort .b (dropped _)

theorem State.TrafficBounded.produceNotices {s : State} (hs : s.TrafficBounded) : s.produceNotices.TrafficBounded := by
  have fuelled (n : Nat) : ∀ u : State, u.TrafficBounded → (produceNoticesFuel n u).TrafficBounded := by
    induction n with
    | zero => exact fun _ hu => hu
    | succ n ih =>
      intro u hu
      unfold produceNoticesFuel
      split
      · exact hu
      · next p _ =>
          split
          · next may => exact ih _ (hu.placeNotice p (State.mayPlace_room (Bool.and_eq_true_iff.mp may).2))
          · exact hu
  exact fuelled _ s hs

theorem State.TrafficBounded.produceRows {s : State} (hs : s.TrafficBounded) : s.produceRows.TrafficBounded := by
  have fuelled (n : Nat) : ∀ u : State, u.TrafficBounded → (produceRowsFuel n u).TrafficBounded := by
    induction n with
    | zero => exact fun _ hu => hu
    | succ n ih =>
      intro u hu
      unfold produceRowsFuel
      split
      · exact hu
      · next p _ =>
          split
          · next may => exact ih _ (hu.placeRow p (State.mayPlace_room (Bool.and_eq_true_iff.mp may).2))
          · exact hu
  exact fuelled _ s hs

theorem State.judgeNotice_length (n : Notice) (s : State) (h : s.notices.length ≤ 32) :
    (s.judgeNotice n).notices.length ≤ 32 := by
  by_cases hd : s.notifyStation = none
  · rwa [s.judgeNotice_unmapped n hd]
  cases hm : s.notices.any n.sameKiln with
  | true =>
    rw [s.judgeNotice_coalesces n hd hm, List.length_map]
    exact h
  | false =>
    cases hk : n.kind.isAlarm with
    | false =>
      rw [s.judgeNotice_info n hd hm hk]
      split
      · next hq => rw [List.length_append]; exact (Nat.succ_le_succ hq.le).trans (by decide)
      · exact h
    | true =>
      rcases Nat.lt_or_ge s.notices.length 32 with hq | hq
      · rw [s.judgeNotice_alarm_room n hd hm hk hq, List.length_append]
        exact hq
      · rw [s.judgeNotice_alarm_full n hd hm hk hq]
        cases hr : dropNewestInfo s.notices with
        | none => exact h
        | some rest =>
          have fewer : rest.length < s.notices.length := by
            unfold dropNewestInfo at hr
            split at hr
            · next some =>
                obtain ⟨e, he, info⟩ := List.any_eq_true.mp some
                obtain rfl := Option.some.inj hr
                rw [List.length_reverse, List.length_eraseP_of_mem (List.mem_reverse.mpr he) info, List.length_reverse]
                exact Nat.sub_lt (List.length_pos_of_mem he) Nat.one_pos
            · exact nomatch hr
          rw [Option.elim_some, List.length_append]
          exact fewer.trans_le h

theorem State.judgeNotice_ports (n : Notice) (s : State) :
    (s.judgeNotice n).portA = s.portA ∧ (s.judgeNotice n).portB = s.portB := by
  fun_cases State.judgeNotice n s <;> exact ⟨rfl, rfl⟩

theorem State.TrafficBounded.raise {s : State} (hs : s.TrafficBounded) (n : Notice) : (s.raise n).TrafficBounded := by
  obtain ⟨ports, notices, infos⟩ := hs
  obtain ⟨a, b⟩ := s.judgeNotice_ports n
  refine State.TrafficBounded.produceNotices ⟨fun p => ?_, s.judgeNotice_length n notices, s.judgeNotice_infoCount n infos⟩
  cases p
  · exact (congrArg Port.Bounded a).mpr (ports .a)
  · exact (congrArg Port.Bounded b).mpr (ports .b)

theorem State.TrafficBounded.offer {s : State} (hs : s.TrafficBounded) (p : PortId)
    (room : (s.port p).localQueue.length < 16) : (s.offer p).TrafficBounded := by
  have served (c : SourceClass) {u : State} (hu : u.TrafficBounded) :
      (u.modPort p (fun q => { q with lastServed := c })).TrafficBounded := hu.modPort p id
  unfold State.offer
  split
  · next c found =>
      refine served c ?_
      have pending := List.find?_some found
      cases c with
      | reply =>
        refine hs.placeReply (fun r hr => ?_)
        have here : r.port = p := by simpa [State.pendingOn, hr] using pending
        rwa [here]
      | setpoint =>
        unfold State.placeFrom
        dsimp only
        split
        · next k rest waiting =>
            refine State.TrafficBounded.placeSetpoint (hs.modPort p ?_) k p (by rwa [State.port_modPort_self])
            rintro ⟨buffer, pass, loc, nodup⟩
            exact ⟨buffer, pass, loc, (List.nodup_cons.mp (waiting ▸ nodup)).2⟩
        · exact hs
      | notice => exact hs.placeNotice p room
      | labelRow => exact hs.placeRow p room
  · exact hs

theorem KilnDuty.traffic {k : KilnId} {s t : State} (h : KilnWork k s t) (hs : s.TrafficBounded) : t.TrafficBounded := by
  induction h with
  | refl => exact hs
  | trans _ _ first next => exact next (first hs)
  | raise n _ => exact hs.raise n
  | setpoint => exact hs.produceSetpoint k
  | withdraw => exact hs.withdrawSetpoint k
  | drew => exact hs.congr rfl rfl rfl
  | kiln => exact hs.congr rfl rfl rfl
  | charge s _ =>
    fun_cases State.modKilnCharge k _ s
    case case1 n _ => fun_cases State.modCharge n _ s <;> exact hs.congr rfl rfl rfl
    case case2 => exact hs
  | unbind s => fun_cases State.unbindKiln k s <;> exact hs.congr rfl rfl rfl

/-! ### The collections of the finishing side (R126, R141, R167, R173, R175, R182) -/

/-- Boards, labels, the pack log, the lots and the charge lists and origins within their bounds. -/
structure State.StoresBounded (s : State) : Prop where
  boards : s.line.queue.length ≤ 64
  labels : s.labels.queue.length ≤ 8
  log : s.packLog.length ≤ 64
  lots : s.lots.length ≤ 32
  packs : ∀ (b : Fin 16) (p : Pack), s.bins[b].pack = some p → p.charges.length ≤ 4
  logged : ∀ e ∈ s.packLog, e.pack.charges.length ≤ 4
  lotOrigins : ∀ l ∈ s.lots, l.origins.length ≤ 4
  origins : ∀ i : Fin 48, s.charges[i].origins.length ≤ 8

theorem State.StoresBounded.congr {s t : State} (hs : s.StoresBounded) (line : t.line.queue.length = s.line.queue.length)
    (labels : t.labels.queue.length = s.labels.queue.length) (log : t.packLog = s.packLog) (lots : t.lots = s.lots)
    (bins : t.bins = s.bins) (charges : ∀ i : Fin 48, t.charges[i].origins = s.charges[i].origins) : t.StoresBounded where
  boards := line ▸ hs.boards
  labels := labels ▸ hs.labels
  log := log ▸ hs.log
  lots := lots ▸ hs.lots
  packs := bins ▸ hs.packs
  logged := log ▸ hs.logged
  lotOrigins := lots ▸ hs.lotOrigins
  origins i := charges i ▸ hs.origins i

theorem State.StoresBounded.of_inner {s t : State} (hs : s.StoresBounded) (h : t.inner = s.inner) : t.StoresBounded :=
  hs.congr (congrArg (fun u => u.line.queue.length) h) (congrArg (fun u => u.labels.queue.length) h)
    (congrArg State.packLog h :) (congrArg State.lots h :) (congrArg State.bins h :)
    (fun i => congrArg (fun u => u.charges[i].origins) h)

theorem KilnDuty.stores {k : KilnId} {s t : State} (h : KilnWork k s t) (hs : s.StoresBounded) : t.StoresBounded := by
  have aside := h.aside
  exact hs.congr (congrArg (fun u => u.line.queue.length) aside) (congrArg (fun u => u.labels.queue.length) aside)
    (congrArg State.packLog aside :) (congrArg State.lots aside :) (congrArg State.bins aside :)
    (fun i => congrArg (fun x => x.2.2.1) (h.ledger i))

/-! ### The line-hold (R155) -/

theorem State.HoldInBounds.congr {s t : State} (hs : s.HoldInBounds)
    (line : t.line.queue.length = s.line.queue.length) (labels : t.labels.queue.length = s.labels.queue.length)
    (asserted : t.line.holdAsserted = s.line.holdAsserted) : t.HoldInBounds := by
  unfold State.HoldInBounds
  rw [line, labels, asserted]
  exact hs

theorem State.HoldInBounds.of_inner {s t : State} (hs : s.HoldInBounds) (h : t.inner = s.inner) : t.HoldInBounds :=
  hs.congr (congrArg (fun u => u.line.queue.length) h) (congrArg (fun u => u.labels.queue.length) h)
    (congrArg (fun u => u.line.holdAsserted) h)

theorem State.evaluateHold_asserted (s : State) : s.evaluateHold.line.holdAsserted =
    holdNext s.line.holdAsserted s.line.queue.length s.labels.queue.length := by
  unfold State.evaluateHold
  dsimp only
  split
  · next same => exact same.symm
  · rw [State.raise_line]; rfl

/-- The hysteresis lies within its bounds whatever the two counts are. -/
theorem State.evaluateHold_inBounds (s : State) : s.evaluateHold.HoldInBounds := by
  unfold State.HoldInBounds
  rw [State.evaluateHold_asserted, State.evaluateHold_queue, State.evaluateHold_labels]
  unfold holdNext
  cases s.line.holdAsserted <;> simp <;> omega

/-! ### What the finishing side does keeps all three -/

/-- Work of the line tracker, the pack builder or the label unit: it keeps the bounds of the outgoing traffic and of the
line-hold, and, under a condition on what it is given, those of the collections. -/
structure LineWork (c : Prop) (s t : State) : Prop where
  traffic : s.TrafficBounded → t.TrafficBounded
  hold : s.HoldInBounds → t.HoldInBounds
  stores : c → s.StoresBounded → t.StoresBounded

namespace LineWork

variable {c : Prop} {s t u : State}

theorem refl (c : Prop) (s : State) : LineWork c s s := ⟨id, id, fun _ => id⟩

theorem trans (first : LineWork c s t) (next : LineWork c t u) : LineWork c s u :=
  ⟨next.traffic ∘ first.traffic, next.hold ∘ first.hold, fun hc hs => next.stores hc (first.stores hc hs)⟩

/-- A condition that the collections' bounds give is met. -/
theorem discharge (h : LineWork c s t) (met : s.StoresBounded → c) {d : Prop} : LineWork d s t :=
  ⟨h.traffic, h.hold, fun _ hs => h.stores (met hs) hs⟩

theorem ofInner (h : t.inner = s.inner) (traffic : s.TrafficBounded → t.TrafficBounded) : LineWork c s t :=
  ⟨traffic, fun hs => hs.of_inner h, fun _ hs => hs.of_inner h⟩

theorem raise (n : Notice) (s : State) : LineWork c s (s.raise n) := ofInner (State.raise_inner n s) (fun hs => hs.raise n)

theorem rows (s : State) : LineWork c s s.produceRows :=
  ofInner (State.produceRows_inner s) State.TrafficBounded.produceRows

/-- A change inside the part that leaves the queues' lengths and the line-hold. -/
theorem inside (a : t.portA = s.portA) (b : t.portB = s.portB) (n : t.notices = s.notices)
    (line : t.line.queue.length = s.line.queue.length) (labels : t.labels.queue.length = s.labels.queue.length)
    (asserted : t.line.holdAsserted = s.line.holdAsserted) (stores : c → s.StoresBounded → t.StoresBounded) :
    LineWork c s t := ⟨fun hs => hs.congr a b n, fun hs => hs.congr line labels asserted, stores⟩

/-- A change of a queue's length, after which the line-hold is evaluated. -/
theorem evaluated (a : t.portA = s.portA) (b : t.portB = s.portB) (n : t.notices = s.notices)
    (stores : c → s.StoresBounded → t.StoresBounded) : LineWork c s t.evaluateHold := by
  refine ⟨fun hs => ?_, fun _ => t.evaluateHold_inBounds, fun hc hs => ?_⟩
  · have ht := hs.congr a b n
    unfold State.evaluateHold
    dsimp only
    split
    · exact ht
    · refine State.TrafficBounded.raise ?_ _
      exact ht.congr rfl rfl rfl
  · have ht := stores hc hs
    unfold State.evaluateHold
    dsimp only
    split
    · exact ht
    · refine State.StoresBounded.of_inner ?_ (State.raise_inner _ _)
      exact ht.congr rfl rfl rfl rfl rfl fun _ => rfl

end LineWork

section
variable {c : Prop} (s : State)

theorem State.evaluateHold_work : LineWork c s s.evaluateHold := .evaluated rfl rfl rfl fun _ => id

theorem State.modLabels_work (f : LabelUnit → LabelUnit) (h : (f s.labels).queue = s.labels.queue) :
    LineWork c s (s.modLabels f) :=
  .inside rfl rfl rfl rfl (congrArg List.length h) rfl fun _ hs =>
    hs.congr rfl (congrArg List.length h) rfl rfl rfl fun _ => rfl

theorem State.modLine_work (f : Line → Line) (queue : (f s.line).queue.length = s.line.queue.length)
    (asserted : (f s.line).holdAsserted = s.line.holdAsserted) : LineWork c s (s.modLine f) :=
  .inside rfl rfl rfl queue rfl asserted fun _ hs => hs.congr queue rfl rfl rfl rfl fun _ => rfl

theorem State.startHead_work : LineWork c s s.startHead := by
  unfold State.startHead
  split
  · exact s.modLabels_work _ rfl
  · split
    · exact (s.modLabels_work _ rfl).trans (.rows _)
    · exact s.modLabels_work _ rfl

/-- A charge record changed outside its origins. -/
theorem State.modCharge_work (n : Nat) (f : Charge → Charge) (h : ∀ x, (f x).origins = x.origins) :
    LineWork c s (s.modCharge n f) := by
  refine .inside ?_ ?_ ?_ ?_ ?_ ?_ (fun _ hs => hs.congr ?_ ?_ ?_ ?_ ?_ fun i => ?origins)
  case origins =>
    rw [State.modCharge_entry]
    split
    · exact h _
    · rfl
  all_goals fun_cases State.modCharge n f s <;> rfl

theorem State.takeRef_work (x : Option Nat) : LineWork c s (s.takeRef x) := by
  unfold State.takeRef
  split
  · exact s.modCharge_work _ _ fun _ => rfl
  · exact .refl c s

theorem State.setCharge_work (i : Fin 48) (x : Charge) (h : x.origins = s.charges[i].origins) :
    LineWork c s (s.setCharge i x) := by
  refine .inside rfl rfl rfl rfl rfl rfl (fun _ hs => hs.congr rfl rfl rfl rfl rfl fun j => ?_)
  rw [State.setCharge_entry]
  split
  · next eq => subst eq; exact h
  · rfl

theorem State.closeRecord_work (i : Fin 48) : LineWork c s (s.closeRecord i) :=
  (s.setCharge_work i { s.charges[i] with state := .closed, closedStamp := some s.stamp } rfl).trans
    (.inside rfl rfl rfl rfl rfl rfl fun _ hs => hs.congr rfl rfl rfl rfl rfl fun _ => rfl)

theorem State.releaseRef_work (x : Option Nat) : LineWork c s (s.releaseRef x) := by
  unfold State.releaseRef
  split
  · exact .refl c s
  · split
    · exact .refl c s
    · next i _ =>
        have counted : LineWork c s (s.setCharge i { s.charges[i] with refs := s.charges[i].refs - 1 }) :=
          s.setCharge_work i _ rfl
        dsimp only
        split
        · exact counted.trans (State.closeRecord_work _ i)
        · exact counted

theorem State.drewFree_work (n : Nat) : LineWork c s (s.drewFree n) :=
  .inside rfl rfl rfl rfl rfl rfl fun _ hs => hs.congr rfl rfl rfl rfl rfl fun _ => rfl

theorem State.releaseRef_foldl_work (l : List (Option Nat)) : LineWork c s (l.foldl (fun t x => t.releaseRef x) s) := by
  induction l generalizing s with
  | nil => exact .refl c s
  | cons x l ih => exact (s.releaseRef_work x).trans (ih _)

theorem State.releaseRefs_work (l : List (Option Nat)) : LineWork c s (s.releaseRefs l) :=
  (s.releaseRef_foldl_work _).trans (State.drewFree_work _ _)

theorem State.handOff_work (p : Pack) (bin : Fin 16) (r : CloseReason) : LineWork c s (s.handOff p bin r) := by
  unfold State.handOff
  split
  · next room =>
      have joined : LineWork c s
          (s.modLabels (fun u => { u with queue := u.queue ++ [s.render p bin r] })).evaluateHold :=
        .evaluated rfl rfl rfl fun _ hs => { hs with labels := by simpa [Config.labelCapacity] using room }
      dsimp only
      split
      · exact joined.trans (State.startHead_work _)
      · exact joined
  · exact .refl c s

theorem State.finishHead_work (o : LabelOutcome) : LineWork c s (s.finishHead o) := by
  unfold State.finishHead
  split
  · exact .refl c s
  · next l rest hq =>
      dsimp only
      have stopped : LineWork c s (s.modLabels (fun u => { u with timer := none })) := s.modLabels_work _ rfl
      have told : LineWork c s (if o = .printed then s.modLabels (fun u => { u with timer := none })
          else (s.modLabels (fun u => { u with timer := none })).raise (labelFailed l.pack o l.bin)) := by
        split
        · exact stopped
        · exact stopped.trans (.raise _ _)
      have same : (if o = .printed then s.modLabels (fun u => { u with timer := none })
          else (s.modLabels (fun u => { u with timer := none })).raise (labelFailed l.pack o l.bin)).labels.queue
            = s.labels.queue := by
        split
        · rfl
        · rw [State.raise_labels_queue]; rfl
      generalize (if o = .printed then _ else _ : State) = raised at told same ⊢
      refine LineWork.trans (told.trans (.evaluated (t := ({ raised with
        packLog := reportOutcome l.pack o raised.packLog }).modLabels
          (fun u => { u with queue := rest, head := none, nextRow := 0 })) rfl rfl rfl fun _ hs => ?_))
        (State.startHead_work _)
      have log (x : List LogEntry) : (reportOutcome l.pack o x).length = x.length
          ∧ ((∀ e ∈ x, e.pack.charges.length ≤ 4) → ∀ e ∈ reportOutcome l.pack o x, e.pack.charges.length ≤ 4) := by
        fun_cases reportOutcome l.pack o x
        case case1 i _ =>
          refine ⟨by simp, fun h e he => ?_⟩
          obtain ⟨j, hj⟩ := List.mem_iff_getElem?.mp (List.mem_reverse.mp he)
          rw [List.getElem?_modify] at hj
          obtain ⟨y, hy, rfl⟩ := Option.map_eq_some_iff.mp hj
          have := h y (List.mem_reverse.mp (List.mem_of_getElem? hy))
          split <;> exact this
        case case2 => exact ⟨rfl, id⟩
      have fewer : rest.length ≤ 8 := by
        have := hs.labels
        rw [same, hq, List.length_cons] at this
        omega
      exact { hs with
        labels := fewer
        log := (log _).1.trans_le hs.log
        logged := (log _).2 hs.logged }

theorem State.printDone_work (x : List Byte) : LineWork c s (s.printDone x) := by
  unfold State.printDone
  split
  · exact s.finishHead_work _
  · exact s.modLine_work _ rfl rfl

theorem State.labelTimeout_work : LineWork c s s.labelTimeout := by
  unfold State.labelTimeout
  split
  · exact s.finishHead_work _
  · exact .refl c s

theorem State.followPrinter_work (x y : Option StationId) : LineWork c s (s.followPrinter x y) := by
  fun_cases State.followPrinter x y s
  case case1 => exact s.startHead_work
  case case3 => exact .rows s
  case case4 => exact s.startHead_work
  all_goals exact .refl c s

/-! ### Packs -/

theorem State.makeLot_work (p : Pack) : LineWork (p.charges.length ≤ 4) s (s.makeLot p) := by
  unfold State.makeLot
  split
  · next creates =>
      refine .inside rfl rfl rfl rfl rfl rfl fun few hs => ?_
      have room : s.lots.length < 32 := by
        have none := Option.isNone_iff_eq_none.mp (Bool.and_eq_true _ _ ▸ creates).2
        unfold State.lotRefusal Config.lotCapacity at none
        split at none
        · exact nomatch none
        · next room => exact Nat.lt_of_not_le room
      refine { hs with lots := by simpa using room, lotOrigins := fun l hl => ?_ }
      rcases List.mem_append.mp hl with hl | hl
      · exact hs.lotOrigins l hl
      · obtain rfl := List.mem_singleton.mp hl
        exact (List.length_filterMap_le _ _).trans few
  · exact .refl _ s

theorem State.writeLog_work (e : LogEntry) : LineWork (e.pack.charges.length ≤ 4) s (s.writeLog e) := by
  refine .inside rfl rfl rfl rfl rfl rfl fun few hs => ?_
  have kept : (if Config.logCapacity ≤ s.packLog.length then s.packLog.tail else s.packLog).length ≤ 63
      ∧ ∀ x ∈ (if Config.logCapacity ≤ s.packLog.length then s.packLog.tail else s.packLog), x ∈ s.packLog := by
    have := hs.log
    split
    · exact ⟨by rw [List.length_tail]; omega, fun x hx => List.mem_of_mem_tail hx⟩
    · next room => exact ⟨by simp only [Config.logCapacity] at room; omega, fun _ hx => hx⟩
  refine { hs with log := ?_, logged := fun x hx => ?_ }
  · simpa [State.writeLog] using Nat.succ_le_succ kept.1
  · rcases List.mem_append.mp hx with hx | hx
    · exact hs.logged x (kept.2 x hx)
    · obtain rfl := List.mem_singleton.mp hx
      exact few

theorem State.raiseLotLost_work (p : Pack) (cause : Option Nat) : LineWork c s (s.raiseLotLost p cause) := by
  unfold State.raiseLotLost
  split
  · exact .raise _ s
  · exact .refl c s

theorem State.raiseNoLabel_work (p : Pack) (bin : Fin 16) (o : LabelOutcome) : LineWork c s (s.raiseNoLabel p bin o) := by
  unfold State.raiseNoLabel
  split
  · exact .raise _ s
  · exact .refl c s

theorem State.modBin_entry (b x : Fin 16) (f : Bin → Bin) :
    (s.modBin b f).bins[x] = if x = b then f s.bins[b] else s.bins[x] := by
  rw [State.modBin_bins]
  split
  · next h => subst h; exact Vector.getElem_set_self ..
  · next h => exact Vector.getElem_set_ne _ _ (fun eq => h (Fin.ext eq.symm))

theorem State.modBin_work (b : Fin 16) (f : Bin → Bin)
    (h : c → s.StoresBounded → ∀ p, (f s.bins[b]).pack = some p → p.charges.length ≤ 4) : LineWork c s (s.modBin b f) := by
  refine .inside rfl rfl rfl rfl rfl rfl fun hc hs => { hs with packs := fun x p hp => ?_ }
  rw [State.modBin_entry] at hp
  split at hp
  · exact h hc hs p hp
  · exact hs.packs x p hp

theorem State.closePack_work (bin : Fin 16) (p : Pack) (r : CloseReason) :
    LineWork (p.charges.length ≤ 4) s (s.closePack bin p r) := by
  unfold State.closePack
  exact ((((((((s.handOff_work p bin r).trans (State.makeLot_work _ p)).trans (State.writeLog_work _ ⟨p, bin, r, _, _, _⟩)).trans
    (.raise _ _)).trans (State.raiseNoLabel_work _ p bin _)).trans (State.raiseLotLost_work _ p _)).trans
    (State.releaseRefs_work _ _))).trans (State.modBin_work _ bin _ fun _ _ _ h => nomatch h)

theorem Pack.add_charges (b : Board) (p : Pack) : (p.add b).charges = (p.takeCharge b.charge).charges := by
  rw [Pack.add_eq, Pack.takeCharge_eq]

theorem Pack.takeCharge_length (x : Option Nat) (p : Pack) (h : p.charges.length ≤ 4) (room : p.mixes x = false) :
    (p.takeCharge x).charges.length ≤ 4 := by
  unfold Pack.takeCharge
  split
  · exact h
  · next new =>
      simp only [Pack.mixes, new, Bool.not_false, Bool.true_and, decide_eq_false_iff_not] at room
      simpa using Nat.lt_of_not_le room

theorem State.addBoard_work (bin : Fin 16) (b : Board) (p : Pack) :
    LineWork ((p.add b).charges.length ≤ 4) s (s.addBoard bin b p) := by
  unfold State.addBoard
  have referred : LineWork ((p.add b).charges.length ≤ 4) s
      (if p.charges.contains b.charge then s else s.takeRef b.charge) := by
    split
    · exact .refl _ s
    · exact s.takeRef_work _
  have joined := referred.trans (State.modBin_work _ bin (fun x => { x.countBoard with pack := some (p.add b) })
    fun few _ q hq => (Option.some.inj hq) ▸ few)
  dsimp only
  split
  · exact joined.trans (State.closePack_work _ bin (p.add b) .countReached)
  · exact joined

theorem State.openWith_work (bin : Fin 16) (b : Board) : LineWork c s (s.openWith bin b) := by
  unfold State.openWith
  split
  · exact s.modBin_work bin _ fun _ hs p hp => hs.packs bin p hp
  · refine LineWork.trans (t := { s with nextPack := nextPackNumber s.nextPack }) ?_ ?_
    · exact .inside rfl rfl rfl rfl rfl rfl fun _ hs => hs.congr rfl rfl rfl rfl rfl fun _ => rfl
    · refine (State.addBoard_work _ bin b (s.freshPack bin)).discharge fun _ => ?_
      rw [Pack.add_charges]
      exact Pack.takeCharge_length _ _ (Nat.zero_le _) rfl

theorem State.placeBoard_work (bin : Fin 16) (b : Board) : LineWork c s (s.placeBoard bin b) := by
  unfold State.placeBoard
  split
  · exact s.openWith_work bin b
  · next p hp =>
      split
      · exact ((s.closePack_work bin p .chargeMix).discharge fun hs => hs.packs bin p hp).trans (State.openWith_work _ bin b)
      · next room =>
          refine (s.addBoard_work bin b p).discharge fun hs => ?_
          rw [Pack.add_charges]
          exact Pack.takeCharge_length _ _ (hs.packs bin p hp) (Bool.not_eq_true _ ▸ room)

theorem State.resetBin_work (bin : Fin 16) : LineWork c s (s.resetBin bin) := by
  unfold State.resetBin
  split
  · next p hp => exact (s.closePack_work bin p .lineReset).discharge fun hs => hs.packs bin p hp
  · exact .refl c s

theorem State.resetBin_foldl_work (l : List (Fin 16)) : LineWork c s (l.foldl State.resetBin s) := by
  induction l generalizing s with
  | nil => exact .refl c s
  | cons b l ih => exact (s.resetBin_work b).trans (ih _)

theorem State.resetBins_work : LineWork c s s.resetBins := by
  have counted (t : State) : LineWork c t { t with bins := t.bins.map (fun b => { b with counter := 0 }) } := by
    refine .inside rfl rfl rfl rfl rfl rfl fun _ hs => { hs with packs := fun b p hp => hs.packs b p ?_ }
    simpa using hp
  exact (s.resetBin_foldl_work (List.finRange 16)).trans (counted _)

/-! ### Boards -/

theorem State.countInCharge_work (b : Board) : LineWork c s (s.countInCharge b) := by
  unfold State.countInCharge
  split
  · exact s.modCharge_work _ _ fun _ => rfl
  · exact .refl c s

theorem Line.passUnread_queue (b : Board) (l : Line) : (l.passUnread b).queue = l.queue := by
  fun_cases Line.passUnread b l <;> rfl

theorem Line.passUnread_hold (b : Board) (l : Line) : (l.passUnread b).holdAsserted = l.holdAsserted := by
  fun_cases Line.passUnread b l <;> rfl

theorem LineWork.evaluate_after {s t : State} (h : c → s.StoresBounded → t.StoresBounded)
    (traffic : s.TrafficBounded → t.TrafficBounded) : LineWork c s t.evaluateHold :=
  ⟨fun hs => (t.evaluateHold_work (c := c)).traffic (traffic hs), fun _ => t.evaluateHold_inBounds,
    fun hc hs => t.evaluateHold_work.stores hc (h hc hs)⟩

theorem State.depart_work : LineWork c s s.depart := by
  unfold State.depart
  split
  · exact .refl c s
  · next b0 rest _ =>
      dsimp only
      have placed := ((s.modLine_work (c := c) (Line.passUnread b0) (congrArg List.length (Line.passUnread_queue b0 _))
        (Line.passUnread_hold b0 _)).trans (State.countInCharge_work _ b0.settleAtDeparture)).trans
          (State.placeBoard_work _ (State.chooseBin ((s.modLine (Line.passUnread b0)).countInCharge b0.settleAtDeparture)
            b0.settleAtDeparture) b0.settleAtDeparture)
      refine placed.trans (LineWork.evaluate_after (fun hc hs => ?_) (fun hs => ?_))
      · refine (State.releaseRef_work _ _).stores hc { hs with boards := ?_ }
        exact (List.length_tail.trans_le (Nat.sub_le _ _)).trans hs.boards
      · exact (State.releaseRef_work (c := c) _ _).traffic (hs.congr rfl rfl rfl)

theorem departuresFuel_work (n : Nat) : LineWork c s (departuresFuel n s) := by
  induction n generalizing s with
  | zero => exact .refl c s
  | succ n ih =>
    unfold departuresFuel
    split
    · exact s.depart_work.trans (ih _)
    · exact .refl c s

theorem State.encoderChange_work (x y : Bool) : LineWork c s (s.encoderChange x y) := by
  have levels : LineWork c s (s.modLine (fun l => { l with encA := x, encB := y })) := s.modLine_work _ rfl rfl
  unfold State.encoderChange
  dsimp only
  split
  · exact levels
  · exact (levels.trans (State.modLine_work _ _ (by simp [Line.reachPoints, Line.evaluateMarks]) rfl)).trans
      (departuresFuel_work _ _)

theorem State.noteLost_work : LineWork c s s.noteLost := by
  unfold State.noteLost
  split
  · exact .refl c s
  · exact (s.modLine_work _ rfl rfl).trans (.raise _ _)

theorem State.openBoard_work : LineWork c s s.openBoard := by
  unfold State.openBoard
  split
  · next room =>
      refine LineWork.evaluate_after (fun hc hs => ?_) (fun hs => ?_)
      · exact (State.takeRef_work _ _).stores hc { hs with boards := by simpa [Line.opened, Config.trackCapacity] using room }
      · exact (State.takeRef_work (c := c) _ _).traffic (hs.congr rfl rfl rfl)
  · exact (s.modLine_work _ rfl rfl).trans (State.noteLost_work _)

theorem Line.splitLast_queue (l : Line) : l.splitLast.queue.length = l.queue.length := by
  fun_cases Line.splitLast l <;> simp

theorem Line.splitLast_hold (l : Line) : l.splitLast.holdAsserted = l.holdAsserted := by
  fun_cases Line.splitLast l <;> rfl

theorem State.takeLeading_work : LineWork c s s.takeLeading := by
  unfold State.takeLeading
  split
  · split
    · exact .refl c s
    · exact (s.modLine_work _ (Line.splitLast_queue _) (Line.splitLast_hold _)).trans (State.openBoard_work _)
  · exact s.openBoard_work

theorem State.leadingEdge_work : LineWork c s s.leadingEdge := by
  unfold State.leadingEdge
  dsimp only
  split
  · exact .refl c s
  · have blocked : LineWork c s (s.modLine (fun l => { l with eyeBlocked := true })) := s.modLine_work _ rfl rfl
    split
    · exact blocked.trans (State.modLine_work _ _ rfl rfl)
    · exact blocked.trans (State.takeLeading_work _)

theorem clearFirst_length (l : List Board) : (clearFirst l).length = l.length := by
  fun_induction clearFirst l <;> simp_all

theorem State.trailingEdge_work : LineWork c s s.trailingEdge := by
  unfold State.trailingEdge
  dsimp only
  split
  · have clear : LineWork c s (s.modLine (fun l => { l with eyeBlocked := false })) := s.modLine_work _ rfl rfl
    split
    · exact clear.trans (State.modLine_work _ _ rfl rfl)
    · exact clear.trans (State.modLine_work _ _ (by simp [Line.takeTrailing, clearFirst_length]) rfl)
  · exact .refl c s

theorem matchBoards_length (pair : Board → Board) (d : Nat) (l : List Board) : (matchBoards pair d l).length = l.length := by
  fun_induction matchBoards pair d l <;> simp_all

theorem State.scanArrival_work (x : List Byte) : LineWork c s (s.scanArrival x) := by
  unfold State.scanArrival
  dsimp only
  split
  · exact s.modLine_work
      (fun l => { l with counters := { l.counters with scanStale := bump16 l.counters.scanStale } }) rfl rfl
  · unfold State.matchScan
    exact s.modLine_work (fun l => { l with queue := matchBoards _ _ l.queue, expected := _, counters := _ })
      (matchBoards_length _ _ _) rfl

theorem State.lineReset_work : LineWork c s s.lineReset := by
  unfold State.lineReset
  have discarded : LineWork c s s.discardBoards := by
    unfold State.discardBoards
    refine LineWork.evaluate_after (fun hc hs => ?_) (fun hs => ?_)
    · exact (State.releaseRefs_work _ _).stores hc { hs with boards := Nat.zero_le _ }
    · exact (State.releaseRefs_work (c := c) _ _).traffic (hs.congr rfl rfl rfl)
  have zeroed (t : State) : LineWork c t (t.modLine (fun l => { l with counters := {} })) := t.modLine_work _ rfl rfl
  exact ((discarded.trans (State.resetBins_work _)).trans (zeroed _)).trans (State.evaluateHold_work _)

end

end Sys2Proof.Machine
end

section
/-! PROOFS. Every step keeps the bounds, the line-hold and the committed schedules: what each event and each served request
does to them, and the statement StepsKeepTheBounds. -/

namespace Sys2Proof.Machine

theorem State.bounded_iff (s : State) : s.Bounded ↔ s.TrafficBounded ∧ s.StoresBounded ∧ s.requests.length ≤ 4 := by
  constructor
  · rintro ⟨a, b, requests, notices, infos, boards, labels, log, lots, packs, logged, lotOrigins, origins⟩
    refine ⟨⟨fun p => ?_, notices, infos⟩, ⟨boards, labels, log, lots, packs, logged, lotOrigins, origins⟩, requests⟩
    cases p
    · exact a
    · exact b
  · rintro ⟨⟨ports, notices, infos⟩, ⟨boards, labels, log, lots, packs, logged, lotOrigins, origins⟩, requests⟩
    exact ⟨ports .a, ports .b, requests, notices, infos, boards, labels, log, lots, packs, logged, lotOrigins, origins⟩

/-! ### Shared parts of an event -/

/-- What holds under every watchdog with these written limits, and is kept by a notice, by a detection and by the free values,
holds after a lapse (R113). -/
theorem State.lapse_carries {P : State → Prop} (cause : Nat) {s : State}
    (watchdog : ∀ w : Watchdog, w.upperWritten = s.watchdog.upperWritten → w.lowerWritten = s.watchdog.lowerWritten →
      P { s with watchdog := w })
    (raise : ∀ (u : State) (n : Notice), P u → P (u.raise n))
    (detect : ∀ (k : KilnId) (u : State), P u → P (u.detect false .supervisor k))
    (drew : ∀ (n : Nat) (u : State), P u → P (u.drewFree n)) : P (s.lapse cause) := by
  have detected (l : List KilnId) (u : State) (hu : P u) :
      P (l.foldl (fun v k => v.detect false .supervisor k) u) := by
    induction l generalizing u with
    | nil => exact hu
    | cons k l ih => exact ih _ (detect k u hu)
  unfold State.lapse
  exact drew _ _ (detected _ _ (raise _ _ (watchdog _ rfl rfl)))

/-- What a heartbeat does, likewise (R31). -/
theorem State.heartbeat_carries {P : State → Prop} (d : StationId) {s : State}
    (watchdog : ∀ w : Watchdog, w.upperWritten = s.watchdog.upperWritten → w.lowerWritten = s.watchdog.lowerWritten →
      P { s with watchdog := w })
    (raise : ∀ (u : State) (n : Notice), P u → P (u.raise n))
    (detect : ∀ (k : KilnId) (u : State), P u → P (u.detect false .supervisor k))
    (drew : ∀ (n : Nat) (u : State), P u → P (u.drewFree n)) : P (s.heartbeat d) := by
  fun_cases State.heartbeat d s
  case case1 => exact watchdog _ rfl rfl
  case case2 => exact raise _ _ (watchdog _ rfl rfl)
  case case3 => exact State.lapse_carries 1 watchdog raise detect drew
  case case4 => exact watchdog _ rfl rfl

/-- What all work of the kiln units keeps holds after a lapse. -/
theorem State.lapse_keeps {P : State → Prop} (cause : Nat) {s : State}
    (watchdog : ∀ w : Watchdog, w.upperWritten = s.watchdog.upperWritten → w.lowerWritten = s.watchdog.lowerWritten →
      P { s with watchdog := w })
    (raise : ∀ (u : State) (n : Notice), P u → P (u.raise n))
    (work : ∀ (k : KilnId) (u v : State), KilnWork k u v → P u → P v) : P (s.lapse cause) :=
  State.lapse_carries cause watchdog raise (fun k u => work k u _ (u.detect_work k false .supervisor))
    fun n u => work 0 u _ (.drew n u)

/-- And after a heartbeat. -/
theorem State.heartbeat_keeps {P : State → Prop} (d : StationId) {s : State}
    (watchdog : ∀ w : Watchdog, w.upperWritten = s.watchdog.upperWritten → w.lowerWritten = s.watchdog.lowerWritten →
      P { s with watchdog := w })
    (raise : ∀ (u : State) (n : Notice), P u → P (u.raise n))
    (work : ∀ (k : KilnId) (u v : State), KilnWork k u v → P u → P v) : P (s.heartbeat d) :=
  State.heartbeat_carries d watchdog raise (fun k u => work k u _ (u.detect_work k false .supervisor))
    fun n u => work 0 u _ (.drew n u)

/-- The tables after an accepted LOAD_CHARGE, before the kiln unit takes the charge (R83, R84). -/
def State.takeCharge (k : KilnId) (d : Fin 32) (g : Fin 16) (i : Fin 48) (args : List Byte) (s : State) : State :=
  { s.setCharge i (newCharge k d g args s.directory[d].generation ((lotIds args).filterMap s.findLot) s.stamp) with
      reuse := s.reuse.erase i
      lots := s.lots.filter (fun l => !(lotIds args).contains l.id) }.bindEntry d

theorem State.loadCharge_work (k : KilnId) (d : Fin 32) (g : Fin 16) (i : Fin 48) (args : List Byte) (s : State) :
    KilnWork k (s.takeCharge k d g i args) (s.loadCharge k d g i args) := by
  have given : KilnWork k (s.takeCharge k d g i args)
      ((s.takeCharge k d g i args).modKiln k (Kiln.load (u16 args 1) args)) :=
    .kiln _ (fun _ => ⟨rfl, rfl⟩) fun h => nomatch h
  unfold State.loadCharge
  exact given.trans (State.announceState_work k _ false)

/-! ### The requests that wait (R21) -/

/-- A served request leaves the waiting ones. -/
theorem Effect.requests {kind : ReqKind} {r : Request} {s t : State} (h : Effect r s kind t) :
    t.requests = s.requests := by
  by_cases hk : kind = .writeStation
  · subst hk
    cases h with
    | unchanged => rfl
    | writeStation d e _ _ => exact State.writeStation_requests d e s
  · exact (congrArg (fun x => x.2.1) (h.base hk) :)

/-- An event leaves the waiting requests, a reset leaves none. -/
theorem Happens.requests {resets : Bool} {s t : State} (h : Happens resets s t) :
    t.requests = s.requests ∨ t.requests = [] := by
  rcases h.base with same | ⟨-, straps, eye, encA, encB, rfl⟩
  · exact .inl (congrArg (fun x => x.2.1) same :)
  · exact .inr rfl

/-! ### The traffic through a step -/

theorem State.trafficBounded_afterReset (straps : Byte) (eye encA encB : Bool) :
    (State.afterReset straps eye encA encB).TrafficBounded := by
  refine ⟨fun p => ?_, Nat.zero_le _, Nat.zero_le _⟩
  cases p <;> exact ⟨Nat.zero_le _, Nat.zero_le _, Nat.succ_le_of_lt (Nat.zero_lt_succ 15), List.nodup_nil⟩

theorem State.TrafficBounded.lapse {s : State} (hs : s.TrafficBounded) (cause : Nat) : (s.lapse cause).TrafficBounded :=
  State.lapse_keeps cause (fun _ _ _ => hs.congr rfl rfl rfl) (fun _ n h => h.raise n) (fun _ _ _ h hu => h.traffic hu)

theorem State.modCharge_traffic (n : Nat) (f : Charge → Charge) (s : State) :
    (s.modCharge n f).portA = s.portA ∧ (s.modCharge n f).portB = s.portB ∧ (s.modCharge n f).notices = s.notices := by
  fun_cases State.modCharge n f s <;> exact ⟨rfl, rfl, rfl⟩

theorem State.TrafficBounded.modCharge {s : State} (hs : s.TrafficBounded) (n : Nat) (f : Charge → Charge) :
    (s.modCharge n f).TrafficBounded := by
  obtain ⟨a, b, notices⟩ := State.modCharge_traffic n f s
  exact hs.congr a b notices

theorem State.TrafficBounded.planerFeed {s : State} (hs : s.TrafficBounded) (n : Nat) : (s.planerFeed n).TrafficBounded := by
  have left : s.leaveInfeed.TrafficBounded := by
    unfold State.leaveInfeed
    split
    · exact hs.modCharge _ _
    · exact hs
  unfold State.planerFeed State.enterInfeed
  split
  · exact left.congr rfl rfl rfl
  · exact (left.modCharge n _).congr rfl rfl rfl

theorem State.TrafficBounded.writeStation {s : State} (hs : s.TrafficBounded) (d : StationId) (e : Station) :
    (s.writeStation d e).TrafficBounded := by
  have written : (s.writeMap d e).TrafficBounded := by
    rw [s.writeMap_eq d e]
    exact hs.congr rfl rfl rfl
  have followed : ((s.writeMap d e).followActuator e.role e.side).TrafficBounded := by
    unfold State.followActuator
    split
    · split
      · exact (written.withdrawSetpoint _).produceSetpoint _
      · exact written
    · exact written
  exact (State.followPrinter_work (c := True) _ _ _).traffic followed.produceNotices

theorem Happens.traffic {resets : Bool} {s t : State} (h : Happens resets s t) (hs : s.TrafficBounded) : t.TrafficBounded := by
  cases h
  case reset straps eye encA encB _ => exact State.trafficBounded_afterReset straps eye encA encB
  case climate k x => exact (State.climateArrival_work k s x).traffic hs
  case probe k x => exact (State.probeArrival_work k s x).traffic hs
  case scan x => exact (State.scanArrival_work (c := True) s x).traffic hs
  case printDone x => exact (State.printDone_work (c := True) s x).traffic hs
  case encoder x y => exact (State.encoderChange_work (c := True) s x y).traffic hs
  case leading => exact (State.leadingEdge_work (c := True) s).traffic hs
  case trailing => exact (State.trailingEdge_work (c := True) s).traffic hs
  case minute k _ => exact (State.kilnMinute_work k s).traffic hs
  case watchdog =>
    unfold State.expireWatchdog
    split
    · exact hs.lapse 0
    · exact hs
  case edit =>
    unfold State.expireEdit
    split
    · refine State.TrafficBounded.raise ?_ _
      exact hs.congr rfl rfl rfl
    · exact hs
  case label => exact (State.labelTimeout_work (c := True) s).traffic hs
  all_goals exact hs.congr rfl rfl rfl

theorem Effect.traffic {kind : ReqKind} {r : Request} {s t : State} (h : Effect r s kind t) (hs : s.TrafficBounded) :
    t.TrafficBounded := by
  cases h
  case heartbeat d =>
    exact State.heartbeat_keeps d (fun _ _ _ => hs.congr rfl rfl rfl) (fun _ n h => h.raise n)
      (fun _ _ _ h hu => h.traffic hu)
  case loadCharge k d g i _ _ _ _ _ _ =>
    exact (State.loadCharge_work k d g i r.args s).traffic (hs.congr rfl rfl rfl)
  case startKiln k p _ _ _ => exact (State.startKiln_work k s p).traffic hs
  case override k _ _ _ _ _ _ _ => exact (State.pushHold_work k s _ _).traffic hs
  case resume k _ _ _ _ => exact (State.resumeEntry_work k s _).traffic hs
  case stop k _ _ => exact (State.stopKiln_work k s _ _).traffic hs
  case restart k _ _ => exact (State.restartKiln_work k s).traffic hs
  case unload k _ _ _ => exact (State.unloadKiln_work k s _).traffic hs
  case feedNone => exact hs.planerFeed 0
  case feed n _ _ _ _ => exact hs.planerFeed n
  case closePack bin p _ => exact (State.closePack_work s bin p .forced).traffic hs
  case lineReset => exact (State.lineReset_work (c := True) s).traffic hs
  case writeStation d e _ _ => exact hs.writeStation d e
  case clearPort p => exact hs.modPort p id
  all_goals exact hs.congr rfl rfl rfl

/-! ### The collections through a step -/

theorem mergeLots_length (lots : List Lot) : (mergeLots lots).1.length ≤ 8 := by
  have merged (l : List Nat) (acc : List Nat × Bool) (h : acc.1.length ≤ 8) : (l.foldl mergeOrigin acc).1.length ≤ 8 := by
    induction l generalizing acc with
    | nil => exact h
    | cons n l ih =>
      refine ih _ ?_
      unfold mergeOrigin
      split
      · exact h
      · split
        · next room => simpa using room
        · exact h
  exact merged _ _ (Nat.zero_le _)

theorem State.storesBounded_afterReset (straps : Byte) (eye encA encB : Bool) :
    (State.afterReset straps eye encA encB).StoresBounded where
  boards := Nat.zero_le _
  labels := Nat.zero_le _
  log := Nat.zero_le _
  lots := Nat.zero_le _
  packs b p hp := by
    have empty : (State.afterReset straps eye encA encB).bins[b] = {} := Vector.getElem_replicate ..
    rw [empty] at hp
    exact nomatch hp
  logged e he := nomatch he
  lotOrigins l hl := nomatch hl
  origins i := by
    have closed : (State.afterReset straps eye encA encB).charges[i] = {} := Vector.getElem_replicate ..
    rw [closed]
    exact Nat.zero_le _

theorem State.StoresBounded.lapse {s : State} (hs : s.StoresBounded) (cause : Nat) : (s.lapse cause).StoresBounded :=
  State.lapse_keeps cause (fun _ _ _ => hs.congr rfl rfl rfl rfl rfl fun _ => rfl)
    (fun _ n h => h.of_inner (State.raise_inner n _)) (fun _ _ _ h hu => h.stores hu)

theorem State.StoresBounded.planerFeed {s : State} (hs : s.StoresBounded) (n : Nat) : (s.planerFeed n).StoresBounded := by
  have left : s.leaveInfeed.StoresBounded := by
    unfold State.leaveInfeed
    split
    · exact (s.modCharge_work (c := True) _ (fun c => { c with state := .planed }) fun _ => rfl).stores trivial hs
    · exact hs
  unfold State.planerFeed State.enterInfeed
  split
  · exact left.congr rfl rfl rfl rfl rfl fun _ => rfl
  · have entered := (s.leaveInfeed.modCharge_work (c := True) n (fun c => { c with state := .planing }) fun _ => rfl).stores
      trivial left
    exact entered.congr rfl rfl rfl rfl rfl fun _ => rfl

theorem State.StoresBounded.takeCharge {s : State} (hs : s.StoresBounded) (k : KilnId) (d : Fin 32) (g : Fin 16)
    (i : Fin 48) (args : List Byte) : (s.takeCharge k d g i args).StoresBounded where
  boards := hs.boards
  labels := hs.labels
  log := hs.log
  lots := (List.length_filter_le _ _).trans hs.lots
  packs := hs.packs
  logged := hs.logged
  lotOrigins l hl := hs.lotOrigins l (List.mem_filter.mp hl).1
  origins j := by
    change ((s.setCharge i _).charges[j]).origins.length ≤ 8
    rw [State.setCharge_entry]
    split
    · exact mergeLots_length _
    · exact hs.origins j

theorem State.StoresBounded.writeStation {s : State} (hs : s.StoresBounded) (d : StationId) (e : Station) :
    (s.writeStation d e).StoresBounded := by
  have written : (s.writeMap d e).StoresBounded := by
    rw [s.writeMap_eq d e]
    exact hs.congr rfl rfl rfl rfl rfl fun _ => rfl
  have followed : ((s.writeMap d e).followActuator e.role e.side).inner = (s.writeMap d e).inner := by
    fun_cases State.followActuator e.role e.side (s.writeMap d e) <;> simp
  exact (State.followPrinter_work (c := True) _ _ _).stores trivial
    ((written.of_inner followed).of_inner (State.produceNotices_inner _))

theorem Happens.stores {resets : Bool} {s t : State} (h : Happens resets s t) (hs : s.StoresBounded) : t.StoresBounded := by
  cases h
  case reset straps eye encA encB _ => exact State.storesBounded_afterReset straps eye encA encB
  case climate k x => exact (State.climateArrival_work k s x).stores hs
  case probe k x => exact (State.probeArrival_work k s x).stores hs
  case scan x => exact (State.scanArrival_work (c := True) s x).stores trivial hs
  case printDone x => exact (State.printDone_work (c := True) s x).stores trivial hs
  case encoder x y => exact (State.encoderChange_work (c := True) s x y).stores trivial hs
  case leading => exact (State.leadingEdge_work (c := True) s).stores trivial hs
  case trailing => exact (State.trailingEdge_work (c := True) s).stores trivial hs
  case minute k _ => exact (State.kilnMinute_work k s).stores hs
  case watchdog =>
    unfold State.expireWatchdog
    split
    · exact hs.lapse 0
    · exact hs
  case edit =>
    unfold State.expireEdit
    split
    · refine State.StoresBounded.of_inner ?_ (State.raise_inner _ _)
      exact hs.congr rfl rfl rfl rfl rfl fun _ => rfl
    · exact hs
  case label => exact (State.labelTimeout_work (c := True) s).stores trivial hs
  all_goals exact hs.congr rfl rfl rfl rfl rfl fun _ => rfl

theorem Effect.stores {kind : ReqKind} {r : Request} {s t : State} (h : Effect r s kind t) (hs : s.StoresBounded) :
    t.StoresBounded := by
  cases h
  case heartbeat d =>
    exact State.heartbeat_keeps d (fun _ _ _ => hs.congr rfl rfl rfl rfl rfl fun _ => rfl)
      (fun _ n h => h.of_inner (State.raise_inner n _)) (fun _ _ _ h hu => h.stores hu)
  case loadCharge k d g i _ _ _ _ _ _ =>
    exact (State.loadCharge_work k d g i r.args s).stores (hs.takeCharge k d g i r.args)
  case startKiln k p _ _ _ => exact (State.startKiln_work k s p).stores hs
  case override k _ _ _ _ _ _ _ => exact (State.pushHold_work k s _ _).stores hs
  case resume k _ _ _ _ => exact (State.resumeEntry_work k s _).stores hs
  case stop k _ _ => exact (State.stopKiln_work k s _ _).stores hs
  case restart k _ _ => exact (State.restartKiln_work k s).stores hs
  case unload k _ _ _ => exact (State.unloadKiln_work k s _).stores hs
  case feedNone => exact hs.planerFeed 0
  case feed n _ _ _ _ => exact hs.planerFeed n
  case release i _ _ _ => exact (s.closeRecord_work (c := True) i).stores trivial hs
  case closePack bin p isOpen => exact (State.closePack_work s bin p .forced).stores (hs.packs bin p isOpen) hs
  case lineReset => exact (State.lineReset_work (c := True) s).stores trivial hs
  case writeStation d e _ _ => exact hs.writeStation d e
  case writeBin i target kind =>
    exact (s.modBin_work (c := True) i _ fun _ hs p hp => hs.packs i p hp).stores trivial hs
  case clearPort p => exact hs.of_inner (State.modPort_inner p _ s)
  all_goals exact hs.congr rfl rfl rfl rfl rfl fun _ => rfl

/-! ### Every bound through a step -/

theorem State.Bounded.of_traffic {s t : State} (hs : s.Bounded) (inner : t.inner = s.inner)
    (traffic : s.TrafficBounded → t.TrafficBounded) : t.Bounded := by
  obtain ⟨ht, stores, requests⟩ := s.bounded_iff.mp hs
  refine t.bounded_iff.mpr ⟨traffic ht, stores.of_inner inner, ?_⟩
  rwa [State.requests_of_inner inner]

theorem State.TrafficBounded.forward {s : State} (hs : s.TrafficBounded) (p : PortId) (run : List Byte) :
    (s.forward p run).TrafficBounded := by
  unfold State.forward
  split
  · exact hs
  · split
    · next room =>
        refine (hs.modPort (otherPort p) ?_).modPort p id
        rintro ⟨buffer, -, loc, waiting⟩
        exact ⟨buffer, by simpa [Config.passCapacity] using room, loc, waiting⟩
    · exact hs.modPort p id

theorem State.forward_inner (p : PortId) (run : List Byte) (s : State) : (s.forward p run).inner = s.inner := by
  unfold State.forward State.count
  split
  · rfl
  · split <;> simp only [State.modPort_inner]

/-- A transmission from the local queue has made room there for the telegram that is offered next (R16). -/
theorem State.TrafficBounded.sentLocal {s : State} (hs : s.TrafficBounded) (p : PortId) :
    ((s.modPort p (fun q => { q with localQueue := q.localQueue.tail, sending := none, turn := .pass })).offer p).TrafficBounded
    := by
  have sent : (s.modPort p (fun q => { q with localQueue := q.localQueue.tail, sending := none, turn := .pass })).TrafficBounded := by
    refine hs.modPort p ?_
    rintro ⟨buffer, pass, loc, waiting⟩
    exact ⟨buffer, pass, (List.length_tail.trans_le (Nat.sub_le _ _)).trans loc, waiting⟩
  refine sent.offer p ?_
  rw [State.port_modPort_self, List.length_tail]
  have := (hs.1 p).2.2.1
  omega

theorem bounded_carried : Carried true State.Bounded where
  pending _ {s} l hs := hs
  drawn {s} n hs := hs
  admitted {s} r room hs := by
    obtain ⟨traffic, stores, -⟩ := s.bounded_iff.mp hs
    refine (State.bounded_iff _).mpr ⟨traffic.congr rfl rfl rfl, stores.congr rfl rfl rfl rfl rfl fun _ => rfl, ?_⟩
    simpa using room
  taken {s} r rest waiting hs := by
    obtain ⟨traffic, stores, requests⟩ := s.bounded_iff.mp hs
    refine (State.bounded_iff _).mpr ⟨traffic.congr rfl rfl rfl, stores.congr rfl rfl rfl rfl rfl fun _ => rfl, ?_⟩
    rw [waiting] at requests
    exact Nat.le_of_succ_le requests
  counted {s} x hs := hs
  answered r v hs := hs.of_traffic (answer_inner r v) fun ht => by
    unfold answer
    exact State.TrafficBounded.produceReply (ht.congr rfl rfl rfl)
  buffered {s} p bytes few hs := hs.of_traffic (State.modPort_inner p _ s) fun ht => ht.modPort p
    (by rintro ⟨-, pass, loc, waiting⟩; exact ⟨few, pass, loc, waiting⟩)
  portCounted {s} p f hs := hs.of_traffic (State.modPort_inner p _ s) fun ht => ht.modPort p id
  forwarded {s} p run hs := hs.of_traffic (State.forward_inner p run s) fun ht => ht.forward p run
  started {s} p q hs := hs.of_traffic (State.modPort_inner p _ s) fun ht => ht.modPort p id
  sentPass {s} p hs := hs.of_traffic (State.modPort_inner p _ s) fun ht => ht.modPort p (by
    rintro ⟨buffer, pass, loc, waiting⟩
    exact ⟨buffer, (List.length_tail.trans_le (Nat.sub_le _ _)).trans pass, loc, waiting⟩)
  sentLocal {s} p hs := hs.of_traffic (by rw [State.offer_inner, State.modPort_inner]) fun ht => ht.sentLocal p
  event {s t} h hs := by
    obtain ⟨traffic, stores, requests⟩ := s.bounded_iff.mp hs
    refine t.bounded_iff.mpr ⟨h.traffic traffic, h.stores stores, ?_⟩
    rcases h.requests with same | none
    · rwa [same]
    · rw [none]
      exact Nat.zero_le 4
  served {kind r s t} h hs := by
    obtain ⟨traffic, stores, requests⟩ := s.bounded_iff.mp hs
    exact t.bounded_iff.mpr ⟨h.traffic traffic, h.stores stores, h.requests ▸ requests⟩

/-! ### The line-hold through a step (R155) -/

theorem KilnDuty.hold {k : KilnId} {s t : State} (h : KilnWork k s t) (hs : s.HoldInBounds) : t.HoldInBounds :=
  hs.congr (congrArg (fun u => u.line.queue.length) h.aside) (congrArg (fun u => u.labels.queue.length) h.aside)
    (congrArg (fun u => u.line.holdAsserted) h.aside)

theorem State.HoldInBounds.lapse {s : State} (hs : s.HoldInBounds) (cause : Nat) : (s.lapse cause).HoldInBounds :=
  State.lapse_keeps cause (fun _ _ _ => hs.congr rfl rfl rfl) (fun _ n h => h.of_inner (State.raise_inner n _))
    (fun _ _ _ h hu => h.hold hu)

theorem State.HoldInBounds.planerFeed {s : State} (hs : s.HoldInBounds) (n : Nat) : (s.planerFeed n).HoldInBounds := by
  have left : s.leaveInfeed.HoldInBounds := by
    unfold State.leaveInfeed
    split
    · exact (s.modCharge_work (c := True) _ (fun c => { c with state := .planed }) fun _ => rfl).hold hs
    · exact hs
  unfold State.planerFeed State.enterInfeed
  split
  · exact left.congr rfl rfl rfl
  · have entered := (s.leaveInfeed.modCharge_work (c := True) n (fun c => { c with state := .planing }) fun _ => rfl).hold left
    exact entered.congr rfl rfl rfl

theorem State.HoldInBounds.writeStation {s : State} (hs : s.HoldInBounds) (d : StationId) (e : Station) :
    (s.writeStation d e).HoldInBounds := by
  have written : (s.writeMap d e).HoldInBounds := by
    rw [s.writeMap_eq d e]
    exact hs.congr rfl rfl rfl
  have followed : ((s.writeMap d e).followActuator e.role e.side).inner = (s.writeMap d e).inner := by
    fun_cases State.followActuator e.role e.side (s.writeMap d e) <;> simp
  exact (State.followPrinter_work (c := True) _ _ _).hold
    ((written.of_inner followed).of_inner (State.produceNotices_inner _))

theorem State.holdInBounds_afterReset (straps : Byte) (eye encA encB : Bool) :
    (State.afterReset straps eye encA encB).HoldInBounds :=
  ⟨fun _ => ⟨Nat.zero_lt_succ 55, Nat.zero_lt_succ 6⟩, fun h => nomatch h⟩

theorem Happens.hold {resets : Bool} {s t : State} (h : Happens resets s t) (hs : s.HoldInBounds) : t.HoldInBounds := by
  cases h
  case reset straps eye encA encB _ => exact State.holdInBounds_afterReset straps eye encA encB
  case climate k x => exact (State.climateArrival_work k s x).hold hs
  case probe k x => exact (State.probeArrival_work k s x).hold hs
  case scan x => exact (State.scanArrival_work (c := True) s x).hold hs
  case printDone x => exact (State.printDone_work (c := True) s x).hold hs
  case encoder x y => exact (State.encoderChange_work (c := True) s x y).hold hs
  case leading => exact (State.leadingEdge_work (c := True) s).hold hs
  case trailing => exact (State.trailingEdge_work (c := True) s).hold hs
  case minute k _ => exact (State.kilnMinute_work k s).hold hs
  case watchdog =>
    unfold State.expireWatchdog
    split
    · exact hs.lapse 0
    · exact hs
  case edit =>
    unfold State.expireEdit
    split
    · refine State.HoldInBounds.of_inner ?_ (State.raise_inner _ _)
      exact hs.congr rfl rfl rfl
    · exact hs
  case label => exact (State.labelTimeout_work (c := True) s).hold hs
  all_goals exact hs.congr rfl rfl rfl

theorem Effect.hold {kind : ReqKind} {r : Request} {s t : State} (h : Effect r s kind t) (hs : s.HoldInBounds) :
    t.HoldInBounds := by
  cases h
  case heartbeat d =>
    exact State.heartbeat_keeps d (fun _ _ _ => hs.congr rfl rfl rfl)
      (fun _ n h => h.of_inner (State.raise_inner n _)) (fun _ _ _ h hu => h.hold hu)
  case loadCharge k d g i _ _ _ _ _ _ => exact (State.loadCharge_work k d g i r.args s).hold (hs.congr rfl rfl rfl)
  case startKiln k p _ _ _ => exact (State.startKiln_work k s p).hold hs
  case override k _ _ _ _ _ _ _ => exact (State.pushHold_work k s _ _).hold hs
  case resume k _ _ _ _ => exact (State.resumeEntry_work k s _).hold hs
  case stop k _ _ => exact (State.stopKiln_work k s _ _).hold hs
  case restart k _ _ => exact (State.restartKiln_work k s).hold hs
  case unload k _ _ _ => exact (State.unloadKiln_work k s _).hold hs
  case feedNone => exact hs.planerFeed 0
  case feed n _ _ _ _ => exact hs.planerFeed n
  case closePack bin p isOpen => exact (State.closePack_work s bin p .forced).hold hs
  case lineReset => exact (State.lineReset_work (c := True) s).hold hs
  case writeStation d e _ _ => exact hs.writeStation d e
  case clearPort p => exact hs.of_inner (State.modPort_inner p _ s)
  all_goals exact hs.congr rfl rfl rfl

theorem State.HoldInBounds.of_blocks {s t : State} (h : t.blocks = s.blocks) (hs : s.HoldInBounds) : t.HoldInBounds :=
  hs.congr (congrArg (fun u => u.line.queue.length) h) (congrArg (fun u => u.labels.queue.length) h)
    (congrArg (fun u => u.line.holdAsserted) h)

theorem holdInBounds_kept : Kept State.HoldInBounds where
  congr := State.HoldInBounds.of_blocks
  event := Happens.hold
  served := Effect.hold

/-! ### The schedules through a step (R58, R60, R64, R66) -/

/-- The directory's committed content and the edit in progress. -/
def State.schedules (s : State) : (Fin 32 → DirEntry) × Option Staging := (s.committed, s.staging)

theorem Step.valid_conditions (x : Step) :
    x.valid = true ↔ x.depression ≤ x.dry ∧ x.minDuration ≤ x.maxDuration ∧ 1 ≤ x.maxDuration := by
  simp [Step.valid, and_assoc]

/-- A directory entry whose committed content is legal. -/
def DirEntry.Legal (e : DirEntry) : Prop :=
  e.header.count ≤ 24 ∧ (e.valid = false ↔ e.generation = 0)
    ∧ ∀ j : Fin 24, j.val < e.header.count → e.steps[j].valid = true

theorem State.committedLegal_iff (s : State) : s.CommittedLegal ↔ ∀ d, (s.committed d).Legal := by
  unfold State.CommittedLegal DirEntry.Legal
  simp only [Step.valid_conditions]
  rfl

/-- The committed content is legal and the staged count is. -/
def State.SchedulesLegal (s : State) : Prop := s.CommittedLegal ∧ s.StagedCountLegal

theorem State.SchedulesLegal.congr {s t : State} (h : t.schedules = s.schedules) (hs : s.SchedulesLegal) :
    t.SchedulesLegal := by
  obtain ⟨committed, staging⟩ := Prod.mk.inj h
  unfold State.SchedulesLegal State.StagedCountLegal at hs ⊢
  rw [State.committedLegal_iff] at hs ⊢
  rw [committed, staging]
  exact hs

theorem State.schedules_of_inner {s t : State} (h : t.inner = s.inner) : t.schedules = s.schedules :=
  (congrArg State.schedules h :)

theorem State.schedules_of_beyond {s t : State} (h : t.beyond = s.beyond) : t.schedules = s.schedules :=
  (congrArg State.schedules h :)

theorem KilnDuty.schedules {k : KilnId} {s t : State} (h : KilnWork k s t) : t.schedules = s.schedules :=
  Prod.ext h.committed (congrArg State.staging h.aside :)

theorem State.lapse_schedules (cause : Nat) (s : State) : (s.lapse cause).schedules = s.schedules :=
  State.lapse_keeps (P := fun u => u.schedules = s.schedules) cause (fun _ _ _ => rfl)
    (fun _ n h => (State.schedules_of_inner (State.raise_inner n _)).trans h) (fun _ _ _ h hu => h.schedules.trans hu)

theorem State.heartbeat_schedules (d : StationId) (s : State) : (s.heartbeat d).schedules = s.schedules :=
  State.heartbeat_keeps (P := fun u => u.schedules = s.schedules) d (fun _ _ _ => rfl)
    (fun _ n h => (State.schedules_of_inner (State.raise_inner n _)).trans h) (fun _ _ _ h hu => h.schedules.trans hu)

theorem State.modCharge_schedules (n : Nat) (f : Charge → Charge) (s : State) :
    (s.modCharge n f).schedules = s.schedules := by
  fun_cases State.modCharge n f s <;> rfl

theorem State.planerFeed_schedules (n : Nat) (s : State) : (s.planerFeed n).schedules = s.schedules := by
  have left : s.leaveInfeed.schedules = s.schedules := by
    unfold State.leaveInfeed
    split
    · exact State.modCharge_schedules _ _ s
    · rfl
  unfold State.planerFeed State.enterInfeed
  split
  · exact left
  · exact (State.modCharge_schedules n _ _).trans left

/-- The requests that write the directory or the staged content. -/
def ReqKind.edits (kind : ReqKind) : Bool :=
  kind ∈ [.editOpen, .editHeader, .editStep, .editCommit, .editAbort, .entryDelete]

/-- Any other request leaves the schedules. -/
theorem Effect.schedules {kind : ReqKind} {r : Request} {s t : State} (h : Effect r s kind t) (hk : kind.edits = false) :
    t.schedules = s.schedules := by
  cases h
  case heartbeat d => exact State.heartbeat_schedules d s
  case loadCharge k d g i _ _ _ _ _ _ =>
    refine (State.loadCharge_work k d g i r.args s).schedules.trans (Prod.ext ?_ rfl)
    exact (State.bindEntry_committed d _).trans rfl
  case startKiln k p _ _ _ => exact (State.startKiln_work k s p).schedules
  case override k _ _ _ _ _ _ _ => exact (State.pushHold_work k s _ _).schedules
  case resume k _ _ _ _ => exact (State.resumeEntry_work k s _).schedules
  case stop k _ _ => exact (State.stopKiln_work k s _ _).schedules
  case restart k _ _ => exact (State.restartKiln_work k s).schedules
  case unload k _ _ _ => exact (State.unloadKiln_work k s _).schedules
  case feedNone => exact State.planerFeed_schedules 0 s
  case feed n _ _ _ _ => exact State.planerFeed_schedules n s
  case closePack => exact State.schedules_of_beyond (State.closePack_beyond _ _ _ s)
  case lineReset => exact State.schedules_of_beyond (State.lineReset_beyond s)
  case writeStation d e _ _ =>
    refine (State.schedules_of_beyond (State.writeStation_beyond d e s)).trans ?_
    rw [s.writeMap_eq d e]
    rfl
  case clearPort p => exact State.schedules_of_inner (State.modPort_inner p _ s)
  case editOpen | editHeader | editStep | editCommit | editAbort | entryDelete => exact nomatch hk
  all_goals rfl

/-- An entry that passes the edit checks is legal under the generation it is given (R64, R69). -/
theorem Staging.legal_commit {e : Staging} (valid : e.firstFault = none) (count : e.header.count ≤ 24) (g n : Nat) :
    DirEntry.Legal ⟨true, nextGeneration g, e.header, n, e.steps⟩ := by
  have some : e.header.count ≠ 0 := fun h => nomatch (e.firstFault_noStep h).symm.trans valid
  rw [e.firstFault_search some, List.findIdx?_eq_none_iff] at valid
  refine ⟨count, iff_of_false (fun h => nomatch h) ?_, fun j hj => ?_⟩
  · unfold nextGeneration
    split
    · exact Nat.one_ne_zero
    · exact Nat.succ_ne_zero g
  · have mem : e.steps[j] ∈ e.steps.toList.take e.header.count := by
      rw [List.mem_take_iff_getElem]
      exact ⟨j, by simp [hj], by simp⟩
    simpa using valid _ mem

theorem DirEntry.legal_default : DirEntry.Legal {} :=
  ⟨Nat.zero_le _, iff_of_true rfl rfl, fun j hj => absurd hj (Nat.not_lt_zero j)⟩

/-- The entry written is legal, and the staged count stays. -/
theorem State.SchedulesLegal.modEntry {s : State} (hs : s.SchedulesLegal) (d : Fin 32) (f : DirEntry → DirEntry)
    (h : (f s.directory[d]).content.Legal) : (s.modEntry d f).CommittedLegal := by
  refine (State.committedLegal_iff _).mpr fun e => ?_
  unfold State.committed
  rw [State.modEntry_entry]
  split
  · exact h
  · exact s.committedLegal_iff.mp hs.1 e

theorem Effect.schedulesLegal {kind : ReqKind} {r : Request} {s t : State} (h : Effect r s kind t)
    (hs : s.SchedulesLegal) : t.SchedulesLegal := by
  by_cases hk : kind.edits = false
  · exact hs.congr (h.schedules hk)
  cases h
  case unchanged => exact hs
  case editOpen d _ => exact ⟨hs.1, fun e he => Option.some.inj he ▸ (hs.1 d).1⟩
  case editHeader count => exact ⟨hs.1, fun e he => Option.some.inj he ▸ count⟩
  case editStep e x isOpen => exact ⟨hs.1, fun y hy => Option.some.inj hy ▸ hs.2 e isOpen⟩
  case editCommit e isOpen valid =>
    refine ⟨hs.modEntry e.target (fun x => { x with
      valid := true, generation := nextGeneration s.directory[e.target].generation, header := e.header, steps := e.steps })
      ?_, fun _ h => nomatch h⟩
    exact Staging.legal_commit valid (hs.2 e isOpen) s.directory[e.target].generation 0
  case editAbort => exact ⟨hs.1, fun _ h => nomatch h⟩
  case entryDelete d _ => exact ⟨hs.modEntry d _ DirEntry.legal_default, hs.2⟩
  all_goals exact absurd rfl hk

theorem State.schedulesLegal_afterReset (straps : Byte) (eye encA encB : Bool) :
    (State.afterReset straps eye encA encB).SchedulesLegal := by
  refine ⟨(State.committedLegal_iff _).mpr fun d => ?_, fun _ h => nomatch h⟩
  have invalid : (State.afterReset straps eye encA encB).directory[d] = {} := Vector.getElem_replicate ..
  unfold State.committed
  rw [invalid]
  exact DirEntry.legal_default

theorem Happens.schedulesLegal {resets : Bool} {s t : State} (h : Happens resets s t) (hs : s.SchedulesLegal) : t.SchedulesLegal := by
  cases h
  case reset straps eye encA encB _ => exact State.schedulesLegal_afterReset straps eye encA encB
  case tick =>
    refine ⟨hs.1, fun e he => ?_⟩
    obtain ⟨x, hx, rfl⟩ := Option.map_eq_some_iff.mp he
    exact hs.2 x hx
  case climate k x => exact hs.congr (State.climateArrival_work k s x).schedules
  case probe k x => exact hs.congr (State.probeArrival_work k s x).schedules
  case scan x => exact hs.congr (State.schedules_of_beyond (State.scanArrival_beyond x s))
  case printDone x => exact hs.congr (State.schedules_of_beyond (State.printDone_beyond x s))
  case encoder x y => exact hs.congr (State.schedules_of_beyond (State.encoderChange_beyond x y s))
  case leading => exact hs.congr (State.schedules_of_beyond (State.leadingEdge_beyond s))
  case trailing => exact hs.congr (State.schedules_of_beyond (State.trailingEdge_beyond s))
  case minute k _ => exact hs.congr (State.kilnMinute_work k s).schedules
  case watchdog =>
    unfold State.expireWatchdog
    split
    · exact hs.congr (State.lapse_schedules 0 s)
    · exact hs
  case edit =>
    unfold State.expireEdit
    split
    · refine State.SchedulesLegal.congr (State.schedules_of_inner (State.raise_inner _ _)) ?_
      exact ⟨hs.1, fun _ h => nomatch h⟩
    · exact hs
  case label => exact hs.congr (State.schedules_of_beyond (State.labelTimeout_beyond s))
  all_goals exact hs.congr rfl

theorem schedulesLegal_kept : Kept State.SchedulesLegal where
  congr h hs := hs.congr (congrArg State.schedules h :)
  event := Happens.schedulesLegal
  served := Effect.schedulesLegal

/-- Settles O57: each of the three invariants is kept by every move of a queue, every event and every served request. -/
theorem stepsKeepTheBounds : Obligations.StepsKeepTheBounds :=
  ⟨fun _ _ hs h => bounded_carried.step rfl hs h, fun _ _ hs h => holdInBounds_kept.step hs h,
    fun _ _ committed staged h => schedulesLegal_kept.step ⟨committed, staged⟩ h⟩

end Sys2Proof.Machine
end

section
/-! PROOFS. The device reset: every block at its reset value, and the invariants there. -/

namespace Sys2Proof.Machine

section
variable (straps : Byte) (eye encA encB : Bool)

theorem stationOfStraps_val : (stationOfStraps straps).val = if straps = 255 then 254 else straps.toNat := by
  unfold stationOfStraps
  split
  · next small => rw [if_neg (fun h => absurd small (by rw [h]; decide))]
  · next large =>
      have full : straps = 255 := BitVec.eq_of_toNat_eq (by have := straps.isLt; change _ = 255; omega)
      rw [if_pos full]

theorem State.charges_afterReset (i : Fin 48) : (State.afterReset straps eye encA encB).charges[i] = {} :=
  Vector.getElem_replicate ..

theorem State.directory_afterReset (d : Fin 32) : (State.afterReset straps eye encA encB).directory[d] = {} :=
  Vector.getElem_replicate ..

theorem State.bins_afterReset (b : Fin 16) : (State.afterReset straps eye encA encB).bins[b] = {} :=
  Vector.getElem_replicate ..

theorem State.mapOpen_afterReset : (State.afterReset straps eye encA encB).mapOpen = true := by
  have none : (Vector.replicate 255 ({} : Station)).toList.any (fun e => e.role == .supervisor) = false := by
    rw [Vector.toList_replicate, List.any_replicate]
    rfl
  exact (congrArg not none :)

theorem State.faultOutput_afterReset : (State.afterReset straps eye encA encB).faultOutput = false := by
  have none : (Vector.replicate 16 ({} : Kiln)).toList.any (fun q => q.latchByte != 0) = false := by
    rw [Vector.toList_replicate, List.any_replicate]
    rfl
  exact none

end

/-- Settles O4: each block is the default of its structure, and the link holds one STARTED telegram per port. -/
theorem deviceResetSetsEveryBlock : Obligations.DeviceResetSetsEveryBlock := by
  unfold Obligations.DeviceResetSetsEveryBlock
  refine ⟨fun straps eye encA encB s => ⟨_, rfl, ?link⟩, fun straps eye encA encB s => ⟨_, rfl, ?blocks⟩⟩
  case link =>
    refine ⟨stationOfStraps_val straps, fun p => ?port, fun p c => ?pending, rfl, rfl, rfl, rfl, rfl,
      State.afterReset_stations straps eye encA encB, State.mapOpen_afterReset straps eye encA encB⟩
    case port => cases p <;> rfl
    case pending => cases c <;> cases p <;> rfl
  case blocks =>
    refine ⟨rfl, rfl, rfl, rfl, rfl, fun i => Vector.getElem_replicate .., State.directory_afterReset straps eye encA encB,
      rfl, State.kiln_afterReset straps eye encA encB, State.charges_afterReset straps eye encA encB, rfl, rfl,
      fun i => Vector.getElem_replicate .., State.bins_afterReset straps eye encA encB, rfl, rfl, rfl, rfl,
      State.faultOutput_afterReset straps eye encA encB⟩

/-! ### The invariants after a reset -/

section
variable (straps : Byte) (eye encA encB : Bool)

theorem Kiln.holdsLegal_default : Kiln.HoldsLegal {} :=
  ⟨Nat.zero_le _, iff_of_false (fun h => h rfl) (fun h => nomatch h), List.nodup_nil, fun _ h => (nomatch h),
    fun _ h => nomatch h⟩

theorem Kiln.occupied_default : Kiln.Occupied {} := ⟨iff_of_true rfl rfl, iff_of_true rfl rfl, iff_of_true rfl rfl⟩

theorem Limits.legal_default : Limits.Legal {} := by
  unfold Limits.Legal
  decide

theorem Kiln.setpointsLegal_default : Kiln.SetpointsLegal {} :=
  ⟨Limits.legal_default, Limits.legal_default, fun _ => rfl, fun h => absurd rfl h⟩

theorem State.bounded_afterReset : (State.afterReset straps eye encA encB).Bounded :=
  (State.bounded_iff _).mpr ⟨State.trafficBounded_afterReset straps eye encA encB,
    State.storesBounded_afterReset straps eye encA encB, Nat.zero_le _⟩

theorem State.holdsLegal_afterReset : (State.afterReset straps eye encA encB).HoldsLegal := fun k => by
  rw [State.kiln_afterReset]
  exact Kiln.holdsLegal_default

theorem State.kilnsOccupied_afterReset : (State.afterReset straps eye encA encB).KilnsOccupied := fun k => by
  rw [State.kiln_afterReset]
  exact Kiln.occupied_default

theorem State.setpointsLegal_afterReset : (State.afterReset straps eye encA encB).SetpointsLegal := fun k => by
  rw [State.kiln_afterReset]
  exact Kiln.setpointsLegal_default

theorem State.recordsAgree_afterReset : (State.afterReset straps eye encA encB).RecordsAgree := by
  have closed := State.charges_afterReset straps eye encA encB
  unfold State.RecordsAgree
  simp only [closed]
  refine ⟨fun i h => absurd rfl h, List.nodup_finRange 48, fun i => iff_of_true (List.mem_finRange i) trivial, fun _ => rfl,
    fun _ h => (nomatch h), fun b p hp => ?_, fun n => iff_of_false (fun h => nomatch h) (fun ⟨_, _, h⟩ => nomatch h)⟩
  rw [State.bins_afterReset] at hp
  exact nomatch hp

theorem State.kilnsAgree_afterReset : (State.afterReset straps eye encA encB).KilnsAgree := by
  have closed := State.charges_afterReset straps eye encA encB
  have bound (d : Fin 32) : (State.afterReset straps eye encA encB).kilnsOn d = 0 := by
    unfold State.kilnsOn
    refine List.countP_eq_zero.mpr fun k _ => ?_
    rw [State.kiln_afterReset]
    exact Bool.false_ne_true
  refine ⟨fun k => ?_, fun i h => ?_, fun i => ?_, fun d => ?_⟩
  · unfold State.KilnAgrees
    simp only [State.kiln_afterReset]
    exact fun h => absurd rfl h
  · rw [closed] at h
    rcases h with h | h | h <;> exact nomatch h
  · rw [closed]
    exact Nat.zero_le _
  · rw [State.directory_afterReset, bound]
    exact ⟨rfl, fun h => absurd rfl h⟩

end

/-- Settles O60: the reset state meets each invariant. -/
theorem resetMeetsTheInvariants : Obligations.ResetMeetsTheInvariants := by
  have schedules := State.schedulesLegal_afterReset 0 false false false
  exact ⟨fun _ => rfl, State.bounded_afterReset 0 false false false, State.holdsLegal_afterReset 0 false false false,
    State.kilnsOccupied_afterReset 0 false false false, State.setpointsLegal_afterReset 0 false false false,
    State.mapLegal_afterReset 0 false false false, State.holdInBounds_afterReset 0 false false false, schedules.1, schedules.2,
    State.recordsAgree_afterReset 0 false false false, State.kilnsAgree_afterReset 0 false false false, fun _ _ _ _ => rfl⟩

end Sys2Proof.Machine
end

section
/-! PROOFS. Frames: what the outgoing sources leave of the link, what the finishing side's operations leave of the line
settings and the rest of the part, and what a request served at once leaves. -/

namespace Sys2Proof.Machine

/-! ### What sending leaves of the link (R4, R6, R24) -/

/-- The reply slot, and each port's pass queue and counters. -/
def State.linkSide (s : State) : Option PendingReply × (PortId → List (List Byte) × PortCounters) :=
  (s.replySlot, fun p => ((s.port p).passQueue, (s.port p).counters))

theorem State.modPort_linkSide (p : PortId) (f : Port → Port) (s : State)
    (h : ∀ q, (f q).passQueue = q.passQueue ∧ (f q).counters = q.counters := by exact fun _ => ⟨rfl, rfl⟩) :
    (s.modPort p f).linkSide = s.linkSide := by
  refine Prod.ext (State.modPort_replySlot p f s) (funext fun r => ?_)
  change (((s.modPort p f).port r).passQueue, ((s.modPort p f).port r).counters) = _
  by_cases hr : r = p
  · subst hr
    rw [State.port_modPort_self, (h _).1, (h _).2]
    rfl
  · rw [State.port_modPort_other p r hr]
    rfl

theorem State.place_linkSide (p : PortId) (d : StationId) (kind : Byte) (x : List Byte) (s : State) :
    (s.place p d kind x).linkSide = s.linkSide :=
  State.modPort_linkSide p (fun q => { q with
    localQueue := q.localQueue ++ [telegram (stationByte d) (stationByte s.own) kind s.sendCounter x] }) s

theorem State.placeNotice_linkSide (p : PortId) (s : State) : (s.placeNotice p).linkSide = s.linkSide := by
  fun_cases State.placeNotice p s
  case case1 => exact State.place_linkSide p _ _ _ s
  case case2 => rfl

theorem State.placeRow_linkSide (p : PortId) (s : State) : (s.placeRow p).linkSide = s.linkSide := by
  fun_cases State.placeRow p s
  case case1 => exact State.place_linkSide p _ _ _ s
  case case2 => rfl

theorem State.placeSetpoint_linkSide (k : KilnId) (p : PortId) (s : State) : (s.placeSetpoint k p).linkSide = s.linkSide := by
  fun_cases State.placeSetpoint k p s
  case case1 => exact State.place_linkSide p _ _ _ s
  case case2 => rfl

theorem State.produceSetpoint_linkSide (k : KilnId) (s : State) : (s.produceSetpoint k).linkSide = s.linkSide := by
  fun_cases State.produceSetpoint k s
  case case3 p _ _ _ => exact State.placeSetpoint_linkSide k p s
  case case4 p _ _ _ => exact State.modPort_linkSide p _ s
  all_goals rfl

theorem State.withdrawSetpoint_linkSide (k : KilnId) (s : State) : (s.withdrawSetpoint k).linkSide = s.linkSide := by
  unfold State.withdrawSetpoint
  exact (State.modPort_linkSide .b _ _).trans (State.modPort_linkSide .a _ s)

theorem produceNoticesFuel_linkSide (n : Nat) (s : State) : (produceNoticesFuel n s).linkSide = s.linkSide := by
  fun_induction produceNoticesFuel n s
  case case3 _ s p _ _ ih => exact ih.trans (State.placeNotice_linkSide p s)
  all_goals rfl

theorem produceRowsFuel_linkSide (n : Nat) (s : State) : (produceRowsFuel n s).linkSide = s.linkSide := by
  fun_induction produceRowsFuel n s
  case case3 _ s p _ _ ih => exact ih.trans (State.placeRow_linkSide p s)
  all_goals rfl

theorem State.raise_linkSide (n : Notice) (s : State) : (s.raise n).linkSide = s.linkSide := by
  have judged : (s.judgeNotice n).linkSide = s.linkSide := by
    fun_cases State.judgeNotice n s <;> rfl
  exact (produceNoticesFuel_linkSide _ _).trans judged

theorem KilnDuty.linkSide {k : KilnId} {s t : State} (h : KilnWork k s t) : t.linkSide = s.linkSide := by
  induction h with
  | trans _ _ first next => exact next.trans first
  | raise n s => exact State.raise_linkSide n s
  | setpoint s => exact State.produceSetpoint_linkSide k s
  | withdraw s => exact State.withdrawSetpoint_linkSide k s
  | charge s _ =>
    fun_cases State.modKilnCharge k _ s
    case case1 n _ => fun_cases State.modCharge n _ s <;> rfl
    case case2 => rfl
  | unbind s => fun_cases State.unbindKiln k s <;> rfl
  | _ => rfl

/-! ### What the finishing side's operations leave -/

/-- The part without the boards, packs, labels, charge records and free-value counter that the finishing side's operations
change; with `still` set, the chain's position and direction, the eye's state and the next serial stay in. -/
def State.face (still : Bool) (s : State) : State :=
  { s.inner with
    charges := Vector.replicate 48 {}, reuse := [], bins := Vector.replicate 16 {}, nextPack := 0, packLog := [], lots := []
    freeCount := 0
    line := {
      settings := s.line.settings, patterns := s.line.patterns, infeed := s.line.infeed
      position := if still then s.line.position else 0
      direction := if still then s.line.direction else .forward
      eyeBlocked := if still then s.line.eyeBlocked else false
      nextSerial := if still then s.line.nextSerial else 0 }
    labels := { layout := s.labels.layout } }

/-- The reply slot and both ports. -/
def State.links (s : State) : Option PendingReply × Port × Port := (s.replySlot, s.portA, s.portB)

theorem State.linkSide_of_links {s t : State} (h : t.links = s.links) : t.linkSide = s.linkSide := by
  obtain ⟨slot, ports⟩ := Prod.ext_iff.mp h
  obtain ⟨a, b⟩ := Prod.ext_iff.mp ports
  refine Prod.ext slot (funext fun p => ?_)
  cases p
  · exact congrArg (fun q : Port => (q.passQueue, q.counters)) a
  · exact congrArg (fun q : Port => (q.passQueue, q.counters)) b

/-- What the operations of the line tracker, the pack builder and the label unit are made of. -/
inductive FinishWork (still : Bool) : State → State → Prop
  | refl (s : State) : FinishWork still s s
  | trans {s t u : State} (first : FinishWork still s t) (next : FinishWork still t u) : FinishWork still s u
  | raise (n : Notice) (s : State) : FinishWork still s (s.raise n)
  | rows (s : State) : FinishWork still s s.produceRows
  | inside {s t : State} (face : t.face still = s.face still) (link : t.links = s.links) : FinishWork still s t

namespace FinishWork

variable {still : Bool} {s t : State}

theorem thenRaise (h : FinishWork still s t) (n : Notice) : FinishWork still s (t.raise n) := h.trans (.raise n t)

theorem face (h : FinishWork still s t) : t.face still = s.face still := by
  induction h with
  | refl => rfl
  | trans _ _ first next => exact next.trans first
  | raise n s => exact (congrArg (State.face still) (State.raise_inner n s) :)
  | rows s => exact (congrArg (State.face still) (State.produceRows_inner s) :)
  | inside face _ => exact face

theorem linkSide (h : FinishWork still s t) : t.linkSide = s.linkSide := by
  induction h with
  | refl => rfl
  | trans _ _ first next => exact next.trans first
  | raise n s => exact State.raise_linkSide n s
  | rows s => exact produceRowsFuel_linkSide 8 s
  | inside _ link => exact State.linkSide_of_links link

end FinishWork

section
variable {still : Bool} (s : State)

theorem State.modLine_finish (f : Line → Line)
    (h : (s.modLine f).face still = s.face still := by exact rfl) : FinishWork still s (s.modLine f) := .inside h rfl

theorem State.modLabels_finish (f : LabelUnit → LabelUnit) (h : (f s.labels).layout = s.labels.layout := by exact rfl) :
    FinishWork still s (s.modLabels f) := by
  refine .inside ?_ rfl
  unfold State.face State.inner State.modLabels
  dsimp only
  rw [h]

theorem State.modBin_finish (b : Fin 16) (f : Bin → Bin) : FinishWork still s (s.modBin b f) := .inside rfl rfl

theorem State.modCharge_finish (n : Nat) (f : Charge → Charge) : FinishWork still s (s.modCharge n f) := by
  fun_cases State.modCharge n f s
  case case1 => exact .inside rfl rfl
  case case2 => exact .refl s

theorem State.evaluateHold_finish : FinishWork still s s.evaluateHold := by
  unfold State.evaluateHold
  dsimp only
  split
  · exact .refl s
  · refine FinishWork.trans ?_ (.raise _ _)
    exact .inside rfl rfl

theorem State.startHead_finish : FinishWork still s s.startHead := by
  unfold State.startHead
  split
  · exact s.modLabels_finish _
  · split
    · exact (s.modLabels_finish (fun u => { u with head := some .sending, nextRow := 0 })).trans (.rows _)
    · exact s.modLabels_finish _

theorem State.takeRef_finish (x : Option Nat) : FinishWork still s (s.takeRef x) := by
  unfold State.takeRef
  split
  · exact s.modCharge_finish _ _
  · exact .refl s

theorem State.releaseRef_finish (x : Option Nat) : FinishWork still s (s.releaseRef x) := by
  fun_cases State.releaseRef x s
  case case1 => exact .refl s
  case case2 => exact .refl s
  case case3 => exact .inside rfl rfl
  case case4 => exact .inside rfl rfl

theorem State.releaseRef_foldl_finish (l : List (Option Nat)) :
    FinishWork still s (l.foldl (fun t x => t.releaseRef x) s) := by
  induction l generalizing s with
  | nil => exact .refl s
  | cons x l ih => exact (s.releaseRef_finish x).trans (ih _)

theorem State.releaseRefs_finish (l : List (Option Nat)) : FinishWork still s (s.releaseRefs l) := by
  unfold State.releaseRefs
  exact (s.releaseRef_foldl_finish _).trans (.inside rfl rfl)

theorem State.handOff_finish (p : Pack) (bin : Fin 16) (r : CloseReason) : FinishWork still s (s.handOff p bin r) := by
  have joined : FinishWork still s (s.modLabels (fun u => { u with queue := u.queue ++ [s.render p bin r] })).evaluateHold :=
    (s.modLabels_finish _).trans (State.evaluateHold_finish _)
  unfold State.handOff
  dsimp only
  split
  · split
    · exact joined.trans (State.startHead_finish _)
    · exact joined
  · exact .refl s

theorem State.makeLot_finish (p : Pack) : FinishWork still s (s.makeLot p) := by
  unfold State.makeLot
  split
  · exact .inside rfl rfl
  · exact .refl s

theorem State.raiseNoLabel_finish (p : Pack) (bin : Fin 16) (o : LabelOutcome) :
    FinishWork still s (s.raiseNoLabel p bin o) := by
  unfold State.raiseNoLabel
  split
  · exact .raise _ s
  · exact .refl s

theorem State.raiseLotLost_finish (p : Pack) (cause : Option Nat) : FinishWork still s (s.raiseLotLost p cause) := by
  unfold State.raiseLotLost
  split
  · exact .raise _ s
  · exact .refl s

theorem State.writeLog_finish (e : LogEntry) : FinishWork still s (s.writeLog e) := .inside rfl rfl

theorem State.closePack_finish (bin : Fin 16) (p : Pack) (r : CloseReason) : FinishWork still s (s.closePack bin p r) := by
  unfold State.closePack
  exact ((((((((s.handOff_finish p bin r).trans (State.makeLot_finish _ p)).trans (State.writeLog_finish _ _)).thenRaise
    _).trans (State.raiseNoLabel_finish _ p bin _)).trans (State.raiseLotLost_finish _ p _)).trans
    (State.releaseRefs_finish _ _))).trans (State.modBin_finish _ bin _)

theorem State.resetBin_foldl_finish (l : List (Fin 16)) : FinishWork still s (l.foldl State.resetBin s) := by
  induction l generalizing s with
  | nil => exact .refl s
  | cons b l ih =>
    refine FinishWork.trans ?_ (ih (s.resetBin b))
    unfold State.resetBin
    split
    · exact s.closePack_finish b _ .lineReset
    · exact .refl s

theorem State.lineReset_finish : FinishWork still s s.lineReset := by
  have discarded : FinishWork still s s.discardBoards := by
    unfold State.discardBoards
    exact ((s.modLine_finish Line.discard).trans (State.releaseRefs_finish _ _)).trans (State.evaluateHold_finish _)
  have zeroed (t : State) : FinishWork still t (t.modLine (fun l => { l with counters := {} })) := t.modLine_finish _
  have counted (t : State) : FinishWork still t { t with bins := t.bins.map (fun b => { b with counter := 0 }) } :=
    .inside rfl rfl
  unfold State.lineReset
  exact (((discarded.trans (State.resetBin_foldl_finish _ (List.finRange 16))).trans (counted _)).trans (zeroed _)).trans
    (State.evaluateHold_finish _)

theorem State.followPrinter_finish (x y : Option StationId) : FinishWork still s (s.followPrinter x y) := by
  fun_cases State.followPrinter x y s
  case case1 => exact s.startHead_finish
  case case3 => exact .rows s
  case case4 => exact s.startHead_finish
  all_goals exact .refl s

/-! #### What moves the chain, the eye or the serials -/

theorem State.addBoard_finish (bin : Fin 16) (b : Board) (p : Pack) : FinishWork still s (s.addBoard bin b p) := by
  have referred : FinishWork still s (if p.charges.contains b.charge then s else s.takeRef b.charge) := by
    split
    · exact .refl s
    · exact s.takeRef_finish _
  have joined := referred.trans (State.modBin_finish _ bin (fun x => { x.countBoard with pack := some (p.add b) }))
  unfold State.addBoard
  dsimp only
  split
  · exact joined.trans (State.closePack_finish _ bin (p.add b) .countReached)
  · exact joined

theorem State.openWith_finish (bin : Fin 16) (b : Board) : FinishWork still s (s.openWith bin b) := by
  unfold State.openWith
  split
  · exact s.modBin_finish bin _
  · exact (FinishWork.inside (s := s) (t := { s with nextPack := nextPackNumber s.nextPack }) rfl rfl).trans
      (State.addBoard_finish _ bin b (s.freshPack bin))

theorem State.placeBoard_finish (bin : Fin 16) (b : Board) : FinishWork still s (s.placeBoard bin b) := by
  unfold State.placeBoard
  split
  · exact s.openWith_finish bin b
  · split
    · exact (s.closePack_finish bin _ .chargeMix).trans (State.openWith_finish _ bin b)
    · exact s.addBoard_finish bin b _

theorem State.passUnread_finish (b : Board) : FinishWork still s (s.modLine (Line.passUnread b)) := by
  refine s.modLine_finish _ ?_
  unfold State.modLine
  fun_cases Line.passUnread b s.line <;> rfl

theorem State.countInCharge_finish (b : Board) : FinishWork still s (s.countInCharge b) := by
  unfold State.countInCharge
  split
  · exact s.modCharge_finish _ _
  · exact .refl s

theorem State.depart_finish : FinishWork still s s.depart := by
  unfold State.depart
  split
  · exact .refl s
  · next b0 _ _ =>
      exact (((((s.passUnread_finish b0).trans (State.countInCharge_finish _ b0.settleAtDeparture)).trans
        (State.placeBoard_finish _ (State.chooseBin ((s.modLine (Line.passUnread b0)).countInCharge b0.settleAtDeparture)
            b0.settleAtDeparture) b0.settleAtDeparture)).trans
        (State.modLine_finish _ Line.dropHead)).trans (State.releaseRef_finish _ _)).trans (State.evaluateHold_finish _)

theorem departuresFuel_finish (n : Nat) : FinishWork still s (departuresFuel n s) := by
  induction n generalizing s with
  | zero => exact .refl s
  | succ n ih =>
    unfold departuresFuel
    split
    · exact s.depart_finish.trans (ih _)
    · exact .refl s

theorem State.encoderChange_finish (x y : Bool) : FinishWork false s (s.encoderChange x y) := by
  have levels : FinishWork false s (s.modLine (fun l => { l with encA := x, encB := y })) := s.modLine_finish _
  unfold State.encoderChange
  dsimp only
  split
  · exact levels
  · next d _ =>
      exact (levels.trans (State.modLine_finish _
        (fun l => { l with position := d.move l.position, direction := d }.reachPoints))).trans (departuresFuel_finish _ _)

theorem State.openBoard_finish : FinishWork false s s.openBoard := by
  unfold State.openBoard
  split
  · exact ((s.modLine_finish Line.opened).trans (State.takeRef_finish _ _)).trans (State.evaluateHold_finish _)
  · refine (s.modLine_finish Line.lostOne).trans ?_
    unfold State.noteLost
    split
    · exact .refl _
    · exact (State.modLine_finish _ (fun l => { l with lostNotice := true })).thenRaise _

theorem State.splitLast_finish : FinishWork still s (s.modLine Line.splitLast) := by
  refine s.modLine_finish _ ?_
  unfold State.modLine
  fun_cases Line.splitLast s.line <;> rfl

theorem State.leadingEdge_finish : FinishWork false s s.leadingEdge := by
  have blocked : FinishWork false s (s.modLine (fun l => { l with eyeBlocked := true })) := s.modLine_finish _
  have taken (t : State) : FinishWork false t t.takeLeading := by
    unfold State.takeLeading
    split
    · split
      · exact .refl t
      · exact t.splitLast_finish.trans (State.openBoard_finish _)
    · exact t.openBoard_finish
  unfold State.leadingEdge
  dsimp only
  split
  · exact .refl s
  · split
    · exact blocked.trans (State.modLine_finish _ Line.countReverse)
    · exact blocked.trans (taken _)

theorem State.trailingEdge_finish : FinishWork false s s.trailingEdge := by
  have clear : FinishWork false s (s.modLine (fun l => { l with eyeBlocked := false })) := s.modLine_finish _
  unfold State.trailingEdge
  dsimp only
  split
  · split
    · exact clear.trans (State.modLine_finish _ Line.countReverse)
    · exact clear.trans (State.modLine_finish _ Line.takeTrailing)
  · exact .refl s

theorem State.finishHead_finish (o : LabelOutcome) : FinishWork still s (s.finishHead o) := by
  have stopped : FinishWork still s (s.modLabels (fun u => { u with timer := none })) := s.modLabels_finish _
  unfold State.finishHead
  split
  · exact .refl s
  · next l rest _ =>
      have told : FinishWork still s (if o = .printed then s.modLabels (fun u => { u with timer := none })
          else (s.modLabels (fun u => { u with timer := none })).raise (labelFailed l.pack o l.bin)) := by
        split
        · exact stopped
        · exact stopped.thenRaise _
      have logged (t : State) : FinishWork still t { t with packLog := reportOutcome l.pack o t.packLog } := .inside rfl rfl
      have left (t : State) :
          FinishWork still t (t.modLabels (fun u => { u with queue := rest, head := none, nextRow := 0 })) :=
        t.modLabels_finish _
      exact (((told.trans (logged _)).trans (left _)).trans (State.evaluateHold_finish _)).trans (State.startHead_finish _)

theorem State.labelTimeout_finish : FinishWork still s s.labelTimeout := by
  unfold State.labelTimeout
  split
  · exact s.finishHead_finish _
  · exact .refl s

end

end Sys2Proof.Machine
end

section
/-! PROOFS. The statements EveryCommandAnswers, KilnRequestsTouchTheirKilnOnly, TablesAreWrittenByTheirRequests and
EventsLeaveTheOtherBlocks: what commands, served requests and events leave. -/

namespace Sys2Proof.Machine

/-! ### The waiting commands -/

theorem Effect.pending {kind : ReqKind} {r : Request} {s t : State} (h : Effect r s kind t) : t.pending = s.pending := by
  by_cases hk : kind = .writeStation
  · subst hk
    cases h with
    | unchanged => rfl
    | writeStation d e _ _ =>
      refine (congrArg State.pending (State.writeStation_beyond d e s) :).trans ?_
      rw [s.writeMap_eq d e]
      rfl
  · exact (congrArg Prod.fst (h.base hk) :)

theorem Happens.pending {s t : State} (h : Happens false s t) : t.pending = s.pending := by
  rcases h.base with same | ⟨never, -⟩
  · exact (congrArg Prod.fst same :)
  · exact nomatch never

/-- No command but the step's own choice touches the commands that wait. -/
theorem pending_carried (l : List Instr) : Carried false (fun s => s.pending = l) where
  pending h := nomatch h
  drawn _ hs := hs
  admitted _ _ hs := hs
  taken _ _ _ hs := hs
  counted _ hs := hs
  answered r v hs := (congrArg State.pending (answer_inner r v) :).trans hs
  buffered {s} p _ _ hs := (congrArg State.pending (State.modPort_inner p _ s) :).trans hs
  portCounted {s} p _ hs := (congrArg State.pending (State.modPort_inner p _ s) :).trans hs
  forwarded {s} p run hs := (congrArg State.pending (State.forward_inner p run s) :).trans hs
  started {s} p _ hs := (congrArg State.pending (State.modPort_inner p _ s) :).trans hs
  sentPass {s} p hs := (congrArg State.pending (State.modPort_inner p _ s) :).trans hs
  sentLocal {s} p hs := by
    refine (congrArg State.pending (State.offer_inner p _) :).trans ?_
    exact (congrArg State.pending (State.modPort_inner p _ s) :).trans hs
  event h hs := h.pending.trans hs
  served h hs := h.pending.trans hs

/-- A command always answers with a part. -/
theorem exec_answers (c : Instr) (s : State) : ∃ t, exec c s = .next t := by
  cases hc : requestOfCommand c with
  | some r => exact ⟨_, exec_request c r hc s⟩
  | none => cases c <;> exact ⟨_, rfl⟩

theorem exec_pending {c : Instr} {s t : State} (h : exec c s = .next t) : t.pending = s.pending := by
  by_cases reset : ∃ straps eye encA encB, c = .deviceReset straps eye encA encB
  · obtain ⟨straps, eye, encA, encB, rfl⟩ := reset
    obtain rfl := Host.Outcome.next.inj h
    rfl
  · exact (pending_carried s.pending).exec (fun straps eye encA encB h => absurd ⟨straps, eye, encA, encB, h⟩ reset) h rfl

/-- Settles O2: every command's outcome is a part, with the commands that waited; a step runs a command or is a second. -/
theorem everyCommandAnswers : Obligations.EveryCommandAnswers := by
  unfold Obligations.EveryCommandAnswers
  refine ⟨fun c s => ?_, fun s => ?_⟩
  · obtain ⟨t, run⟩ := exec_answers c s
    exact ⟨t, run, exec_pending run⟩
  · rcases step_cases s with ⟨c, l, n, run⟩ | ⟨n, run⟩
    · obtain ⟨t, next⟩ := exec_answers c { s with pending := l, freeCount := n }
      exact ⟨t, run.trans next⟩
    · exact ⟨_, run⟩

/-! ### A request served at once -/

/-- A request served at once has its owner's effect, then the reply goes out; no request waits after it. -/
theorem served_at_once {i : Instr} {kind : ReqKind} {s t : State} {d : StationId} {p : PortId} {g : Byte} {a : List Byte}
    (hi : requestOfCommand i = some (requestFor kind d p g a)) (ready : s.Ready d kind) (run : exec i s = .next t) :
    ∃ u, Effect (requestFor kind d p g a) s kind u ∧ t.inner = u.inner ∧ t.requests = [] := by
  obtain rfl := Host.Outcome.next.inj ((exec_ready i s kind d p g a hi ready).symm.trans run)
  have effect := serve_effect kind (requestFor kind d p g a) s
  refine ⟨_, effect, answer_inner _ _, ?_⟩
  refine (congrArg State.requests (answer_inner _ _) :).trans ?_
  exact effect.requests.trans ready.1

/-! ### The requests on one kiln -/

/-- The part without what LOAD_CHARGE changes. -/
def State.offKiln (s : State) : State := { s.aside with lots := [], reuse := [] }

theorem State.loadCharge_offKiln (k : KilnId) (d : Fin 32) (g : Fin 16) (i : Fin 48) (args : List Byte) (s : State) :
    (s.loadCharge k d g i args).offKiln = s.offKiln :=
  (congrArg (fun u : State => { u with lots := [], reuse := [] }) (s.loadCharge_work k d g i args).aside :).trans rfl

theorem KilnDuty.offKiln {k : KilnId} {s t : State} (h : KilnWork k s t) : t.offKiln = s.offKiln :=
  congrArg (fun u : State => { u with lots := [], reuse := [] }) h.aside

/-- The requests that name one kiln. -/
def ReqKind.onKiln (kind : ReqKind) : Bool :=
  kind ∈ [.loadCharge, .startKiln, .override, .resume, .stop, .restart, .unload, .writeKilnLimits, .writeFaultActions]

/-- Such a request leaves the other kilns, the committed schedules, and what lies off the kilns; the lots and the reuse order
too, unless it is LOAD_CHARGE. -/
theorem Effect.onKiln {kind : ReqKind} {r : Request} {s t : State} (h : Effect r s kind t) (hk : kind.onKiln = true) :
    (∀ j : KilnId, j.val ≠ u8 r.args 0 → t.kiln j = s.kiln j) ∧ t.committed = s.committed ∧ t.offKiln = s.offKiln
      ∧ (kind ≠ .loadCharge → t.lots = s.lots ∧ t.reuse = s.reuse) := by
  have other {k j : KilnId} (named : kilnArg? r.args 0 = some k) (hj : j.val ≠ u8 r.args 0) : j ≠ k := by
    rintro rfl
    exact hj ((kilnArg?_eq_some_iff _ _ _).mp named).symm
  have work {k : KilnId} {u : State} (named : kilnArg? r.args 0 = some k) (w : KilnWork k s u) :
      (∀ j : KilnId, j.val ≠ u8 r.args 0 → u.kiln j = s.kiln j) ∧ u.committed = s.committed ∧ u.offKiln = s.offKiln
        ∧ (kind ≠ .loadCharge → u.lots = s.lots ∧ u.reuse = s.reuse) :=
    ⟨fun j hj => w.other j (other named hj), w.committed, w.offKiln, fun _ =>
      ⟨(congrArg State.lots w.aside :), (congrArg State.reuse w.aside :)⟩⟩
  cases h
  case unchanged => exact ⟨fun _ _ => rfl, rfl, rfl, fun _ => ⟨rfl, rfl⟩⟩
  case loadCharge k d g i named _ _ _ _ _ =>
    have w := s.loadCharge_work k d g i r.args
    refine ⟨fun j hj => (w.other j (other named hj)).trans rfl, w.committed.trans ?_,
      State.loadCharge_offKiln k d g i r.args s, fun h => absurd rfl h⟩
    exact (State.bindEntry_committed d _).trans rfl
  case startKiln k p named _ _ => exact work named (State.startKiln_work k s p)
  case override k _ _ _ _ named _ _ => exact work named (State.pushHold_work k s _ _)
  case resume k _ _ named _ => exact work named (State.resumeEntry_work k s _)
  case stop k named _ => exact work named (State.stopKiln_work k s _ _)
  case restart k named _ => exact work named (State.restartKiln_work k s)
  case unload k _ named _ => exact work named (State.unloadKiln_work k s _)
  case writeKilnLimits k _ named _ =>
    exact ⟨fun j hj => State.kiln_modKiln_other k j (other named hj) _ s, rfl, rfl, fun _ => ⟨rfl, rfl⟩⟩
  case writeFaultActions k _ named =>
    exact ⟨fun j hj => State.kiln_modKiln_other k j (other named hj) _ s, rfl, rfl, fun _ => ⟨rfl, rfl⟩⟩
  all_goals exact nomatch hk

theorem State.kiln_of_inner {s t : State} (h : t.inner = s.inner) (k : KilnId) : t.kiln k = s.kiln k :=
  (congrArg (fun u => State.kiln u k) h :)

theorem State.committed_fields {s t : State} (h : t.committed = s.committed) (d : Fin 32) :
    t.directory[d].valid = s.directory[d].valid ∧ t.directory[d].generation = s.directory[d].generation
      ∧ t.directory[d].header = s.directory[d].header ∧ t.directory[d].steps = s.directory[d].steps := by
  have entry := congrFun h d
  exact ⟨(congrArg DirEntry.valid entry :), (congrArg DirEntry.generation entry :), (congrArg DirEntry.header entry :),
    (congrArg DirEntry.steps entry :)⟩

theorem State.offKiln_of_inner {s t : State} (h : t.inner = s.inner) : t.offKiln = s.offKiln := (congrArg State.offKiln h :)

/-- Settles O54: each of these requests is work on the kiln it names, with the tables of LOAD_CHARGE. -/
theorem kilnRequestsTouchTheirKilnOnly : Obligations.KilnRequestsTouchTheirKilnOnly := by
  unfold Obligations.KilnRequestsTouchTheirKilnOnly
  intro i kind s t d p g a hk hi ready run
  obtain ⟨u, effect, inner, requests⟩ := served_at_once hi ready run
  obtain ⟨others, committed, off, kept⟩ := effect.onKiln (decide_eq_true hk)
  have off := (State.offKiln_of_inner inner).trans off
  refine ⟨fun j hj => (State.kiln_of_inner inner j).trans (others j hj), (congrArg State.own off :),
    (congrArg State.stations off :), (congrArg State.watchdog off :), (congrArg State.clock off :),
    (congrArg State.minutes off :), (congrArg State.species off :), (congrArg State.staging off :),
    (congrArg State.line off :), (congrArg State.sortList off :), (congrArg State.bins off :),
    (congrArg State.nextPack off :), (congrArg State.packLog off :), (congrArg (fun u => u.labels.queue) off :),
    (congrArg (fun u => u.labels.layout) off :), (congrArg (fun u => u.labels.timer) off :),
    (congrArg (fun u => u.labels.timeoutInUse) off :), requests, fun other => ?_,
    State.committed_fields ((State.committed_of_inner inner).trans committed)⟩
  obtain ⟨lots, reuse⟩ := kept other
  exact ⟨(congrArg State.lots inner :).trans lots, (congrArg State.reuse inner :).trans reuse⟩

/-! ### The tables -/

/-- What requests alone write: the part without its kilns, its directory's in-use counts and what the finishing side's
operations change, and beside it the written limits and actions, the bins' settings and the committed schedules. -/
@[ext] structure Tables where
  calm : State
  limits : KilnId → Limits
  actions : KilnId → PerFault FaultAction
  bins : Fin 16 → Nat × PackKind
  committed : Fin 32 → DirEntry

def State.tables (s : State) : Tables where
  calm := { s.face true with
    nextPack := s.nextPack, kilns := Vector.replicate 16 {}, directory := Vector.replicate 32 {} }
  limits k := (s.kiln k).written
  actions k := (s.kiln k).actions
  bins b := (s.bins[b].target, s.bins[b].kind)
  committed := s.committed

/-- Two states of the tables agree, but for what a request of a kind writes. -/
structure Tables.Agree (kind : ReqKind) (x y : Tables) : Prop where
  own : y.calm.own = x.calm.own
  minutes : y.calm.minutes = x.calm.minutes
  position : y.calm.line.position = x.calm.line.position
  direction : y.calm.line.direction = x.calm.line.direction
  eye : y.calm.line.eyeBlocked = x.calm.line.eyeBlocked
  serial : y.calm.line.nextSerial = x.calm.line.nextSerial
  stations : kind ≠ .writeStation → y.calm.stations = x.calm.stations
  species : kind ≠ .writeSpecies → y.calm.species = x.calm.species
  limits : kind ≠ .writeKilnLimits → y.limits = x.limits
  actions : kind ≠ .writeFaultActions → y.actions = x.actions
  settings : kind ≠ .writeLine → y.calm.line.settings = x.calm.line.settings
  patterns : kind ≠ .writeMark → y.calm.line.patterns = x.calm.line.patterns
  sortList : kind ≠ .writeSort → y.calm.sortList = x.calm.sortList
  bins : kind ≠ .writeBin → y.bins = x.bins
  nextPack : kind ≠ .setPackBase → y.calm.nextPack = x.calm.nextPack
  layout : kind ≠ .writeLabelField → y.calm.labels.layout = x.calm.labels.layout
  clock : kind ≠ .setClock → y.calm.clock = x.calm.clock
  writtenLimits : kind ≠ .writeWatchdog → y.calm.watchdog.upperWritten = x.calm.watchdog.upperWritten
    ∧ y.calm.watchdog.lowerWritten = x.calm.watchdog.lowerWritten
  watchdog : kind ≠ .heartbeat → y.calm.watchdog.state = x.calm.watchdog.state
    ∧ y.calm.watchdog.elapsed = x.calm.watchdog.elapsed ∧ y.calm.watchdog.upperInUse = x.calm.watchdog.upperInUse
    ∧ y.calm.watchdog.lowerInUse = x.calm.watchdog.lowerInUse
  infeed : kind ≠ .planerFeed → y.calm.line.infeed = x.calm.line.infeed
  staging : kind.cls ≠ .schedule → y.calm.staging = x.calm.staging
  committed : kind ≠ .editCommit → kind ≠ .entryDelete → y.committed = x.committed

theorem Tables.Agree.refl (kind : ReqKind) (x : Tables) : Tables.Agree kind x x where
  own := rfl
  minutes := rfl
  position := rfl
  direction := rfl
  eye := rfl
  serial := rfl
  stations _ := rfl
  species _ := rfl
  limits _ := rfl
  actions _ := rfl
  settings _ := rfl
  patterns _ := rfl
  sortList _ := rfl
  bins _ := rfl
  nextPack _ := rfl
  layout _ := rfl
  clock _ := rfl
  writtenLimits _ := ⟨rfl, rfl⟩
  watchdog _ := ⟨rfl, rfl, rfl, rfl⟩
  infeed _ := rfl
  staging _ := rfl
  committed _ _ := rfl

theorem Tables.Agree.of_eq {x y : Tables} (h : y = x) (kind : ReqKind) : Tables.Agree kind x y := h ▸ .refl kind x

theorem State.tables_of_inner {s t : State} (h : t.inner = s.inner) : t.tables = s.tables := (congrArg State.tables h :)

theorem KilnDuty.tables {k : KilnId} {s t : State} (h : KilnWork k s t) : t.tables = s.tables := by
  have calm := congrArg (fun u : State => u.tables.calm) h.aside
  have bins := congrArg (fun u : State => u.tables.bins) h.aside
  exact Tables.ext calm (funext fun j => (h.written j).1) (funext fun j => (h.written j).2) bins h.committed

/-- A change of the finishing side that leaves the chain, the next pack number and the bins' settings. -/
theorem FinishWork.tables {s t : State} (h : FinishWork true s t) (kilns : t.beyond = s.beyond) (next : t.nextPack = s.nextPack)
    (bins : ∀ b : Fin 16, t.bins[b].target = s.bins[b].target ∧ t.bins[b].kind = s.bins[b].kind) : t.tables = s.tables := by
  have calm : t.tables.calm = s.tables.calm := by
    have face := congrArg (fun u : State => { u with
      nextPack := s.nextPack, kilns := Vector.replicate 16 {}, directory := Vector.replicate 32 {} }) h.face
    unfold State.tables
    rw [next]
    exact face
  exact Tables.ext calm (funext fun k => (congrArg (fun u : State => (u.kiln k).written) kilns :))
    (funext fun k => (congrArg (fun u : State => (u.kiln k).actions) kilns :))
    (funext fun b => Prod.ext (bins b).1 (bins b).2) (State.committed_of_beyond kilns)

/-! #### The requests that leave the tables -/

/-- The bins' settings and the next pack number. -/
def State.binSettings (s : State) : Word × (Fin 16 → Nat × PackKind) :=
  (s.nextPack, fun b => (s.bins[b].target, s.bins[b].kind))

theorem State.modBin_binSettings (bin : Fin 16) (f : Bin → Bin) (s : State)
    (h : (f s.bins[bin]).target = s.bins[bin].target ∧ (f s.bins[bin]).kind = s.bins[bin].kind) :
    (s.modBin bin f).binSettings = s.binSettings := by
  refine Prod.ext rfl (funext fun b => ?_)
  change ((s.modBin bin f).bins[b].target, (s.modBin bin f).bins[b].kind) = (s.bins[b].target, s.bins[b].kind)
  rw [State.modBin_entry]
  split
  · next eq => subst eq; exact Prod.ext h.1 h.2
  · rfl

theorem State.closePack_binSettings (bin : Fin 16) (p : Pack) (r : CloseReason) (s : State) :
    (s.closePack bin p r).binSettings = s.binSettings := by
  obtain ⟨kept, e, side, -⟩ := s.closePack_packSide bin p r
  obtain ⟨bins, next, -⟩ : _ ∧ _ ∧ _ := by simpa only [State.packSide, Prod.mk.injEq] using side
  have emptied := State.modBin_binSettings bin (fun b => { b with pack := none }) s ⟨rfl, rfl⟩
  unfold State.binSettings at emptied ⊢
  rw [bins, next]
  exact emptied

theorem State.resetBin_foldl_binSettings (l : List (Fin 16)) (s : State) :
    (l.foldl State.resetBin s).binSettings = s.binSettings := by
  induction l generalizing s with
  | nil => rfl
  | cons b l ih =>
    refine (ih (s.resetBin b)).trans ?_
    unfold State.resetBin
    split
    · exact State.closePack_binSettings b _ _ s
    · rfl

theorem State.binSettings_of_packSide {s t : State} (h : t.packSide = s.packSide) : t.binSettings = s.binSettings :=
  Prod.ext (congrArg (fun x => x.2.1) h :) (congrArg (fun x => fun b : Fin 16 => (x.1[b].target, x.1[b].kind)) h :)

theorem State.lineReset_binSettings (s : State) : s.lineReset.binSettings = s.binSettings := by
  have zeroed (t : State) :
      ({ t with bins := t.bins.map (fun b => { b with counter := 0 }) } : State).binSettings = t.binSettings :=
    Prod.ext rfl (funext fun b => by simp [State.binSettings])
  have discarded : s.discardBoards.packSide = s.packSide := by
    unfold State.discardBoards
    simp
  unfold State.lineReset State.resetBins
  refine (State.binSettings_of_packSide (State.evaluateHold_packSide _)).trans ?_
  refine (State.binSettings_of_packSide (State.modLine_packSide _ _)).trans ?_
  exact ((zeroed _).trans (State.resetBin_foldl_binSettings _ _)).trans (State.binSettings_of_packSide discarded)

theorem FinishWork.tables_of_binSettings {s t : State} (h : FinishWork true s t) (kilns : t.beyond = s.beyond)
    (bins : t.binSettings = s.binSettings) : t.tables = s.tables := by
  obtain ⟨next, bins⟩ := Prod.mk.inj bins
  exact h.tables kilns next fun b => Prod.mk.inj (congrFun bins b)

theorem State.closePack_tables (bin : Fin 16) (p : Pack) (r : CloseReason) (s : State) :
    (s.closePack bin p r).tables = s.tables :=
  (s.closePack_finish bin p r).tables_of_binSettings (State.closePack_beyond bin p r s)
    (State.closePack_binSettings bin p r s)

theorem State.lineReset_tables (s : State) : s.lineReset.tables = s.tables :=
  s.lineReset_finish.tables_of_binSettings (State.lineReset_beyond s) s.lineReset_binSettings

theorem State.modCharge_tables (n : Nat) (f : Charge → Charge) (s : State) : (s.modCharge n f).tables = s.tables := by
  fun_cases State.modCharge n f s <;> rfl

theorem State.loadCharge_tables (k : KilnId) (d : Fin 32) (g : Fin 16) (i : Fin 48) (args : List Byte) (s : State) :
    (s.loadCharge k d g i args).tables = s.tables :=
  (s.loadCharge_work k d g i args).tables.trans
    (Tables.ext rfl rfl rfl rfl ((State.bindEntry_committed d _).trans rfl))

/-! #### The requests that write one -/

theorem State.planerFeed_tables (n : Nat) (s : State) : ∃ x, (s.planerFeed n).tables =
    { s.tables with calm := { s.tables.calm with line := { s.tables.calm.line with infeed := x } } } := by
  have left : s.leaveInfeed.tables = s.tables := by
    unfold State.leaveInfeed
    split
    · exact State.modCharge_tables _ _ s
    · rfl
  have entered (x : Option Nat) (u : State) (h : u.tables = s.tables) :
      (u.modLine (fun l => { l with infeed := x })).tables =
        { s.tables with calm := { s.tables.calm with line := { s.tables.calm.line with infeed := x } } } := by
    rw [← h]
    rfl
  unfold State.planerFeed State.enterInfeed
  split
  · exact ⟨none, entered none _ left⟩
  · exact ⟨some n, entered (some n) _ ((State.modCharge_tables n _ _).trans left)⟩

theorem State.writeStation_tables (d : StationId) (e : Station) (s : State) : ∃ x, (s.writeStation d e).tables =
    { s.tables with calm := { s.tables.calm with stations := x } } := by
  have moved : ((s.writeMap d e).followActuator e.role e.side).inner = (s.writeMap d e).inner := by
    fun_cases State.followActuator e.role e.side (s.writeMap d e) <;> simp
  have followed (x y : Option StationId) (u : State) : (u.followPrinter x y).packSide = u.packSide := by
    fun_cases State.followPrinter x y u <;> simp
  refine ⟨(s.writeMap d e).stations, ?_⟩
  unfold State.writeStation
  refine ((State.followPrinter_finish _ _ _).tables_of_binSettings (State.followPrinter_beyond _ _ _)
    (State.binSettings_of_packSide (followed _ _ _))).trans ?_
  refine ((State.tables_of_inner (State.produceNotices_inner _)).trans (State.tables_of_inner moved)).trans ?_
  rw [s.writeMap_eq d e]
  rfl

/-- A heartbeat writes the watchdog's state and limits in use, and reaches the kilns through a lapse (R31, R113). -/
theorem State.heartbeat_tables (d : StationId) (s : State) : ∃ w : Watchdog, (s.heartbeat d).tables =
      { s.tables with calm := { s.tables.calm with watchdog := w } }
    ∧ w.upperWritten = s.watchdog.upperWritten ∧ w.lowerWritten = s.watchdog.lowerWritten :=
  State.heartbeat_keeps (P := fun u => ∃ w : Watchdog, u.tables =
      { s.tables with calm := { s.tables.calm with watchdog := w } }
        ∧ w.upperWritten = s.watchdog.upperWritten ∧ w.lowerWritten = s.watchdog.lowerWritten) d
    (fun w upper lower => ⟨w, rfl, upper, lower⟩)
    (fun _ n ⟨w, h, limits⟩ => ⟨w, (State.tables_of_inner (State.raise_inner n _)).trans h, limits⟩)
    (fun _ _ _ work ⟨w, h, limits⟩ => ⟨w, work.tables.trans h, limits⟩)

theorem Kiln.writeLimits_actions (l : Limits) (q : Kiln) : (Kiln.writeLimits l q).actions = q.actions := by
  fun_cases Kiln.writeLimits l q <;> rfl

/-- A served request leaves the tables but its own. -/
theorem Effect.tables {kind : ReqKind} {r : Request} {s t : State} (h : Effect r s kind t) :
    Tables.Agree kind s.tables t.tables := by
  have same := Tables.Agree.refl kind s.tables
  cases h
  case clearPort p => exact .of_eq (State.tables_of_inner (State.modPort_inner p _ s)) _
  case heartbeat d =>
    obtain ⟨w, tables, upper, lower⟩ := State.heartbeat_tables d s
    rw [tables]
    exact { same with watchdog := fun h => absurd rfl h, writtenLimits := fun _ => ⟨upper, lower⟩ }
  case setClock c => exact { same with clock := fun h => absurd rfl h }
  case loadCharge k d g i _ _ _ _ _ _ => exact .of_eq (State.loadCharge_tables k d g i r.args s) _
  case startKiln k p _ _ _ => exact .of_eq (State.startKiln_work k s p).tables _
  case override k _ _ _ _ _ _ _ => exact .of_eq (State.pushHold_work k s _ _).tables _
  case resume k _ _ _ _ => exact .of_eq (State.resumeEntry_work k s _).tables _
  case stop k _ _ => exact .of_eq (State.stopKiln_work k s _ _).tables _
  case restart k _ _ => exact .of_eq (State.restartKiln_work k s).tables _
  case unload k _ _ _ => exact .of_eq (State.unloadKiln_work k s _).tables _
  case feedNone =>
    obtain ⟨x, tables⟩ := State.planerFeed_tables 0 s
    rw [tables]
    exact { same with infeed := fun h => absurd rfl h }
  case feed n _ _ _ _ =>
    obtain ⟨x, tables⟩ := State.planerFeed_tables n s
    rw [tables]
    exact { same with infeed := fun h => absurd rfl h }
  case closePack bin p _ => exact .of_eq (State.closePack_tables bin p .forced s) _
  case lineReset => exact .of_eq s.lineReset_tables _
  case editOpen | editHeader | editStep | editAbort => exact { same with staging := fun h => absurd rfl h }
  case editCommit =>
    exact { same with staging := fun h => absurd rfl h, committed := fun h => absurd rfl h }
  case entryDelete => exact { same with committed := fun _ h => absurd rfl h }
  case writeStation d e _ _ =>
    obtain ⟨x, tables⟩ := State.writeStation_tables d e s
    rw [tables]
    exact { same with stations := fun h => absurd rfl h }
  case writeSpecies => exact { same with species := fun h => absurd rfl h }
  case writeKilnLimits k l _ _ =>
    exact { same with
      limits := fun h => absurd rfl h
      actions := fun _ => funext (State.kiln_field_of_self Kiln.actions k
        (by rw [State.kiln_modKiln_self, Kiln.writeLimits_actions]) (fun j hj => State.kiln_modKiln_other k j hj _ s)) }
  case writeFaultActions k x _ =>
    exact { same with
      actions := fun h => absurd rfl h
      limits := fun _ => funext (State.kiln_field_of_self Kiln.written k
        (by rw [State.kiln_modKiln_self]) (fun j hj => State.kiln_modKiln_other k j hj _ s)) }
  case writeWatchdog => exact { same with writtenLimits := fun h => absurd rfl h }
  case writeLine => exact { same with settings := fun h => absurd rfl h }
  case writeMark => exact { same with patterns := fun h => absurd rfl h }
  case writeSort => exact { same with sortList := fun h => absurd rfl h }
  case writeBin i target kind => exact { same with bins := fun h => absurd rfl h }
  case writeLabelField => exact { same with layout := fun h => absurd rfl h }
  case setPackBase => exact { same with nextPack := fun h => absurd rfl h }
  all_goals exact same

/-- Settles O55: each served request's effect agrees with the tables but for what its kind writes. -/
theorem tablesAreWrittenByTheirRequests : Obligations.TablesAreWrittenByTheirRequests := by
  unfold Obligations.TablesAreWrittenByTheirRequests
  intro i kind s t d p g a hi ready run
  obtain ⟨u, effect, inner, -⟩ := served_at_once hi ready run
  have agree := effect.tables
  rw [← State.tables_of_inner inner] at agree
  exact ⟨agree.own, agree.minutes, agree.position, agree.direction, agree.eye, agree.serial, agree.stations, agree.species,
    fun h k => congrFun (agree.limits h) k, fun h k => congrFun (agree.actions h) k, agree.settings, agree.patterns,
    agree.sortList, fun h b => Prod.mk.inj (congrFun (agree.bins h) b), agree.nextPack, agree.layout, agree.clock,
    agree.writtenLimits, agree.watchdog, agree.infeed, agree.staging,
    fun commit delete => State.committed_fields (agree.committed commit delete)⟩

/-! ### The events of the timers, the eye and the encoder -/

/-- What no timer, eye or encoder event touches: the map, the tables of species and sorting, the requests, and the link's
side. -/
def State.calmSide (s : State) :
    StationId × Vector Station 255 × Vector SpeciesGroup 16 × Vector SortEntry 16 × List Request :=
  (s.own, s.stations, s.species, s.sortList, s.requests)

/-- The conclusion that the statement draws for every such event. -/
theorem State.left_of_sides {s t : State} (calm : t.calmSide = s.calmSide) (link : t.linkSide = s.linkSide) :
    t.own = s.own ∧ t.stations = s.stations ∧ t.species = s.species ∧ t.sortList = s.sortList ∧ t.requests = s.requests
      ∧ t.replySlot = s.replySlot ∧ t.portA.passQueue = s.portA.passQueue ∧ t.portB.passQueue = s.portB.passQueue
      ∧ t.portA.counters = s.portA.counters ∧ t.portB.counters = s.portB.counters := by
  obtain ⟨own, stations, species, sortList, requests⟩ : _ ∧ _ ∧ _ ∧ _ ∧ _ := by
    simpa only [State.calmSide, Prod.mk.injEq] using calm
  obtain ⟨reply, ports⟩ := Prod.mk.inj link
  obtain ⟨passA, countersA⟩ := Prod.mk.inj (congrFun ports .a)
  obtain ⟨passB, countersB⟩ := Prod.mk.inj (congrFun ports .b)
  exact ⟨own, stations, species, sortList, requests, reply, passA, passB, countersA, countersB⟩

/-- The part without its watchdog and without what the kiln units' work touches. -/
def State.offDrying (s : State) : State := { s.aside with watchdog := {} }

/-- The kiln minute and the watchdog's expiry touch the kiln units, their tables and the watchdog only. -/
theorem drying_leaves {i : Instr} {s t : State} (h : exec i s = .next t)
    (drying : (∃ k, i = .kilnMinuteExpiry k) ∨ i = .watchdogExpiry) : t.offDrying = s.offDrying ∧ t.linkSide = s.linkSide := by
  rcases drying with ⟨k, rfl⟩ | rfl
  · obtain rfl := Host.Outcome.next.inj h
    split
    · exact ⟨rfl, rfl⟩
    · have work : KilnWork k s (s.kilnMinute k) := State.kilnMinute_work k s
      exact ⟨congrArg (fun u : State => { u with watchdog := {} }) work.aside, work.linkSide⟩
  · obtain rfl := Host.Outcome.next.inj h
    unfold State.expireWatchdog
    split
    · refine State.lapse_keeps (P := fun u => u.offDrying = s.offDrying ∧ u.linkSide = s.linkSide) 0
        (fun _ _ _ => ⟨rfl, rfl⟩) (fun u n ⟨off, link⟩ => ⟨?_, (State.raise_linkSide n u).trans link⟩)
        (fun k u v work ⟨off, link⟩ => ⟨?_, work.linkSide.trans link⟩)
      · exact (congrArg State.offDrying (State.raise_inner n u) :).trans off
      · exact (congrArg (fun x : State => { x with watchdog := {} }) work.aside).trans off
    · exact ⟨rfl, rfl⟩

/-- The encoder, the eye and the label timer are work of the finishing side. -/
theorem finishing_work {i : Instr} {s t : State} (h : exec i s = .next t)
    (finishing : (∃ x y, i = .encoderCount x y) ∨ i = .leadingEdge ∨ i = .trailingEdge ∨ i = .labelTimeout) :
    FinishWork false s t := by
  rcases finishing with ⟨x, y, rfl⟩ | rfl | rfl | rfl
  · obtain rfl := Host.Outcome.next.inj h
    exact s.encoderChange_finish x y
  · obtain rfl := Host.Outcome.next.inj h
    exact s.leadingEdge_finish
  · obtain rfl := Host.Outcome.next.inj h
    exact s.trailingEdge_finish
  · obtain rfl := Host.Outcome.next.inj h
    exact s.labelTimeout_finish

theorem produceNoticesFuel_labels (n : Nat) (s : State) : (produceNoticesFuel n s).labels = s.labels := by
  have placed (p : PortId) (u : State) : (u.placeNotice p).labels = u.labels := by
    fun_cases State.placeNotice p u
    case case1 => exact State.modPort_labels p _ u
    case case2 => rfl
  fun_induction produceNoticesFuel n s
  case case3 _ s p _ _ ih => exact ih.trans (placed p s)
  all_goals rfl

theorem State.raise_labels (n : Notice) (s : State) : (s.raise n).labels = s.labels := by
  have judged : (s.judgeNotice n).labels = s.labels := by
    fun_cases State.judgeNotice n s <;> rfl
  exact (produceNoticesFuel_labels _ _).trans judged

/-- The part without the edit and the running minutes. -/
def State.offTimers (s : State) : State :=
  { s.inner with staging := none, clock := {}, minutes := 0, minutePhase := 0 }

theorem timers_leave {i : Instr} {s t : State} (h : exec i s = .next t)
    (timers : i = .editExpiry ∨ i = .millClockMinute ∨ i = .resetMinuteCount) :
    t.offTimers = s.offTimers ∧ t.linkSide = s.linkSide ∧ t.labels = s.labels := by
  rcases timers with rfl | rfl | rfl
  · obtain rfl := Host.Outcome.next.inj h
    unfold State.expireEdit
    split
    · exact ⟨(congrArg State.offTimers (State.raise_inner _ _) :).trans rfl, (State.raise_linkSide _ _).trans rfl,
        (State.raise_labels _ _).trans rfl⟩
    · exact ⟨rfl, rfl, rfl⟩
  · obtain rfl := Host.Outcome.next.inj h
    exact ⟨rfl, rfl, rfl⟩
  · obtain rfl := Host.Outcome.next.inj h
    exact ⟨rfl, rfl, rfl⟩

/-- Settles O56: the finishing side's work, the kiln units' work and the three timers, each by what it leaves. -/
theorem eventsLeaveTheOtherBlocks : Obligations.EventsLeaveTheOtherBlocks := by
  unfold Obligations.EventsLeaveTheOtherBlocks
  intro i s t h finishing drying timers
  refine ⟨?all, fun hf => ?finishing, fun hd => ?drying, fun ht => ?timers⟩
  case all =>
    rintro (hf | hd | ht)
    · have work := finishing_work h hf
      exact State.left_of_sides (congrArg State.calmSide work.face :) work.linkSide
    · obtain ⟨off, link⟩ := drying_leaves h hd
      exact State.left_of_sides (congrArg State.calmSide off :) link
    · obtain ⟨off, link, -⟩ := timers_leave h ht
      exact State.left_of_sides (congrArg State.calmSide off :) link
  case finishing =>
    have face := (finishing_work h hf).face
    exact ⟨(congrArg State.kilns face :), (congrArg State.directory face :), (congrArg State.staging face :),
      (congrArg State.watchdog face :), (congrArg State.clock face :), (congrArg State.minutes face :),
      (congrArg (fun u => u.line.settings) face :), (congrArg (fun u => u.line.patterns) face :),
      (congrArg (fun u => u.line.infeed) face :), (congrArg (fun u => u.labels.layout) face :)⟩
  case drying =>
    obtain ⟨off, -⟩ := drying_leaves h hd
    exact ⟨(congrArg State.line off :), (congrArg State.bins off :), (congrArg State.packLog off :),
      (congrArg State.lots off :), (congrArg State.nextPack off :), (congrArg (fun u => u.labels.queue) off :),
      (congrArg (fun u => u.labels.head) off :), (congrArg State.staging off :), (congrArg State.clock off :),
      (congrArg State.minutes off :), (congrArg State.reuse off :)⟩
  case timers =>
    obtain ⟨off, -, labels⟩ := timers_leave h ht
    exact ⟨(congrArg State.kilns off :), (congrArg State.line off :), (congrArg State.bins off :),
      (congrArg State.packLog off :), (congrArg State.lots off :), (congrArg State.charges off :),
      (congrArg State.directory off :), (congrArg State.watchdog off :), labels, (congrArg State.nextPack off :),
      (congrArg State.reuse off :)⟩

end Sys2Proof.Machine
end

section
/-! PROOFS. The supervision unit (chapter 2): replies and refusals, the clocks, the watchdog's limits, the counter groups and
READ_ENTRY. -/

namespace Sys2Proof.Machine

/-- What serving gives is what the row answers, where the request is served at once. -/
theorem exec_reply {i : Instr} {kind : ReqKind} {s : State} {d : StationId} {p : PortId} {g : Byte} {a : List Byte}
    (hi : requestOfCommand i = some (requestFor kind d p g a)) (ready : s.Ready d kind) {v : Served}
    (h : serve kind (requestFor kind d p g a) s = v) : exec i s = .next (answer (requestFor kind d p g a) v) := by
  rw [exec_ready i s kind d p g a hi ready, h]

/-! ### The clocks (R33, R34) -/

theorem serveSetClock_layout (r : Request) (s : State) (h : r.args.length ≠ 4) :
    serveSetClock r s = ⟨s, .badArgument, []⟩ := if_pos h

theorem serveSetClock_sets (r : Request) (s : State) (h : r.args.length = 4) :
    serveSetClock r s = ⟨{ s with clock := ⟨BitVec.ofNat 32 (u32 r.args 0), true, 0⟩ }, .ok, []⟩ := if_neg (not_not.mpr h)

/-- Settles O14: the request by its argument count, the two minute commands by their definitions. -/
theorem clocksCountMinutes : Obligations.ClocksCountMinutes := by
  unfold Obligations.ClocksCountMinutes
  refine ⟨fun s d p g a ready => ⟨fun h => ?_, fun h => ?_⟩, fun _ => rfl, fun _ => rfl⟩
  · exact exec_reply rfl ready (serveSetClock_layout _ s h)
  · exact exec_reply rfl ready (serveSetClock_sets _ s h)

/-! ### The watchdog's limits (R30) -/

theorem serveWriteWatchdog_layout (r : Request) (s : State) (h : r.args.length ≠ 3) :
    serveWriteWatchdog r s = ⟨s, .badArgument, []⟩ := if_pos h

/-- The lower limit clamped twice, and whether either clamp or the upper one changed a value. -/
theorem serveWriteWatchdog_writes (r : Request) (s : State) (h : r.args.length = 3) :
    serveWriteWatchdog r s =
      let upper := max 10 (min 600 (u16 r.args 0))
      let lower := min (min 60 (u8 r.args 2)) (upper - 1)
      ⟨{ s with watchdog := { s.watchdog with upperWritten := upper, lowerWritten := lower } },
        if upper = u16 r.args 0 ∧ lower = u8 r.args 2 then .ok else .okClamped, []⟩ := by
  have upper : (natField 10 600 (u16 r.args 0)).value = max 10 (min 600 (u16 r.args 0)) := rfl
  have first : (natField 0 60 (u8 r.args 2)).value = min 60 (u8 r.args 2) := natField_zero_value _ _
  have second (x : Nat) : (natField 0 x (min 60 (u8 r.args 2))).value = min (min 60 (u8 r.args 2)) x :=
    (natField_zero_value _ _).trans (Nat.min_comm _ _)
  unfold serveWriteWatchdog
  rw [if_neg (not_not.mpr h)]
  simp only [natField_clamped, first, second, upper, okClampedIf]
  congr 1
  simp only [Bool.or_eq_true, bne_iff_ne]
  grind

theorem serveReadEntry_watchdog (r : Request) (s : State) (h : r.args = [10, 0, 0]) :
    serveReadEntry r s = ⟨s, .ok, s.watchdog.bytes⟩ := by
  have table : u8 r.args 0 = 10 := by rw [h]; rfl
  have index : u16 r.args 1 = 0 := by rw [h]; rfl
  refine serveReadEntry_found r s _ (by rw [h]; rfl) ?_
  rw [table, index, State.entryBytes, if_pos rfl]

theorem WatchdogState.code_eq (x : WatchdogState) :
    x.code = if x = .disarmed then 0 else if x = .armed then 1 else 2 := by
  cases x <;> rfl

/-- Settles O13: WRITE_WATCHDOG by its argument count and clamps, a restart, and READ_ENTRY's watchdog row. -/
theorem writeWatchdogSetsTheWrittenLimits : Obligations.WriteWatchdogSetsTheWrittenLimits := by
  unfold Obligations.WriteWatchdogSetsTheWrittenLimits
  refine ⟨fun s d p g a ready => ⟨fun h => ?_, fun h => ?_⟩, fun _ => ⟨rfl, rfl⟩, fun s d p g ready => ?_,
    fun _ _ _ _ => rfl⟩
  · exact exec_reply rfl ready (serveWriteWatchdog_layout _ s h)
  · exact exec_reply rfl ready (serveWriteWatchdog_writes _ s h)
  · rw [← WatchdogState.code_eq]
    exact exec_reply rfl ready (serveReadEntry_watchdog (requestFor .readEntry d p g [10, 0, 0]) s rfl)

/-! ### The counter groups (R19, R36, R160) -/

theorem serveReadCounters_refused (r : Request) (s : State) (h : r.args.length ≠ 1 ∨ 3 < u8 r.args 0) :
    serveReadCounters r s = ⟨s, .badArgument, []⟩ := by
  fun_cases serveReadCounters r s
  case case1 => rfl
  case case6 => rfl
  all_goals omega

/-- Settles O15: the group by the argument, each reply by its counters in order. -/
theorem readCountersClearsItsGroup : Obligations.ReadCountersClearsItsGroup := by
  unfold Obligations.ReadCountersClearsItsGroup
  intro s d p g a ready
  refine ⟨fun h => exec_reply rfl ready (serveReadCounters_refused _ s h), ?_, ?_, ?_, ?_⟩
  all_goals
    rintro rfl
    exact exec_reply rfl ready rfl

/-! ### READ_ENTRY (R27) -/

theorem index?_map_none {α : Type} {n i : Nat} (f : Fin n → α) (h : n ≤ i) : (index? n i).map f = none := by
  rw [index?_of_le n i h]
  rfl

/-- No entry lies beyond a table's limit. -/
theorem State.entryBytes_none (s : State) (table i : Nat)
    (h : 10 < table ∨ [255, 16, 16, 16, 32, 768, 6, 16, 16, 16, 1].getD table 0 ≤ i) : s.entryBytes table i = none := by
  rcases Nat.lt_or_ge 10 table with far | near
  · obtain ⟨n, rfl⟩ := Nat.exists_eq_add_of_lt far
    rw [Nat.add_right_comm, Nat.add_comm]
    rfl
  replace h := h.resolve_left (Nat.not_lt.mpr near)
  have pool (limit : 768 ≤ i) : s.poolBytes i = none := index?_map_none _ (by omega)
  have dog (limit : 1 ≤ i) : s.entryBytes 10 i = none := if_neg (Nat.ne_of_gt limit)
  match table, near, h with
  | 0, _, h => exact index?_map_none _ h
  | 1, _, h => exact index?_map_none _ h
  | 2, _, h => exact index?_map_none _ h
  | 3, _, h => exact index?_map_none _ h
  | 4, _, h => exact index?_map_none _ h
  | 5, _, h => exact pool h
  | 6, _, h => exact index?_map_none _ h
  | 7, _, h => exact index?_map_none _ h
  | 8, _, h => exact index?_map_none _ h
  | 9, _, h => exact index?_map_none _ h
  | 10, _, h => exact dog h

theorem serveReadEntry_refused (r : Request) (s : State) (h : r.args.length ≠ 3 ∨ 10 < u8 r.args 0
    ∨ [255, 16, 16, 16, 32, 768, 6, 16, 16, 16, 1].getD (u8 r.args 0) 0 ≤ u16 r.args 1) :
    serveReadEntry r s = ⟨s, .badArgument, []⟩ := by
  unfold serveReadEntry
  split
  · rfl
  · next layout =>
      rw [s.entryBytes_none _ _ (h.resolve_left layout)]
      rfl

/-- A pool slot holds the step of the entry and the place that its number names. -/
theorem State.poolBytes_slot (s : State) (d : Fin 32) (j : Fin 24) :
    s.poolBytes (24 * d.val + j.val) = some s.directory[d].steps[j].bytes := by
  have entry : (24 * d.val + j.val) / 24 = d.val := by omega
  have place : (24 * d.val + j.val) % 24 = j.val := by omega
  unfold State.poolBytes State.poolSlot
  rw [entry, place, index?_val, Option.map_some, List.getD_eq_getElem _ _ (by simp), Vector.getElem_toList]
  rfl

theorem Station.bytes_eq (e : Station) : e.bytes = be8 e.role.code ++ be8 e.role.kilnCode
    ++ be8 (if e.side = .b then 1 else 0) ++ be8 e.classes.toNat ++ be8 (if e.notify = true then 1 else 0) := by
  unfold Station.bytes
  cases e.side <;> cases e.notify <;> rfl

theorem State.directoryBytes_eq (s : State) (d : Fin 32) : s.directoryBytes d =
    be8 (if s.directory[d].valid = true then 1 else 0) ++ be16 s.directory[d].generation ++ be8 s.directory[d].header.species
      ++ [s.directory[d].header.permit] ++ be8 s.directory[d].header.count ++ be8 s.directory[d].inUse
      ++ be8 (if ∃ e, s.staging = some e ∧ e.target = d then 1 else 0) := by
  have editing := s.editingOn_iff d
  have flag (b : Bool) : beBool b = be8 (if b = true then 1 else 0) := by cases b <;> rfl
  unfold State.directoryBytes
  simp only [flag, editing]

theorem layoutBytes_none : layoutBytes none = be8 255 ++ List.replicate 20 0 := rfl

/-- Settles O16: READ_ENTRY gives the bytes of the entry that its arguments name, table by table. -/
theorem readEntryShowsTheEntry : Obligations.ReadEntryShowsTheEntry := by
  unfold Obligations.ReadEntryShowsTheEntry
  intro s d p g a ready r shows limit
  have shown (table i : Nat) (data : List Byte) (layout : a.length = 3) (ht : u8 a 0 = table) (hi : u16 a 1 = i)
      (h : s.entryBytes table i = some data) : shows data :=
    exec_reply rfl ready (serveReadEntry_found r s data layout (by rw [← h, ← ht, ← hi]; rfl))
  refine ⟨fun h => exec_reply rfl ready (serveReadEntry_refused r s h), fun layout =>
    ⟨fun e ht hi => ?stations, fun i ht hi => ?species, fun k ht hi => ?limits, fun k ht hi => ?actions,
      fun i ht hi => ?directory, fun i j ht hi => ?pool, fun i ht hi => ?patterns, fun i ht hi => ?sort,
      fun i ht hi => ⟨fun none => ?closed, fun k isOpen => ?isOpen⟩, fun i ht hi => ⟨fun none => ?empty, fun f field => ?field⟩,
      fun ht hi => ?watchdog⟩⟩
  case stations =>
    refine shown 0 e.val _ layout ht hi ?_
    rw [State.entryBytes, index?_val, Option.map_some, Station.bytes_eq]
  case species => exact shown 1 i.val _ layout ht hi (by rw [State.entryBytes, index?_val, Option.map_some]; rfl)
  case limits => exact shown 2 k.val _ layout ht hi (by rw [State.entryBytes, index?_val, Option.map_some]; rfl)
  case actions => exact shown 3 k.val _ layout ht hi (by rw [State.entryBytes, index?_val, Option.map_some]; rfl)
  case directory =>
    refine shown 4 i.val _ layout ht hi ?_
    rw [State.entryBytes, index?_val, Option.map_some, State.directoryBytes_eq]
  case pool =>
    refine shown 5 _ _ layout ht hi ?_
    rw [State.entryBytes, State.poolBytes_slot]
    rfl
  case patterns => exact shown 6 i.val _ layout ht hi (by rw [State.entryBytes, index?_val, Option.map_some]; rfl)
  case sort => exact shown 7 i.val _ layout ht hi (by rw [State.entryBytes, index?_val, Option.map_some]; rfl)
  case closed =>
    refine shown 8 i.val _ layout ht hi ?_
    rw [State.entryBytes, index?_val, Option.map_some, Bin.bytes, none]
    rfl
  case isOpen =>
    refine shown 8 i.val _ layout ht hi ?_
    rw [State.entryBytes, index?_val, Option.map_some, Bin.bytes, isOpen]
    simp only [packBytes, List.append_assoc]
  case empty =>
    refine shown 9 i.val _ layout ht hi ?_
    rw [State.entryBytes, index?_val, Option.map_some, none, layoutBytes_none]
  case field =>
    refine shown 9 i.val _ layout ht hi ?_
    rw [State.entryBytes, index?_val, Option.map_some, field]
    rfl
  case watchdog => exact shown 10 0 _ layout ht hi rfl

/-! ### Replies and refusals (R24, R25, R28, R29) -/

/-- What an owner can answer: a refusal, a reading, an accepted request, a heartbeat, or an invalid step. -/
inductive Outcome (k : ReqKind) (s : State) : Served → Prop
  | refused (x : Result) (plain : x ≠ .ok ∧ x ≠ .okClamped ∧ x ≠ .tooEarly ∧ x ≠ .invalidStep) : Outcome k s (refuse s x)
  | shown (data : List Byte) : Outcome k s (okWith s data)
  | drew (n : Nat) (data : List Byte) : Outcome k s (okWith (s.drewFree n) data)
  | accepted (writes : k.cls = .read → k = .readCounters) (t : State) (data : List Byte) : Outcome k s (okWith t data)
  | clamped (writes : k.cls = .read → k = .readCounters) (c : Bool) (t : State) (data : List Byte) :
      Outcome k s (okClampedIf c t data)
  | beat (hk : k = .heartbeat) (t : State) (x : Result) (data : List Byte)
      (h : x = .ok ∨ x = .tooEarly ∨ x = .badArgument ∧ t = s) : Outcome k s ⟨t, x, data⟩
  | invalid (hk : k = .editCommit) (data : List Byte) : Outcome k s ⟨s, .invalidStep, data⟩

theorem State.bindRefusal_plain {s : State} {k : KilnId} {d : Fin 32} {g : Fin 16} {x : Result}
    (h : s.bindRefusal k d g = some x) : x ≠ .ok ∧ x ≠ .okClamped ∧ x ≠ .tooEarly ∧ x ≠ .invalidStep := by
  unfold State.bindRefusal at h
  dsimp only at h
  split_ifs at h
  all_goals
    obtain rfl := Option.some.inj h
    decide

theorem State.loadRefusal_plain {s : State} {d : Fin 32} {g : Fin 16} {args : List Byte} {x : Result}
    (h : s.loadRefusal d g args = some x) : x ≠ .ok ∧ x ≠ .okClamped ∧ x ≠ .tooEarly ∧ x ≠ .invalidStep := by
  unfold State.loadRefusal at h
  split_ifs at h
  all_goals
    obtain rfl := Option.some.inj h
    decide

theorem serve_outcome (k : ReqKind) (r : Request) (s : State) : Outcome k s (serve k r s) := by
  have plain {k : ReqKind} {x : Result}
      (h : x ≠ .ok ∧ x ≠ .okClamped ∧ x ≠ .tooEarly ∧ x ≠ .invalidStep := by decide) : Outcome k s (refuse s x) :=
    .refused x h
  have took {k : ReqKind} (t : State) (data : List Byte) (writes : k.cls = .read → k = .readCounters := by decide) :
      Outcome k s (okWith t data) := .accepted writes t data
  have fitted {k : ReqKind} (c : Bool) (t : State) (data : List Byte)
      (writes : k.cls = .read → k = .readCounters := by decide) : Outcome k s (okClampedIf c t data) :=
    .clamped writes c t data
  cases k
  case readKiln =>
    change Outcome _ s (serveReadKiln r s)
    fun_cases serveReadKiln r s
    case case2 =>
      split
      · exact .drew 5 _
      · exact .shown _
    case case3 | case4 => exact .shown _
    all_goals exact plain
  case readCharge =>
    change Outcome _ s (serveReadCharge r s)
    fun_cases serveReadCharge r s
    case case2 => exact .shown _
    all_goals exact plain
  case readPackLog =>
    change Outcome _ s (serveReadPackLog r s)
    fun_cases serveReadPackLog r s
    case case3 => exact .shown _
    all_goals exact plain
  case readLot =>
    change Outcome _ s (serveReadLot r s)
    fun_cases serveReadLot r s
    case case1 | case4 => exact .shown _
    all_goals exact plain
  case readEntry =>
    change Outcome _ s (serveReadEntry r s)
    fun_cases serveReadEntry r s
    case case2 => exact .shown _
    all_goals exact plain
  case readLine =>
    change Outcome _ s (serveReadLine r s)
    fun_cases serveReadLine r s
    case case2 | case3 | case5 => exact .shown _
    all_goals exact plain
  case readCounters =>
    change Outcome _ s (serveReadCounters r s)
    fun_cases serveReadCounters r s
    case case1 | case6 => exact plain
    all_goals exact took _ _
  case heartbeat =>
    change Outcome _ s (serveHeartbeat r s)
    fun_cases serveHeartbeat r s
    case case1 => exact .beat rfl _ _ _ (.inr (.inr ⟨rfl, rfl⟩))
    case case2 =>
      refine .beat rfl _ _ _ ?_
      split
      · exact .inr (.inl rfl)
      · exact .inl rfl
  case setClock =>
    change Outcome _ s (serveSetClock r s)
    fun_cases serveSetClock r s
    case case1 => exact plain
    case case2 => exact took _ _
  case loadCharge =>
    change Outcome _ s (serveLoadCharge r s)
    fun_cases serveLoadCharge r s
    case case5 h => exact plain (State.bindRefusal_plain h)
    case case6 h => exact plain (State.loadRefusal_plain h)
    case case8 => exact took _ _
    all_goals exact plain
  case startKiln =>
    change Outcome _ s (serveStartKiln r s)
    fun_cases serveStartKiln r s
    case case3 => exact took _ _
    all_goals exact plain
  case override =>
    change Outcome _ s (serveOverride r s)
    fun_cases serveOverride r s
    case case5 => exact fitted _ _ _
    all_goals exact plain
  case resume =>
    change Outcome _ s (serveResume r s)
    fun_cases serveResume r s
    case case5 => exact took _ _
    all_goals exact plain
  case stop =>
    change Outcome _ s (serveStop r s)
    fun_cases serveStop r s
    case case4 => exact took _ _
    all_goals exact plain
  case restart =>
    change Outcome _ s (serveRestart r s)
    fun_cases serveRestart r s
    case case5 => exact took _ _
    all_goals exact plain
  case unload =>
    change Outcome _ s (serveUnload r s)
    fun_cases serveUnload r s
    case case4 => exact took _ _
    all_goals exact plain
  case planerFeed =>
    change Outcome _ s (servePlanerFeed r s)
    fun_cases servePlanerFeed r s
    case case2 | case4 => exact took _ _
    all_goals exact plain
  case releaseCharge =>
    change Outcome _ s (serveReleaseCharge r s)
    fun_cases serveReleaseCharge r s
    case case6 => exact took _ _
    all_goals exact plain
  case closePack =>
    change Outcome _ s (serveClosePack r s)
    fun_cases serveClosePack r s
    case case4 => exact took _ _
    all_goals exact plain
  case lineReset =>
    change Outcome _ s (serveLineReset r s)
    fun_cases serveLineReset r s
    case case1 => exact plain
    case case2 => exact took _ _
  case editOpen =>
    change Outcome _ s (serveEditOpen r s)
    fun_cases serveEditOpen r s
    case case4 => exact took _ _
    all_goals exact plain
  case editHeader =>
    change Outcome _ s (serveEditHeader r s)
    fun_cases serveEditHeader r s
    case case3 => exact fitted _ _ _
    all_goals exact plain
  case editStep =>
    change Outcome _ s (serveEditStep r s)
    fun_cases serveEditStep r s
    case case3 => exact fitted _ _ _
    all_goals exact plain
  case editCommit =>
    change Outcome _ s (serveEditCommit r s)
    fun_cases serveEditCommit r s
    case case3 => exact .invalid rfl _
    case case4 => exact took _ _
    all_goals exact plain
  case editAbort =>
    change Outcome _ s (serveEditAbort r s)
    fun_cases serveEditAbort r s
    case case2 => exact took _ _
    all_goals exact plain
  case entryDelete =>
    change Outcome _ s (serveEntryDelete r s)
    fun_cases serveEntryDelete r s
    case case6 => exact took _ _
    all_goals exact plain
  case writeStation =>
    change Outcome _ s (serveWriteStation r s)
    fun_cases serveWriteStation r s
    case case5 => exact took _ _
    all_goals exact plain
  case writeSpecies =>
    change Outcome _ s (serveWriteSpecies r s)
    fun_cases serveWriteSpecies r s
    case case3 => exact fitted _ _ _
    all_goals exact plain
  case writeKilnLimits =>
    change Outcome _ s (serveWriteKilnLimits r s)
    fun_cases serveWriteKilnLimits r s
    case case4 => exact fitted _ _ _
    all_goals exact plain
  case writeFaultActions =>
    change Outcome _ s (serveWriteFaultActions r s)
    fun_cases serveWriteFaultActions r s
    case case2 => exact took _ _
    all_goals exact plain
  case writeWatchdog =>
    change Outcome _ s (serveWriteWatchdog r s)
    fun_cases serveWriteWatchdog r s
    case case1 => exact plain
    case case2 => exact fitted _ _ _
  case writeLine =>
    change Outcome _ s (serveWriteLine r s)
    fun_cases serveWriteLine r s
    case case4 => exact fitted _ _ _
    all_goals exact plain
  case writeMark =>
    change Outcome _ s (serveWriteMark r s)
    fun_cases serveWriteMark r s
    case case3 => exact took _ _
    all_goals exact plain
  case writeSort =>
    change Outcome _ s (serveWriteSort r s)
    fun_cases serveWriteSort r s
    case case3 => exact took _ _
    case case6 => exact fitted _ _ _
    all_goals exact plain
  case writeBin =>
    change Outcome _ s (serveWriteBin r s)
    fun_cases serveWriteBin r s
    case case2 => exact fitted _ _ _
    all_goals exact plain
  case writeLabelField =>
    change Outcome _ s (serveWriteLabelField r s)
    fun_cases serveWriteLabelField r s
    case case3 => exact took _ _
    case case6 i _ _ what _ =>
      fun_cases writeField i what r.args s
      case case4 => exact fitted _ _ _
      all_goals exact plain
    all_goals exact plain
  case setPackBase =>
    change Outcome _ s (serveSetPackBase r s)
    fun_cases serveSetPackBase r s
    case case3 => exact took _ _
    all_goals exact plain

theorem Outcome.unchanged {k : ReqKind} {s : State} {v : Served} (h : Outcome k s v) (ok : v.result ≠ .ok)
    (clamped : v.result ≠ .okClamped) (early : v.result ≠ .tooEarly) : v.st = s := by
  cases h with
  | clamped _ c t data => cases c <;> contradiction
  | beat _ t x data h =>
    rcases h with h | h | ⟨-, rfl⟩
    · exact absurd h ok
    · exact absurd h early
    · rfl
  | invalid => rfl
  | refused => rfl
  | shown => rfl
  | drew => exact absurd rfl ok
  | accepted => exact absurd rfl ok

theorem Outcome.data_eq_nil {k : ReqKind} {s : State} {v : Served} (h : Outcome k s v) (ok : v.result ≠ .ok)
    (clamped : v.result ≠ .okClamped) (invalid : v.result ≠ .invalidStep) (beat : k ≠ .heartbeat) : v.data = [] := by
  cases h with
  | clamped _ c t data => cases c <;> contradiction
  | beat hk => exact absurd hk beat
  | invalid => exact absurd rfl invalid
  | refused => rfl
  | shown => exact absurd rfl ok
  | drew => exact absurd rfl ok
  | accepted => exact absurd rfl ok

theorem Outcome.heartbeat_of_tooEarly {k : ReqKind} {s : State} {v : Served} (h : Outcome k s v)
    (early : v.result = .tooEarly) : k = .heartbeat := by
  cases h with
  | clamped _ c t data => cases c <;> exact nomatch early
  | beat hk => exact hk
  | refused x plain => exact absurd early plain.2.2.1
  | _ => exact nomatch early

theorem Outcome.editCommit_of_invalidStep {k : ReqKind} {s : State} {v : Served} (h : Outcome k s v)
    (invalid : v.result = .invalidStep) : k = .editCommit := by
  cases h with
  | clamped _ c t data => cases c <;> exact nomatch invalid
  | beat _ t x data h => rcases h with rfl | rfl | ⟨rfl, -⟩ <;> exact nomatch invalid
  | invalid hk => exact hk
  | refused x plain => exact absurd invalid plain.2.2.2
  | _ => exact nomatch invalid

/-- A read other than READ_COUNTERS draws free values at most. -/
theorem Outcome.read_leaves {k : ReqKind} {s : State} {v : Served} (h : Outcome k s v) (read : k.cls = .read)
    (other : k ≠ .readCounters) : { v.st with freeCount := s.freeCount } = s := by
  cases h with
  | accepted writes => exact absurd (writes read) other
  | clamped writes => exact absurd (writes read) other
  | beat hk => subst hk; exact nomatch read
  | invalid hk => subst hk; exact nomatch read
  | _ => rfl

/-- What is pending of the other classes does not depend on the reply slot. -/
theorem State.pendingOn_replySlot (s : State) (x : Option PendingReply) (p : PortId) {c : SourceClass} (h : c ≠ .reply) :
    { s with replySlot := x }.pendingOn p c = s.pendingOn p c := by
  cases c with
  | reply => exact absurd rfl h
  | _ => cases p <;> rfl

theorem State.replyPort_eq (s : State) (r : Request) :
    s.replyPort r = if s.stations[r.station].role = .supervisor then s.stations[r.station].side else r.port := by
  simp only [State.replyPort, s.isSupervisor_iff r.station]

theorem answer_placed (r : Request) (v : Served) (room : (v.st.port (v.st.replyPort r)).localQueue.length < 16)
    (free : ∀ c, c ≠ .reply → v.st.pendingOn (v.st.replyPort r) c = false) :
    answer r v = { v.st.modPort (v.st.replyPort r) (fun q => { q with localQueue := q.localQueue
        ++ [telegram (stationByte r.station) (stationByte v.st.own) kindReply v.st.sendCounter (replyPayload r v)] }) with
      sendCounter := v.st.sendCounter + 1, replySlot := none } := by
  have may : { v.st with replySlot := some ⟨v.st.replyPort r, r.station, replyPayload r v⟩ }.mayPlace
      (v.st.replyPort r) .reply = true := by
    refine (State.mayPlace_iff _ _ _).mpr ⟨?_, fun c hc => (State.pendingOn_replySlot v.st _ _ hc).trans (free c hc)⟩
    generalize v.st.replyPort r = p at room
    cases p <;> exact room
  unfold answer
  rw [State.produceReply_room _ _ rfl may]
  unfold State.placeReply State.place
  dsimp only
  generalize v.st.replyPort r = p
  cases p <;> rfl

theorem answer_waits (r : Request) (v : Served) (full : 16 ≤ (v.st.port (v.st.replyPort r)).localQueue.length
      ∨ ∃ c, c ≠ .reply ∧ v.st.pendingOn (v.st.replyPort r) c = true) :
    answer r v = { v.st with replySlot := some ⟨v.st.replyPort r, r.station, replyPayload r v⟩ } := by
  refine State.produceReply_waits _ _ rfl ((State.mayPlace_eq_false_iff _ _ _).mpr ?_)
  refine full.imp (fun long => ?_) (fun ⟨c, hc, pending⟩ => ⟨c, hc, (State.pendingOn_replySlot v.st _ _ hc).trans pending⟩)
  dsimp only
  generalize v.st.replyPort r = p at long
  cases p <;> exact long

/-- Settles O10: a reply is placed or waits by its slot's production, and each owner's answer is one of its outcomes. -/
theorem repliesArePlacedAndRefusalsChangeNothing : Obligations.RepliesArePlacedAndRefusalsChangeNothing := by
  unfold Obligations.RepliesArePlacedAndRefusalsChangeNothing
  refine ⟨fun r v => ?reply, ⟨fun k r s => ?refusal, fun r v => ⟨?length, rfl⟩⟩, rfl, fun x => ?code⟩
  case reply =>
    intro u p payload
    have port : u.replyPort r = p := u.replyPort_eq r
    refine ⟨fun room free => ?_, fun full => ?_⟩
    · rw [← port] at room free ⊢
      exact answer_placed r v room free
    · rw [← port] at full ⊢
      exact answer_waits r v full
  case refusal =>
    intro v
    have h : Outcome k s v := serve_outcome k r s
    exact ⟨h.unchanged, h.data_eq_nil, h.heartbeat_of_tooEarly, h.editCommit_of_invalidStep, h.read_leaves⟩
  case length =>
    simp only [replyPayload, be8, List.length_append, List.length_cons, List.length_nil]
  case code => cases x <;> decide

end Sys2Proof.Machine
end

section
/-! PROOFS. The layer that the statements on kiln units use: notices commute with what the units and their tables hold, a
report of a state can be read off the state after it, the record of a kiln's charge, and what a detection makes of a kiln. -/

namespace Sys2Proof.Machine

/-! ### What sending reads and writes -/

/-- What the notice and label row sources read and write, from `s`, amid everything else of `x`. -/
def State.amid (s x : State) : State :=
  { x with
    own := s.own, stations := s.stations, sendCounter := s.sendCounter, portA := s.portA, portB := s.portB
    replySlot := s.replySlot, notices := s.notices, dropCount := s.dropCount, supervision := s.supervision
    labels := s.labels }

/-- The part reduced to what the notice and label row sources read and write and the count of free values. -/
def State.sending (s : State) : State := s.amid { freeCount := s.freeCount }

theorem State.place_amid (p : PortId) (d : StationId) (kind : Byte) (y : List Byte) (s x : State) :
    (s.amid x).place p d kind y = (s.place p d kind y).amid x := by
  cases p <;> rfl

theorem State.mayPlace_amid (p : PortId) (c : SourceClass) (s x : State) : (s.amid x).mayPlace p c = s.mayPlace p c := by
  have pending : (s.amid x).pendingOn p = s.pendingOn p := by
    funext d
    cases d <;> cases p <;> rfl
  unfold State.mayPlace
  rw [pending]
  cases p <;> rfl

theorem State.placeNotice_amid (p : PortId) (s x : State) : (s.amid x).placeNotice p = (s.placeNotice p).amid x := by
  have notices : (s.amid x).notices = s.notices := rfl
  have station : (s.amid x).notifyStation = s.notifyStation := rfl
  unfold State.placeNotice
  rw [notices, station]
  cases s.notices with
  | nil => rfl
  | cons n rest =>
      cases s.notifyStation with
      | none => rfl
      | some d =>
          change ({ (s.amid x).place p d kindNotice (n.payload s.dropCount) with notices := rest, dropCount := 0 } : State) = _
          rw [State.place_amid]
          rfl

theorem produceNoticesFuel_amid (n : Nat) (s x : State) :
    produceNoticesFuel n (s.amid x) = (produceNoticesFuel n s).amid x := by
  induction n generalizing s with
  | zero => rfl
  | succ n ih =>
    have side : (s.amid x).sideOf? (s.amid x).notifyStation = s.sideOf? s.notifyStation := rfl
    have notices : (s.amid x).notices = s.notices := rfl
    unfold produceNoticesFuel
    rw [side, notices]
    cases s.sideOf? s.notifyStation with
    | none => rfl
    | some p =>
        change (if !s.notices.isEmpty && (s.amid x).mayPlace p .notice then _ else _)
          = (if !s.notices.isEmpty && s.mayPlace p .notice then _ else _ : State).amid x
        rw [State.mayPlace_amid, State.placeNotice_amid, ih, apply_ite (State.amid · x)]

theorem State.judgeNotice_amid (n : Notice) (s x : State) : (s.amid x).judgeNotice n = (s.judgeNotice n).amid x := by
  have notices : (s.amid x).notices = s.notices := rfl
  have station : (s.amid x).notifyStation = s.notifyStation := rfl
  unfold State.judgeNotice
  rw [notices, station]
  simp only [apply_ite (State.amid · x)]
  cases dropNewestInfo s.notices <;> rfl

theorem State.raise_amid (n : Notice) (s x : State) : (s.amid x).raise n = (s.raise n).amid x := by
  have same : ((s.judgeNotice n).amid x).notices = (s.judgeNotice n).notices := rfl
  unfold State.raise State.produceNotices
  rw [State.judgeNotice_amid, produceNoticesFuel_amid, same]

theorem State.raise_sending (n : Notice) (s : State) : (s.raise n).sending = s.sending.raise n := by
  have count : (s.raise n).freeCount = s.freeCount := State.raise_freeCount n s
  unfold State.sending
  rw [State.raise_amid, count]

/-- Raising does not depend on the count of free values. -/
theorem State.raise_freeCount_with (n : Notice) (s : State) (c : Nat) :
    ({ s with freeCount := c } : State).raise n = { s.raise n with freeCount := c } := by
  have whole : s.raise n = (s.raise n).amid s := State.raise_amid n s s
  refine (State.raise_amid n s { s with freeCount := c }).trans ?_
  rw [whole]
  rfl

/-- Parts that send alike raise alike. -/
theorem State.raise_sending_congr (n : Notice) {s t : State} (h : t.sending = s.sending) :
    (t.raise n).sending = (s.raise n).sending := by
  rw [State.raise_sending, State.raise_sending, h]

theorem State.modCharge_sending (n : Nat) (f : Charge → Charge) (s : State) : (s.modCharge n f).sending = s.sending := by
  fun_cases State.modCharge n f s <;> rfl

theorem State.modKilnCharge_sending (k : KilnId) (f : Charge → Charge) (s : State) :
    (s.modKilnCharge k f).sending = s.sending := by
  fun_cases State.modKilnCharge k f s
  case case1 => exact State.modCharge_sending _ f s
  case case2 => rfl

theorem State.unbindKiln_sending (k : KilnId) (s : State) : (s.unbindKiln k).sending = s.sending := by
  fun_cases State.unbindKiln k s <;> rfl

/-- A part that sends like another and differs from it in the kiln units' side only is that part with the units' side
replaced. -/
theorem State.eq_of_sending {t v : State} (sending : t.sending = v.sending) (aside : t.aside = v.aside) :
    t = { v with kilns := t.kilns, charges := t.charges, directory := t.directory } := by
  have first : t = v.amid t := (congrArg (fun u : State => u.amid t) sending :)
  have count : t.freeCount = v.freeCount := (congrArg State.freeCount sending :)
  have second : v.amid t = { v with
      kilns := t.kilns, charges := t.charges, directory := t.directory, freeCount := t.freeCount } :=
    (congrArg (fun u : State => v.amid { u with
      kilns := t.kilns, charges := t.charges, directory := t.directory, freeCount := t.freeCount }) aside :)
  rw [count] at second
  exact first.trans second

/-! ### Reports of a kiln's state (R97, R100, R101) -/

/-- A report repeats where the last-reported values are already those of the kiln. -/
theorem State.raiseStatus_again (k : KilnId) (s : State) : (s.modKiln k Kiln.markReported).raiseStatus k = s.raiseStatus k := by
  have twice (u : State) : (u.modKiln k Kiln.markReported).modKiln k Kiln.markReported = u.modKiln k Kiln.markReported := by
    unfold State.modKiln State.setKiln
    simp only [Vector.set_set]
    rw [show ({ u with kilns := u.kilns.set k (Kiln.markReported (u.kiln k)) } : State).kiln k = Kiln.markReported (u.kiln k)
      from State.kiln_setKiln_self k _ u]
    rfl
  have drew : (s.modKiln k Kiln.markReported).drewElapsed k = (s.drewElapsed k).modKiln k Kiln.markReported := by
    unfold State.drewElapsed
    rw [State.kiln_modKiln_self]
    change (if (s.kiln k).position.isSome then _ else _) = _
    split <;> rfl
  have bytes : (s.modKiln k Kiln.markReported).elapsedBytes k = s.elapsedBytes k := by
    unfold State.elapsedBytes
    rw [State.kiln_modKiln_self]
    rfl
  unfold State.raiseStatus
  rw [drew, twice, bytes, State.kiln_modKiln_self]
  rfl

theorem State.raiseStatus_sides (k : KilnId) (s : State) :
    (s.raiseStatus k).kilns = (s.modKiln k Kiln.markReported).kilns ∧ (s.raiseStatus k).charges = s.charges
      ∧ (s.raiseStatus k).directory = s.directory := by
  have drew (u : State) (h : u = s.drewElapsed k) : u.kilns = s.kilns ∧ u.charges = s.charges ∧ u.directory = s.directory := by
    subst h
    fun_cases State.drewElapsed k s <;> exact ⟨rfl, rfl, rfl⟩
  obtain ⟨kilns, charges, directory⟩ := drew _ rfl
  have raised := State.raise_inner
    { kind := .kilnStatus, kiln := some k, data := (s.kiln k).statusData k (s.elapsedBytes k) } ((s.drewElapsed k).modKiln k Kiln.markReported)
  refine ⟨(congrArg State.kilns raised :).trans ?_, (congrArg State.charges raised :).trans charges,
    (congrArg State.directory raised :).trans directory⟩
  unfold State.modKiln State.setKiln State.kiln
  rw [kilns]
  rfl

/-- A part that sends like `v`, once it has reported the state of a kiln: `v` with the units' side of the result, reporting. -/
theorem State.raiseStatus_eq {u v : State} (k : KilnId) (sending : u.sending = v.sending) (aside : u.aside = v.aside) :
    u.raiseStatus k = ({ v with
      kilns := (u.raiseStatus k).kilns, charges := (u.raiseStatus k).charges, directory := (u.raiseStatus k).directory } :
        State).raiseStatus k := by
  obtain ⟨kilns, charges, directory⟩ := State.raiseStatus_sides k u
  rw [kilns, charges, directory, ← State.raiseStatus_again]
  exact congrArg (State.raiseStatus k) (State.eq_of_sending (t := u.modKiln k Kiln.markReported) (v := v) sending aside)

/-- The same with the setpoint that follows, outside a kiln minute and inside one. -/
theorem State.announceState_eq {u v t : State} (k : KilnId) (m : Bool) (ht : t = u.announceState m k)
    (sending : u.sending = v.sending) (aside : u.aside = v.aside) :
    t = (({ v with
      kilns := t.kilns, charges := t.charges, directory := t.directory } : State).raiseStatus k).setpointOnChange m k := by
  have sides : t.kilns = (u.raiseStatus k).kilns ∧ t.charges = (u.raiseStatus k).charges
      ∧ t.directory = (u.raiseStatus k).directory := by
    rw [ht]
    unfold State.announceState State.setpointOnChange
    split
    · exact ⟨rfl, rfl, rfl⟩
    · have inner := State.produceSetpoint_inner k (u.raiseStatus k)
      exact ⟨(congrArg State.kilns inner :), (congrArg State.charges inner :), (congrArg State.directory inner :)⟩
  rw [sides.1, sides.2.1, sides.2.2, ← State.raiseStatus_eq k sending aside]
  exact ht

theorem State.announceState_sides (k : KilnId) (m : Bool) (s : State) :
    (s.announceState m k).charges = s.charges ∧ (s.announceState m k).directory = s.directory := by
  obtain ⟨-, charges, directory⟩ := State.raiseStatus_sides k s
  unfold State.announceState State.setpointOnChange
  split
  · exact ⟨charges, directory⟩
  · have inner := State.produceSetpoint_inner k (s.raiseStatus k)
    exact ⟨(congrArg State.charges inner :).trans charges, (congrArg State.directory inner :).trans directory⟩

/-! ### The record of a kiln's charge (R77, R136) -/

theorem State.findLive_of_ledger {s t : State} (h : ∀ j : Fin 48, t.charges[j].ledger = s.charges[j].ledger) (n : Nat) :
    t.findLive n = s.findLive n := by
  have same : t.charges.toList.findIdx? (fun c => c.number == n && c.state != .closed)
      = s.charges.toList.findIdx? (fun c => c.number == n && c.state != .closed) := by
    have by_ledger (l : List Charge) : l.findIdx? (fun c => c.number == n && c.state != .closed)
        = (l.map Charge.ledger).findIdx? (fun x => x.1 == n && !x.2.2.2) := by
      rw [List.findIdx?_map]
      rfl
    rw [by_ledger, by_ledger]
    congr 1
    refine List.ext_getElem (by simp) (fun i hi _ => ?_)
    simpa using h ⟨i, by simpa using hi⟩
  unfold State.findLive
  rw [same]

theorem State.charge?_eq_some_iff (s : State) (n : Nat) (c : Charge) :
    s.charge? n = some c ↔ ∃ i, s.findLive n = some i ∧ s.charges[i] = c := Option.map_eq_some_iff

theorem State.charge?_congr {s t : State} (h : t.charges = s.charges) (n : Nat) : t.charge? n = s.charge? n := by
  unfold State.charge? State.findLive
  rw [h]

/-- A change that keeps the ledger shows in the record of the number. -/
theorem State.modCharge_charge? {f : Charge → Charge} (keeps : Charge.KeepsLedger f) (n : Nat) (s : State) :
    (s.modCharge n f).charge? n = (s.charge? n).map f := by
  have found := State.findLive_of_ledger (State.modCharge_ledger keeps n s) n
  unfold State.charge?
  rw [found]
  cases live : s.findLive n with
  | none => rfl
  | some i => exact congrArg some ((State.modCharge_entry n f s i).trans (if_pos live))

theorem State.kilnCharge_congr {s t : State} {k : KilnId} (charge : (t.kiln k).charge = (s.kiln k).charge)
    (charges : t.charges = s.charges) : t.kilnCharge k = s.kilnCharge k := by
  unfold State.kilnCharge
  rw [charge]
  cases (s.kiln k).charge with
  | none => rfl
  | some n => exact State.charge?_congr charges n

theorem State.modKilnCharge_kilnCharge {f : Charge → Charge} (keeps : Charge.KeepsLedger f) (k : KilnId) (s : State) :
    (s.modKilnCharge k f).kilnCharge k = (s.kilnCharge k).map f := by
  unfold State.kilnCharge
  rw [State.modKilnCharge_kiln]
  unfold State.modKilnCharge
  split
  · exact State.modCharge_charge? keeps _ s
  · rfl

theorem State.chargeOf_eq {s : State} {k : KilnId} {c : Charge} (h : s.kilnCharge k = some c) : s.chargeOf k = c := by
  unfold State.chargeOf
  rw [h]
  rfl

theorem State.modKiln_kilnCharge (k : KilnId) (f : Kiln → Kiln) (s : State) (h : (f (s.kiln k)).charge = (s.kiln k).charge) :
    (s.modKiln k f).kilnCharge k = s.kilnCharge k :=
  State.kilnCharge_congr (by rw [State.kiln_modKiln_self, h]) rfl

theorem State.kilnCharge_of_inner {s t : State} (h : t.inner = s.inner) (k : KilnId) : t.kilnCharge k = s.kilnCharge k :=
  (congrArg (fun u => State.kilnCharge u k) h :)

theorem State.announceState_kilnCharge (k : KilnId) (m : Bool) (s : State) :
    (s.announceState m k).kilnCharge k = s.kilnCharge k :=
  State.kilnCharge_congr (by rw [State.announceState_self]; rfl) (State.announceState_sides k m s).1

end Sys2Proof.Machine
end

section
/-! PROOFS. The species table and the edit protocol (chapters 3 and 4), and WRITE_KILN_LIMITS (chapter 5): requests that write
clamped fields. -/

namespace Sys2Proof.Machine

/-! ### Clamped fields (R29) -/

theorem natField_clamped_eq_false (lo hi n : Nat) : (natField lo hi n).clamped = false ↔ (natField lo hi n).value = n :=
  bne_eq_false_iff_eq

theorem intField_clamped_eq_false (lo hi x : Int) : (intField lo hi x).clamped = false ↔ (intField lo hi x).value = x :=
  bne_eq_false_iff_eq

theorem natField_value (lo hi n : Nat) : (natField lo hi n).value = clampNat lo hi n := rfl

theorem intField_value (lo hi x : Int) : (intField lo hi x).value = clampInt lo hi x := rfl

/-- The result tells whether every field was taken as sent. -/
theorem okClampedIf_eq {c : Bool} {asSent : Prop} [Decidable asSent] (h : c = false ↔ asSent) (s : State) (data : List Byte) :
    okClampedIf c s data = ⟨s, if asSent then .ok else .okClamped, data⟩ := by
  unfold okClampedIf
  cases c with
  | false => rw [if_neg Bool.false_ne_true, if_pos (h.mp rfl)]
  | true => rw [if_pos rfl, if_neg (fun yes => Bool.noConfusion (h.mpr yes))]

theorem kilnArg?_none {args : List Byte} {i : Nat} (h : 15 < u8 args i) : kilnArg? args i = none := index?_of_le 16 _ h

theorem kilnArg?_some {args : List Byte} {i : Nat} {k : KilnId} (h : u8 args i = k.val) : kilnArg? args i = some k :=
  (kilnArg?_eq_some_iff args i k).mpr h

/-! ### WRITE_SPECIES and the corrections that follow it (R45, R50, R54) -/

theorem serveWriteSpecies_refused (r : Request) (s : State) (h : r.args.length ≠ 6 ∨ 15 < u8 r.args 0) :
    serveWriteSpecies r s = ⟨s, .badArgument, []⟩ := by
  unfold serveWriteSpecies
  split
  · rfl
  · next layout =>
      rw [index?_of_le 16 _ (h.resolve_left layout)]
      rfl

theorem serveWriteSpecies_writes (r : Request) (s : State) (i : Fin 16) (layout : r.args.length = 6) (hi : u8 r.args 0 = i.val) :
    serveWriteSpecies r s =
      let offset := max (-100) (min 100 (i16 r.args 1))
      let slope := max 512 (min 2048 (u16 r.args 3))
      let coefficient := min 40 (u8 r.args 5)
      ⟨{ s with species := s.species.set i ⟨offset, slope, coefficient⟩ },
        if offset = i16 r.args 1 ∧ slope = u16 r.args 3 ∧ coefficient = u8 r.args 5 then .ok else .okClamped, []⟩ := by
  have low : (natField 0 40 (u8 r.args 5)).value = min 40 (u8 r.args 5) := natField_zero_value _ _
  unfold serveWriteSpecies
  rw [if_neg (not_not.mpr layout), hi, index?_val]
  dsimp only
  rw [okClampedIf_eq (asSent := max (-100) (min 100 (i16 r.args 1)) = i16 r.args 1
    ∧ max 512 (min 2048 (u16 r.args 3)) = u16 r.args 3 ∧ min 40 (u8 r.args 5) = u8 r.args 5), low]
  · rfl
  · simp only [Bool.or_eq_false_iff, intField_clamped_eq_false, natField_clamped_eq_false, low, and_assoc]
    rfl

theorem State.testStatus_self (k : KilnId) (s : State) : (s.testStatus k).kiln k =
    if (s.kiln k).statusDue then (s.kiln k).markReported else s.kiln k := by
  unfold State.testStatus
  split
  · exact State.raiseStatus_self k s
  · rfl

theorem State.testStatus_field {α : Type} (field : Kiln → α) (keeps : ∀ q : Kiln, field q.markReported = field q) (k : KilnId)
    (s : State) : field ((s.testStatus k).kiln k) = field (s.kiln k) := by
  rw [State.testStatus_self]
  split
  · exact keeps _
  · rfl

theorem Kiln.takeProbe_channel (g : SpeciesGroup) (x : List Byte) (q : Kiln) (i : Fin 12) :
    (q.takeProbe g x).channels[i] = channelAfter g x q.mask (u8 x 0) i.val q.channels[i] :=
  Vector.getElem_mapFinIdx ..

theorem State.probeArrival_channel (s : State) (k : KilnId) (x : List Byte) (i : Fin 12) (h : (s.kiln k).state ≠ .idle) :
    ((s.probeArrival k x).kiln k).channels[i] =
      channelAfter (s.kilnGroup k) x (s.kiln k).mask (u8 x 0) i.val (s.kiln k).channels[i] := by
  unfold State.probeArrival
  rw [if_neg h, State.testStatus_field (fun q => q.channels[i]) (fun _ => rfl), State.kiln_modKiln_self]
  exact Kiln.takeProbe_channel _ x _ i

theorem State.kilnGroup_eq {s : State} {k : KilnId} {c : Charge} (h : s.kilnCharge k = some c) :
    s.kilnGroup k = s.species[c.species] := by
  unfold State.kilnGroup
  rw [h]

theorem State.boardGroup_eq {s : State} {b : Board} {c : Charge} (h : b.charge.bind s.charge? = some c) :
    s.boardGroup b = s.species[c.species] := by
  obtain ⟨n, number, record⟩ := Option.bind_eq_some_iff.mp h
  unfold State.boardGroup
  rw [number]
  dsimp only
  rw [record]

/-- Settles O17: the request by its fields; the corrections of an arrival and of a scan by the group they look up. -/
theorem writeSpeciesReplacesTheGroup : Obligations.WriteSpeciesReplacesTheGroup := by
  unfold Obligations.WriteSpeciesReplacesTheGroup
  refine ⟨rfl, fun s d p g a ready => ⟨fun h => ?_, fun i layout hi => ?_⟩, fun s k x c i busy bound below inMask => ?_,
    fun s x b c whole bound => ?_⟩
  · exact exec_reply rfl ready (serveWriteSpecies_refused _ s h)
  · exact exec_reply rfl ready (serveWriteSpecies_writes (requestFor .writeSpecies d p g a) s i layout hi)
  · rw [State.probeArrival_channel s k x i busy, State.kilnGroup_eq bound, channelAfter, inMask, decide_eq_true below]
    rfl
  · unfold State.pairBoard
    rw [whole, State.boardGroup_eq bound]
    rfl

/-! ### EDIT_OPEN, EDIT_HEADER and EDIT_STEP (R65 to R67) -/

theorem serveEditOpen_refused (r : Request) (s : State) (h : r.args.length ≠ 1 ∨ 31 < u8 r.args 0) :
    serveEditOpen r s = ⟨s, .badArgument, []⟩ := by
  unfold serveEditOpen
  split
  · rfl
  · next layout =>
      rw [index?_of_le 32 _ (h.resolve_left layout)]
      rfl

theorem serveEditOpen_busy (r : Request) (s : State) (i : Fin 32) (layout : r.args.length = 1) (hi : u8 r.args 0 = i.val)
    (busy : s.staging ≠ none) : serveEditOpen r s = ⟨s, .editBusy, []⟩ := by
  unfold serveEditOpen
  rw [if_neg (not_not.mpr layout), hi, index?_val]
  exact if_pos (Option.isSome_iff_ne_none.mpr busy)

theorem serveEditOpen_opens (r : Request) (s : State) (i : Fin 32) (layout : r.args.length = 1) (hi : u8 r.args 0 = i.val)
    (closed : s.staging = none) : serveEditOpen r s =
      ⟨{ s with staging := some { target := i, header := s.directory[i].header, steps := s.directory[i].steps, timer := 0 } }, .ok,
        be8 i.val ++ be16 s.directory[i].generation ++ be8 s.directory[i].header.count⟩ := by
  unfold serveEditOpen
  rw [if_neg (not_not.mpr layout), hi, index?_val, closed]
  rfl

/-- Settles O20: the request by its argument and the staging area. -/
theorem editOpenCopiesTheEntry : Obligations.EditOpenCopiesTheEntry := by
  unfold Obligations.EditOpenCopiesTheEntry
  refine fun s d p g a ready => ⟨fun h => ?_, fun i layout hi => ⟨fun busy => ?_, fun closed => ?_⟩⟩
  · exact exec_reply rfl ready (serveEditOpen_refused _ s h)
  · exact exec_reply rfl ready (serveEditOpen_busy _ s i layout hi busy)
  · exact exec_reply rfl ready (serveEditOpen_opens (requestFor .editOpen d p g a) s i layout hi closed)

theorem serveEditHeader_layout (r : Request) (s : State) (h : r.args.length ≠ 3) :
    serveEditHeader r s = ⟨s, .badArgument, []⟩ := if_pos h

theorem serveEditHeader_closed (r : Request) (s : State) (h : r.args.length = 3) (closed : s.staging = none) :
    serveEditHeader r s = ⟨s, .noEdit, []⟩ := by
  unfold serveEditHeader
  rw [if_neg (not_not.mpr h), closed]
  rfl

theorem speciesAllowed_iff (n : Nat) : speciesAllowed n = true ↔ n ≤ 15 ∨ n = 255 := by
  simp only [speciesAllowed, Bool.or_eq_true, decide_eq_true_iff, beq_iff_eq]
  omega

theorem serveEditHeader_refused (r : Request) (s : State) (e : Staging) (h : r.args.length = 3) (isOpen : s.staging = some e)
    (species : ¬ (u8 r.args 0 ≤ 15 ∨ u8 r.args 0 = 255)) : serveEditHeader r s = ⟨s, .badArgument, []⟩ := by
  unfold serveEditHeader
  rw [if_neg (not_not.mpr h), isOpen]
  exact if_neg (fun yes => species ((speciesAllowed_iff _).mp yes))

theorem serveEditHeader_writes (r : Request) (s : State) (e : Staging) (h : r.args.length = 3) (isOpen : s.staging = some e)
    (species : u8 r.args 0 ≤ 15 ∨ u8 r.args 0 = 255) : serveEditHeader r s =
      ⟨{ s with staging := some ⟨e.target, ⟨u8 r.args 0, r.args.getD 1 0, min 24 (u8 r.args 2)⟩, e.steps, 0⟩ },
        if u8 r.args 2 ≤ 24 then .ok else .okClamped, []⟩ := by
  have count : (natField 0 24 (u8 r.args 2)).value = min 24 (u8 r.args 2) := natField_zero_value _ _
  have permit : BitVec.ofNat 8 (u8 r.args 1) = r.args.getD 1 0 := BitVec.ofNat_toNat _ _ |>.trans (BitVec.setWidth_eq _)
  unfold serveEditHeader
  rw [if_neg (not_not.mpr h), isOpen]
  dsimp only
  rw [if_pos ((speciesAllowed_iff _).mpr species), okClampedIf_eq (asSent := u8 r.args 2 ≤ 24), count, permit]
  rw [natField_clamped_eq_false, count]
  omega

theorem ExitBasis.ofCode?_eq_some_iff (n : Nat) (x : ExitBasis) : ExitBasis.ofCode? n = some x ↔ n = x.code := by
  constructor
  · intro h
    unfold ExitBasis.ofCode? at h
    split at h <;> cases h <;> rfl
  · rintro rfl
    cases x <;> rfl

theorem ExitBasis.code_le (x : ExitBasis) : x.code ≤ 2 := by cases x <;> decide

theorem ExitBasis.ofCode?_none {n : Nat} (h : 2 < n) : ExitBasis.ofCode? n = none := by
  refine Option.eq_none_iff_forall_ne_some.mpr (fun x found => ?_)
  have := x.code_le
  rw [ExitBasis.ofCode?_eq_some_iff] at found
  omega

theorem serveEditStep_layout (r : Request) (s : State) (h : r.args.length ≠ 16) :
    serveEditStep r s = ⟨s, .badArgument, []⟩ := if_pos h

theorem serveEditStep_closed (r : Request) (s : State) (h : r.args.length = 16) (closed : s.staging = none) :
    serveEditStep r s = ⟨s, .noEdit, []⟩ := by
  unfold serveEditStep
  rw [if_neg (not_not.mpr h), closed]
  rfl

theorem serveEditStep_refused (r : Request) (s : State) (e : Staging) (h : r.args.length = 16) (isOpen : s.staging = some e)
    (wrong : 23 < u8 r.args 0 ∨ 2 < u8 r.args 7) : serveEditStep r s = ⟨s, .badArgument, []⟩ := by
  unfold serveEditStep
  rw [if_neg (not_not.mpr h), isOpen]
  dsimp only
  rcases wrong with place | code
  · rw [index?_of_le 24 _ place]
    rfl
  · rw [ExitBasis.ofCode?_none code]
    cases index? 24 (u8 r.args 0) <;> rfl

/-- The step that an EDIT_STEP's arguments give. -/
def Step.ofArgs (a : List Byte) (basis : ExitBasis) : Step where
  dry := max 0 (min 1300 (i16 a 1))
  depression := (min 300 (u16 a 3) : Nat)
  dryRate := max 1 (min 50 (u8 a 5))
  wetRate := max 1 (min 50 (u8 a 6))
  basis := basis
  exitMoisture := min 600 (u16 a 8)
  minDuration := min 10080 (u16 a 10)
  maxDuration := min 10080 (u16 a 12)
  fanInterval := min 720 (u16 a 14)

theorem serveEditStep_writes (r : Request) (s : State) (e : Staging) (j : Fin 24) (basis : ExitBasis)
    (h : r.args.length = 16) (isOpen : s.staging = some e) (hj : u8 r.args 0 = j.val) (hbasis : u8 r.args 7 = basis.code) :
    serveEditStep r s =
      let a := r.args
      let x := Step.ofArgs a basis
      ⟨{ s with staging := some ⟨e.target, e.header, e.steps.set j x, 0⟩ },
        if x.dry = i16 a 1 ∧ x.depression = u16 a 3 ∧ x.dryRate = u8 a 5 ∧ x.wetRate = u8 a 6
            ∧ x.exitMoisture = u16 a 8 ∧ x.minDuration = u16 a 10 ∧ x.maxDuration = u16 a 12
            ∧ x.fanInterval = u16 a 14
          then .ok else .okClamped, []⟩ := by
  have upTo (hi n : Nat) : (natField 0 hi n).value = min hi n := natField_zero_value _ _
  unfold serveEditStep
  rw [if_neg (not_not.mpr h), isOpen, hj, index?_val, (ExitBasis.ofCode?_eq_some_iff _ _).mpr hbasis]
  dsimp only
  rw [okClampedIf_eq (asSent := (Step.ofArgs r.args basis).dry = i16 r.args 1
    ∧ (Step.ofArgs r.args basis).depression = u16 r.args 3 ∧ (Step.ofArgs r.args basis).dryRate = u8 r.args 5
    ∧ (Step.ofArgs r.args basis).wetRate = u8 r.args 6 ∧ (Step.ofArgs r.args basis).exitMoisture = u16 r.args 8
    ∧ (Step.ofArgs r.args basis).minDuration = u16 r.args 10 ∧ (Step.ofArgs r.args basis).maxDuration = u16 r.args 12
    ∧ (Step.ofArgs r.args basis).fanInterval = u16 r.args 14)]
  · simp only [upTo]
    rfl
  · simp only [Bool.or_eq_false_iff, intField_clamped_eq_false, natField_clamped_eq_false, upTo, and_assoc, Step.ofArgs,
      Int.natCast_inj]
    rfl

/-- Settles O21: each of the two requests by its checks, then by its fields. -/
theorem editHeaderAndStepReplaceStagedContent : Obligations.EditHeaderAndStepReplaceStagedContent := by
  unfold Obligations.EditHeaderAndStepReplaceStagedContent
  refine fun s d p g a => ⟨fun ready => ⟨fun h => ?_, fun h closed => ?_, fun e h isOpen => ⟨fun far odd => ?_, fun fits => ?_⟩⟩,
    fun ready => ⟨fun h => ?_, fun h closed => ?_, fun e h isOpen => ⟨fun wrong => ?_, fun j basis hj hbasis => ?_⟩⟩⟩
  · exact exec_reply rfl ready (serveEditHeader_layout _ s h)
  · exact exec_reply rfl ready (serveEditHeader_closed _ s h closed)
  · exact exec_reply rfl ready (serveEditHeader_refused _ s e h isOpen (fun yes => yes.elim (Nat.not_le.mpr far) odd))
  · exact exec_reply rfl ready (serveEditHeader_writes (requestFor .editHeader d p g a) s e h isOpen fits)
  · exact exec_reply rfl ready (serveEditStep_layout _ s h)
  · exact exec_reply rfl ready (serveEditStep_closed _ s h closed)
  · exact exec_reply rfl ready (serveEditStep_refused _ s e h isOpen wrong)
  · exact exec_reply rfl ready (serveEditStep_writes (requestFor .editStep d p g a) s e j basis h isOpen hj hbasis)

/-! ### EDIT_ABORT and EDIT_EXPIRY (R68, R71) -/

theorem serveEditAbort_eq (r : Request) (s : State) : serveEditAbort r s =
    if r.args ≠ [] then ⟨s, .badArgument, []⟩
    else if s.staging = none then ⟨s, .noEdit, []⟩ else ⟨{ s with staging := none }, .ok, []⟩ := by
  unfold serveEditAbort
  cases s.staging <;> simp [refuse, okWith]

theorem u8_be8 {n : Nat} (h : n < 256) : u8 (be8 n) 0 = n := Nat.mod_eq_of_lt h

theorem State.expireEdit_open {s : State} {e : Staging} (h : s.staging = some e) :
    s.expireEdit = ({ s with staging := none } : State).raise ⟨.editExpired, none, be8 e.target.val⟩ := by
  unfold State.expireEdit
  rw [h]

theorem State.expireEdit_closed {s : State} (h : s.staging = none) : s.expireEdit = s := by
  unfold State.expireEdit
  rw [h]

/-- Settles O22: the request by its checks, the expiry by the staging area. -/
theorem editAbortAndExpiryDiscardTheEdit : Obligations.EditAbortAndExpiryDiscardTheEdit := by
  unfold Obligations.EditAbortAndExpiryDiscardTheEdit
  refine ⟨rfl, ⟨fun s d p g a ready => ⟨fun h => ?_, fun h closed => ?_, fun h isOpen => ?_⟩, fun s d p g i ready closed => ?_⟩,
    fun s => ⟨fun e isOpen => ?_, fun closed => ?_⟩⟩
  · exact exec_reply rfl ready ((serveEditAbort_eq _ s).trans (if_pos h))
  · exact exec_reply rfl ready ((serveEditAbort_eq _ s).trans ((if_neg (not_not.mpr h)).trans (if_pos closed)))
  · exact exec_reply rfl ready ((serveEditAbort_eq _ s).trans ((if_neg (not_not.mpr h)).trans (if_neg isOpen)))
  · have index : u8 (be8 i.val) 0 = i.val := u8_be8 (by omega)
    exact ⟨_, _, exec_reply rfl ready (serveEditOpen_opens (requestFor .editOpen d p g (be8 i.val)) s i rfl index closed)⟩
  · have runs : exec .editExpiry s = .next _ := congrArg Host.Outcome.next (State.expireEdit_open isOpen)
    have raised := State.raise_inner ⟨.editExpired, none, be8 e.target.val⟩ { s with staging := none }
    exact ⟨runs, _, runs, (congrArg State.staging raised :), (congrArg State.directory raised :)⟩
  · exact congrArg Host.Outcome.next (State.expireEdit_closed closed)

/-! ### WRITE_KILN_LIMITS (R79, R80) -/

/-- The limits that a WRITE_KILN_LIMITS's arguments give. -/
def Limits.ofArgs (a : List Byte) : Limits :=
  let dryMin := clampInt 0 1300 (i16 a 1)
  let dryMax := clampInt 0 1300 (i16 a 3)
  let safeDry := clampInt dryMin dryMax (i16 a 13)
  let idleDry := clampInt dryMin dryMax (i16 a 18)
  { dryMin := dryMin, dryMax := dryMax, plausLow := clampInt (-400) 1500 (i16 a 5), plausHigh := clampInt (-400) 1500 (i16 a 7)
    deviationBand := clampInt 5 300 (i16 a 9), deviationMinutes := clampNat 1 240 (u8 a 11)
    silenceMinutes := clampNat 1 60 (u8 a 12), safeDry := safeDry, safeWet := clampInt 0 safeDry (i16 a 15)
    safeRate := clampNat 1 50 (u8 a 17), idleDry := idleDry, idleWet := clampInt 0 idleDry (i16 a 20)
    group := min 7 (u8 a 22), tempDeadband := clampNat 1 100 (u8 a 23), moistDeadband := clampNat 1 100 (u8 a 24) }

/-- The limits stand as they were sent. -/
abbrev Limits.AsSent (x : Limits) (a : List Byte) : Prop :=
  x.dryMin = i16 a 1 ∧ x.dryMax = i16 a 3 ∧ x.plausLow = i16 a 5 ∧ x.plausHigh = i16 a 7
    ∧ x.deviationBand = i16 a 9 ∧ x.deviationMinutes = u8 a 11 ∧ x.silenceMinutes = u8 a 12 ∧ x.safeDry = i16 a 13
    ∧ x.safeWet = i16 a 15 ∧ x.safeRate = u8 a 17 ∧ x.idleDry = i16 a 18 ∧ x.idleWet = i16 a 20 ∧ x.group = u8 a 22
    ∧ x.tempDeadband = u8 a 23 ∧ x.moistDeadband = u8 a 24

theorem serveWriteKilnLimits_refused (r : Request) (s : State)
    (h : r.args.length ≠ 25 ∨ 15 < u8 r.args 0 ∨ max 0 (min 1300 (i16 r.args 3)) < max 0 (min 1300 (i16 r.args 1))
      ∨ max (-400) (min 1500 (i16 r.args 7)) < max (-400) (min 1500 (i16 r.args 5))) :
    serveWriteKilnLimits r s = ⟨s, .badArgument, []⟩ := by
  unfold serveWriteKilnLimits
  split
  · rfl
  · next layout =>
      rcases h.resolve_left layout with far | order
      · rw [kilnArg?_none far]
        rfl
      · split
        · rfl
        · exact if_pos order

/-- A value held into bounds that lie inside others is as sent where it is at the inner bounds. -/
theorem inside_both {lo hi low high x : Int} (h1 : low ≤ lo) (h2 : hi ≤ high) (h : lo ≤ hi) :
    (clampInt low high x = x ∧ clampInt lo hi (clampInt low high x) = clampInt low high x ↔ clampInt lo hi x = x)
      ∧ clampInt lo hi (clampInt low high x) = clampInt lo hi x := by
  unfold clampInt
  omega

theorem serveWriteKilnLimits_writes (r : Request) (s : State) (k : KilnId) (layout : r.args.length = 25)
    (hk : u8 r.args 0 = k.val) (dry : max 0 (min 1300 (i16 r.args 1)) ≤ max 0 (min 1300 (i16 r.args 3)))
    (plausible : max (-400) (min 1500 (i16 r.args 5)) ≤ max (-400) (min 1500 (i16 r.args 7))) (band : u16 r.args 9 < 32768) :
    serveWriteKilnLimits r s = ⟨s.modKiln k (Kiln.writeLimits (Limits.ofArgs r.args)),
      if (Limits.ofArgs r.args).AsSent r.args then .ok else .okClamped, []⟩ := by
  have upTo (hi n : Nat) : (natField 0 hi n).value = min hi n := natField_zero_value _ _
  have unsigned : bandArg (u16 r.args 9) = i16 r.args 9 := (if_pos band).trans (if_pos band).symm
  have bounds : (0 : Int) ≤ clampInt 0 1300 (i16 r.args 1) ∧ clampInt 0 1300 (i16 r.args 3) ≤ 1300 :=
    ⟨le_max_left _ _, max_le (by decide) (min_le_left _ _)⟩
  obtain ⟨safeAsSent, safe⟩ := inside_both (x := i16 r.args 13) bounds.1 bounds.2 dry
  obtain ⟨idleAsSent, idle⟩ := inside_both (x := i16 r.args 18) bounds.1 bounds.2 dry
  unfold serveWriteKilnLimits
  rw [if_neg (not_not.mpr layout), kilnArg?_some hk]
  refine (if_neg (not_or.mpr ⟨Int.not_lt.mpr dry, Int.not_lt.mpr plausible⟩)).trans ?_
  refine (okClampedIf_eq (asSent := (Limits.ofArgs r.args).AsSent r.args) ?_ _ _).trans ?_
  · rw [safe] at safeAsSent
    rw [idle] at idleAsSent
    simp only [Bool.or_eq_false_iff, intField_clamped_eq_false, natField_clamped_eq_false, upTo, unsigned, intField_value,
      natField_value, safe, idle, Limits.AsSent, Limits.ofArgs, ← safeAsSent, ← idleAsSent]
    refine ⟨fun ⟨⟨⟨⟨⟨⟨⟨⟨⟨⟨⟨⟨⟨⟨⟨⟨dMin, dMax⟩, pLow⟩, pHigh⟩, band⟩, dev⟩, sil⟩, sDry⟩, rate⟩, iDry⟩, group⟩, tBand⟩, mBand⟩, sDry2⟩,
        sWet⟩, iDry2⟩, iWet⟩ =>
        ⟨dMin, dMax, pLow, pHigh, band, dev, sil, ⟨sDry, sDry2⟩, sWet, rate, ⟨iDry, iDry2⟩, iWet, group, tBand, mBand⟩,
      fun ⟨dMin, dMax, pLow, pHigh, band, dev, sil, ⟨sDry, sDry2⟩, sWet, rate, ⟨iDry, iDry2⟩, iWet, group, tBand, mBand⟩ =>
        ⟨⟨⟨⟨⟨⟨⟨⟨⟨⟨⟨⟨⟨⟨⟨⟨dMin, dMax⟩, pLow⟩, pHigh⟩, band⟩, dev⟩, sil⟩, sDry⟩, rate⟩, iDry⟩, group⟩, tBand⟩, mBand⟩, sDry2⟩,
          sWet⟩, iDry2⟩, iWet⟩⟩
  · simp only [upTo, unsigned, intField_value, safe, idle]
    rfl

theorem Kiln.writeLimits_eq (x : Limits) (q : Kiln) :
    q.writeLimits x = { q with written := x, inUse := if q.state = .idle then x else q.inUse } := by
  unfold Kiln.writeLimits
  split <;> rfl

/-- Settles O25: the request by its checks, then by its fields. -/
theorem writeKilnLimitsReplacesTheRecord : Obligations.WriteKilnLimitsReplacesTheRecord := by
  unfold Obligations.WriteKilnLimitsReplacesTheRecord
  refine fun s d p g a ready => ⟨fun h => ?_, fun k layout hk dry plausible band => ?_⟩
  · exact exec_reply rfl ready (serveWriteKilnLimits_refused _ s h)
  · have written := serveWriteKilnLimits_writes (requestFor .writeKilnLimits d p g a) s k layout hk dry plausible band
    rw [State.modKiln, Kiln.writeLimits_eq] at written
    exact ⟨_, exec_reply rfl ready written, fun same => if_pos same, fun other => if_neg other⟩

end Sys2Proof.Machine
end

section
/-! PROOFS. What a kiln unit shows (chapter 5): the bytes of absent figures, indicators and latches, and READ_KILN's pages. -/

namespace Sys2Proof.Machine

/-! ### Figures and flags as bytes (R101, R103) -/

theorem beTemp_eq (x : Option Int) : beTemp x = x.elim [0x80, 0x00] beI16 := by cases x <;> rfl

theorem beMoisture_eq (x : Option Nat) : beMoisture x = x.elim [0xFF, 0xFF] be16 := by cases x <;> rfl

theorem beByteOr255_eq (x : Option Nat) : beByteOr255 x = x.elim [0xFF] be8 := by cases x <;> rfl

theorem beBool_eq (b : Bool) : beBool b = be8 (if b = true then 1 else 0) := by cases b <;> rfl

theorem Kiln.estimateClamped_eq (q : Kiln) : q.estimateClamped = (q.estimate.map Estimate.clamped).getD false := by
  unfold Kiln.estimateClamped
  cases q.estimate <;> rfl

theorem Kiln.indicators_eq (q : Kiln) : q.indicators =
    (if q.ramping = true then 1 else 0) + (if q.limited = true then 2 else 0)
      + (if (q.estimate.map Estimate.clamped).getD false = true then 4 else 0)
      + (if (q.fan == .reverse) = true then 8 else 0) + (if (q.verdict == some .bad) = true then 16 else 0) := by
  simp only [Kiln.indicators, Kiln.estimateClamped_eq, beq_iff_eq]

/-- The sum over the four kinds, term by term. -/
theorem FaultKind.sum_bits (f : FaultKind → Bool) : (FaultKind.all.map (fun x => if f x = true then x.bit else 0)).sum =
    (if f .silent = true then 1 else 0) + (if f .range = true then 2 else 0) + (if f .deviation = true then 4 else 0)
      + (if f .supervisor = true then 8 else 0) := by
  simp only [FaultKind.all, List.map_cons, List.map_nil, List.sum_cons, List.sum_nil, FaultKind.bit, Nat.add_zero,
    Nat.add_assoc]

theorem Kiln.latchByte_eq (q : Kiln) : q.latchByte =
    (if q.latches.silent.isSome = true then 1 else 0) + (if q.latches.range.isSome = true then 2 else 0)
      + (if q.latches.deviation.isSome = true then 4 else 0) + (if q.latches.supervisor.isSome = true then 8 else 0) :=
  FaultKind.sum_bits (fun f => (q.latches.get f).isSome)

theorem Kiln.reportedByte_eq (q : Kiln) : q.reportedByte =
    (if q.reported.silent = true then 1 else 0) + (if q.reported.range = true then 2 else 0)
      + (if q.reported.deviation = true then 4 else 0) + (if q.reported.supervisor = true then 8 else 0) :=
  FaultKind.sum_bits q.reported.get

theorem KilnState.code_busy (x : KilnState) (h : x ≠ .idle) : x.code =
    if x = .loaded then 1 else if x = .running then 2 else if x = .held then 3 else if x = .stopped then 4 else 5 := by
  cases x with
  | idle => exact absurd rfl h
  | _ => rfl

/-! ### Page 0 -/

/-- The bytes of page 0 from the targets on. -/
def Kiln.figures (q : Kiln) : List Byte :=
  beTemp (q.targets.map TempPair.dry) ++ beTemp (q.targets.map TempPair.wet)
    ++ beTemp (q.setpoints.map TempPair.dry) ++ beTemp (q.setpoints.map TempPair.wet)
    ++ be8 q.indicators ++ beTemp (q.lastGood.map TempPair.dry) ++ beTemp (q.lastGood.map TempPair.wet)
    ++ [q.climateStatus.getD 255] ++ beMoisture (q.estimate.map Estimate.value) ++ beMoisture q.wettest
    ++ be8 q.silence ++ be8 q.countdown ++ be8 q.stack.length ++ be8 q.latchByte
    ++ beByteOr255 (q.timer.map (min 59))

theorem State.kilnPage_eq (s : State) (k : KilnId) : s.kilnPage k =
    be8 (s.kiln k).state.code ++ be16 ((s.kiln k).charge.getD 0) ++ s.bindingBytes k ++ (s.kiln k).indexByte ++ s.elapsedBytes k
      ++ (s.kiln k).figures := by
  unfold State.kilnPage Kiln.figures
  simp only [List.append_assoc]

theorem State.bindingBytes_bound {s : State} {k : KilnId} {c : Charge} (h : s.kilnCharge k = some c) :
    s.bindingBytes k = be8 c.entry.val ++ be16 c.generation ++ be8 (if c.follow = true then 1 else 0) := by
  unfold State.bindingBytes
  rw [h]
  simp only [beBool_eq]

theorem State.elapsedBytes_some {s : State} {k : KilnId} {x : StepPosition} (h : (s.kiln k).position = some x) :
    s.elapsedBytes k = be16 x.elapsed := by
  unfold State.elapsedBytes
  rw [h]

theorem Kiln.indexByte_some {q : Kiln} {x : StepPosition} (h : q.position = some x) : q.indexByte = be8 x.index := by
  unfold Kiln.indexByte
  rw [h]
  rfl

theorem Kiln.elapsedReply_some {q : Kiln} {x : StepPosition} (h : q.position = some x) : q.elapsedReply = be16 x.elapsed := by
  unfold Kiln.elapsedReply
  rw [h]
  rfl

/-- The free bytes of a page 0 without a charge. -/
theorem State.freeBytes_five (s : State) : (s.freeBytes 5).drop 2 =
    [Config.freeByte (s.freeCount + 2), Config.freeByte (s.freeCount + 3), Config.freeByte (s.freeCount + 4)] := rfl

theorem State.freeBytes_two (s : State) : s.freeBytes 2 = [Config.freeByte s.freeCount, Config.freeByte (s.freeCount + 1)] := rfl

/-! ### Pages 1 and 2 -/

theorem MoistureFlag.code_eq (x : MoistureFlag) : x.code = if x = .clamped then 1 else if x = .overRange then 2 else 0 := by
  cases x <;> rfl

theorem channelBytes_eq (c : Option Channel) : channelBytes c =
    (c.map Channel.value).elim [0xFF, 0xFF] be16
      ++ be8 ((c.map (fun x => if x.flag = .clamped then 1 else if x.flag = .overRange then 2 else 0)).getD 0)
      ++ (c.map Channel.age).elim [0xFF] be8 := by
  cases c with
  | none => rfl
  | some x =>
      simp only [channelBytes, MoistureFlag.code_eq]
      rfl

theorem FaultAction.code_eq (x : FaultAction) :
    x.code = if x = .none then 0 else if x = .hold then 1 else if x = .safe then 2 else 3 := by
  cases x <;> rfl

theorem FaultKind.code_eq (x : FaultKind) :
    x.code = if x = .silent then 0 else if x = .range then 1 else if x = .deviation then 2 else 3 := by
  cases x <;> rfl

/-- The bit of a slot, written as the flag of its stamp. -/
theorem slotSetBit_eq (b : List HoldEntry) (i : Nat) :
    slotSetBit b i = if ((b[i]?).map (fun e => e.stamp.isSet)).getD false = true then 2 ^ i else 0 := by
  unfold slotSetBit
  cases b[i]? <;> rfl

/-- A slot of the hold page, its codes spelled out. -/
def HoldEntry.shown : Option HoldEntry → List Byte
  | some ⟨.override dry wet dryRate wetRate, stamp⟩ =>
    [1] ++ beI16 dry ++ beI16 wet ++ be8 dryRate ++ be8 wetRate ++ be32 stamp.value.toNat
  | some ⟨.fault f action, stamp⟩ =>
    [2] ++ be16 (if f = .silent then 0 else if f = .range then 1 else if f = .deviation then 2 else 3)
      ++ be16 (if action = .none then 0 else if action = .hold then 1 else if action = .safe then 2 else 3) ++ [0, 0]
      ++ be32 stamp.value.toNat
  | some ⟨.schedule, stamp⟩ => [3, 0, 0, 0, 0, 0, 0] ++ be32 stamp.value.toNat
  | none => [0, 0, 0, 0, 0, 0, 0, 0, 0, 0, 0]

theorem slotBytes_eq (b : List HoldEntry) (i : Nat) : slotBytes b i = HoldEntry.shown b[i]? := by
  unfold slotBytes
  match b[i]? with
  | none => rfl
  | some ⟨.override _ _ _ _, _⟩ => rfl
  | some ⟨.schedule, _⟩ => rfl
  | some ⟨.fault f a, _⟩ =>
      simp only [HoldEntry.slot, HoldEntry.shown, FaultKind.code_eq, FaultAction.code_eq, List.append_assoc]
      rfl

/-- Page 2, slot by slot and kind by kind. -/
theorem Kiln.holdPage_eq (q : Kiln) : q.holdPage =
    let bit (b : Bool) (n : Nat) : Nat := if b = true then n else 0
    let slot (i : Nat) : List Byte := HoldEntry.shown q.stack.reverse[i]?
    let setAt (i : Nat) : Bool := ((q.stack.reverse[i]?).map (fun e => e.stamp.isSet)).getD false
    let latch (a : Option FaultAction) : List Byte := latchActionByte a
    be8 q.stack.length ++ slot 0 ++ slot 1 ++ slot 2 ++ slot 3
      ++ be8 (bit (setAt 0) 1 + bit (setAt 1) 2 + bit (setAt 2) 4 + bit (setAt 3) 8)
      ++ latch q.latches.silent ++ latch q.latches.range ++ latch q.latches.deviation ++ latch q.latches.supervisor
      ++ be8 (bit q.reported.silent 1 + bit q.reported.range 2 + bit q.reported.deviation 4
        + bit q.reported.supervisor 8 + bit q.entryPending 128) := by
  simp only [Kiln.holdPage, Kiln.reportedByte_eq, List.length_reverse, List.range_succ, List.range_zero, List.nil_append,
    List.flatMap_append, List.flatMap_cons, List.flatMap_nil, List.map_append, List.map_cons, List.map_nil, List.sum_append,
    List.sum_cons, List.sum_nil, slotBytes_eq, slotSetBit_eq, FaultKind.all, PerFault.get, List.append_assoc, List.append_nil,
    Nat.add_zero, Nat.add_assoc, Nat.reducePow]

theorem latchActionByte_eq (a : Option FaultAction) : latchActionByte a =
    (a.map (fun x => if x = .none then 0 else if x = .hold then 1 else if x = .safe then 2 else 3)).elim [0xFF] be8 := by
  cases a with
  | none => rfl
  | some x => exact congrArg be8 (FaultAction.code_eq x)

/-! ### READ_KILN by its page (R103, R123) -/

theorem serveReadKiln_refused (r : Request) (s : State) (h : r.args.length ≠ 2 ∨ 15 < u8 r.args 0 ∨ 2 < u8 r.args 1) :
    serveReadKiln r s = ⟨s, .badArgument, []⟩ := by
  unfold serveReadKiln
  split
  · rfl
  · next layout =>
      rcases h.resolve_left layout with far | page
      · rw [kilnArg?_none far]
        rfl
      · split
        case h_4 => rfl
        all_goals omega

theorem serveReadKiln_page0 (r : Request) (s : State) (k : KilnId) (layout : r.args.length = 2) (hk : u8 r.args 0 = k.val)
    (page : u8 r.args 1 = 0) :
    serveReadKiln r s = ⟨if (s.kiln k).state = .idle then s.drewFree 5 else s, .ok, s.kilnPage k⟩ := by
  unfold serveReadKiln
  rw [if_neg (not_not.mpr layout), kilnArg?_some hk, page]
  rfl

theorem serveReadKiln_page1 (r : Request) (s : State) (k : KilnId) (layout : r.args.length = 2) (hk : u8 r.args 0 = k.val)
    (page : u8 r.args 1 = 1) : serveReadKiln r s = ⟨s, .ok, (s.kiln k).probePage⟩ := by
  unfold serveReadKiln
  rw [if_neg (not_not.mpr layout), kilnArg?_some hk, page]
  rfl

theorem serveReadKiln_page2 (r : Request) (s : State) (k : KilnId) (layout : r.args.length = 2) (hk : u8 r.args 0 = k.val)
    (page : u8 r.args 1 = 2) : serveReadKiln r s = ⟨s, .ok, (s.kiln k).holdPage⟩ := by
  unfold serveReadKiln
  rw [if_neg (not_not.mpr layout), kilnArg?_some hk, page]
  rfl

theorem State.kilnCharge_of_number {s : State} {k : KilnId} {n : Nat} (number : (s.kiln k).charge = some n) :
    s.kilnCharge k = s.charge? n := by
  unfold State.kilnCharge
  rw [number]

/-- Settles O33: the request by its page, each page by its bytes. -/
theorem readKilnShowsItsPages : Obligations.ReadKilnShowsItsPages := by
  unfold Obligations.ReadKilnShowsItsPages
  intro s d p g a ready
  refine ⟨fun h => exec_reply rfl ready (serveReadKiln_refused _ s h), fun k layout hk => ⟨fun n c x page busy number record pos =>
    ?bound, fun page idle number pos => ?idle, fun page => ?probes, fun page => ?holds⟩⟩
  case bound =>
    refine exec_reply rfl ready ((serveReadKiln_page0 _ s k layout hk page).trans ?_)
    rw [if_neg busy, State.kilnPage_eq, State.bindingBytes_bound ((State.kilnCharge_of_number number).trans record),
      State.elapsedBytes_some pos, Kiln.indexByte_some pos, KilnState.code_busy _ busy, number, Option.getD_some]
    unfold Kiln.figures
    simp only [beTemp_eq, beMoisture_eq, beByteOr255_eq, Kiln.indicators_eq, Kiln.latchByte_eq, List.append_assoc]
  case idle =>
    refine ⟨Config.freeByte (s.freeCount + 2), Config.freeByte (s.freeCount + 3), Config.freeByte (s.freeCount + 4),
      Config.freeByte s.freeCount, Config.freeByte (s.freeCount + 1),
      exec_reply rfl ready ((serveReadKiln_page0 _ s k layout hk page).trans ?_)⟩
    have unbound : s.bindingBytes k = be8 255 ++ (s.freeBytes 5).drop 2 := by
      unfold State.bindingBytes State.kilnCharge
      rw [number]
    have elapsed : s.elapsedBytes k = s.freeBytes 2 := by
      unfold State.elapsedBytes
      rw [pos]
    rw [if_pos idle, State.kilnPage_eq, unbound, elapsed, idle, number, Kiln.indexByte, pos, State.freeBytes_five,
      State.freeBytes_two]
    unfold Kiln.figures
    simp only [beTemp_eq, beMoisture_eq, beByteOr255_eq, Kiln.indicators_eq, Kiln.latchByte_eq, List.append_assoc]
    rfl
  case probes =>
    refine exec_reply rfl ready ((serveReadKiln_page1 _ s k layout hk page).trans ?_)
    simp only [Kiln.probePage, funext channelBytes_eq]
  case holds =>
    refine exec_reply rfl ready ((serveReadKiln_page2 _ s k layout hk page).trans ?_)
    rw [Kiln.holdPage_eq]
    simp only [latchActionByte_eq]
    rfl

end Sys2Proof.Machine
end

section
/-! PROOFS. Operations of a kiln unit that end with its reports (chapters 5 and 6): STOP, OVERRIDE, UNLOAD, and the arrivals. -/

namespace Sys2Proof.Machine

/-! ### Parts that differ in the kiln units' side only -/

/-- Two parts that differ in kiln units, charge records and directory at most. -/
structure State.Alike (u v : State) : Prop where
  sending : u.sending = v.sending
  aside : u.aside = v.aside

theorem State.Alike.refl (s : State) : s.Alike s := ⟨rfl, rfl⟩

theorem State.Alike.trans {u v w : State} (h : u.Alike v) (g : v.Alike w) : u.Alike w :=
  ⟨h.sending.trans g.sending, h.aside.trans g.aside⟩

theorem State.Alike.modKiln {u v : State} (h : u.Alike v) (k : KilnId) (f : Kiln → Kiln) : (u.modKiln k f).Alike v := ⟨h.1, h.2⟩

theorem State.Alike.modKilnCharge {u v : State} (h : u.Alike v) (k : KilnId) (f : Charge → Charge) :
    (u.modKilnCharge k f).Alike v :=
  ⟨(State.modKilnCharge_sending k f u).trans h.1, (State.modKilnCharge_aside k f u).trans h.2⟩

theorem State.Alike.unbindKiln {u v : State} (h : u.Alike v) (k : KilnId) : (u.unbindKiln k).Alike v :=
  ⟨(State.unbindKiln_sending k u).trans h.1, (State.unbindKiln_aside k u).trans h.2⟩

theorem State.Alike.raise {u v : State} (h : u.Alike v) (n : Notice) : (u.raise n).Alike (v.raise n) :=
  ⟨State.raise_sending_congr n h.1, (State.raise_aside n u).trans (h.2.trans (State.raise_aside n v).symm)⟩

theorem State.Alike.eq {u v : State} (h : u.Alike v) :
    u = { v with kilns := u.kilns, charges := u.charges, directory := u.directory } := State.eq_of_sending h.1 h.2

theorem State.Alike.eq_kilns {u v : State} (h : u.Alike v) (charges : u.charges = v.charges)
    (directory : u.directory = v.directory) : u = { v with kilns := u.kilns } := by
  have start := h.eq
  rwa [charges, directory] at start

/-- A report of a part: a report of the like part with the result's units. -/
theorem State.Alike.announced {u v t : State} (h : u.Alike v) {m : Bool} {k : KilnId} (ht : t = u.announceState m k) :
    t = ({ v with kilns := t.kilns, charges := t.charges, directory := t.directory } : State).announceState m k :=
  State.announceState_eq k m ht h.1 h.2

/-- The same where charge records and directory stay. -/
theorem State.Alike.announced_kilns {u v t : State} (h : u.Alike v) {m : Bool} {k : KilnId} (ht : t = u.announceState m k)
    (charges : u.charges = v.charges) (directory : u.directory = v.directory) :
    t = ({ v with kilns := t.kilns } : State).announceState m k := by
  have sides := State.announceState_sides k m u
  have start := h.announced ht
  rw [ht, sides.1, sides.2, charges, directory, ← ht] at start
  exact start

/-- The same where the directory stays. -/
theorem State.Alike.announced_charges {u v t : State} (h : u.Alike v) {m : Bool} {k : KilnId} (ht : t = u.announceState m k)
    (directory : u.directory = v.directory) :
    t = ({ v with kilns := t.kilns, charges := t.charges } : State).announceState m k := by
  have sides := State.announceState_sides k m u
  have same : t.directory = v.directory := by rw [ht, sides.2, directory]
  have start := h.announced ht
  rw [same] at start
  exact start

theorem State.announceState_outside (k : KilnId) (s : State) : s.announceState false k = (s.raiseStatus k).produceSetpoint k := by
  unfold State.announceState State.setpointOnChange
  exact if_neg Bool.false_ne_true

theorem State.announceState_inside (k : KilnId) (s : State) : s.announceState true k = s.raiseStatus k := by
  unfold State.announceState State.setpointOnChange
  exact if_pos rfl

theorem State.modKilnCharge_directory (k : KilnId) (f : Charge → Charge) (s : State) :
    (s.modKilnCharge k f).directory = s.directory := by
  unfold State.modKilnCharge State.modCharge
  split
  · split <;> rfl
  · rfl

/-! ### STOP (R98, R119) -/

/-- What is raised when a kiln is stopped. -/
def Kiln.stopNotice (q : Kiln) (cause : StopCause) (k : KilnId) : Notice where
  kind := .kilnStopped
  data := be8 k.val ++ be16 (q.charge.getD 0) ++ cause.bytes ++ q.indexByte ++ q.elapsedReply

theorem Kiln.stopNotice_some {q : Kiln} {x : StepPosition} (h : q.position = some x) {cause : StopCause} {code kind : Nat}
    (bytes : cause.bytes = be8 code ++ be8 kind) (k : KilnId) :
    q.stopNotice cause k = ⟨.kilnStopped, none, be8 k.val ++ be16 (q.charge.getD 0) ++ be8 code ++ be8 kind ++ be8 x.index
      ++ be16 x.elapsed⟩ := by
  unfold Kiln.stopNotice
  rw [Kiln.indexByte_some h, Kiln.elapsedReply_some h, bytes]
  simp only [List.append_assoc]

/-- A stop of a part like `v`: KILN_STOPPED, then the reports; charges and directory stay. -/
theorem State.Alike.stopKiln {s v t : State} (h : s.Alike v) {m : Bool} {cause : StopCause} {k : KilnId}
    (ht : t = s.stopKiln m cause k) (charges : s.charges = v.charges) (directory : s.directory = v.directory) :
    t = ({ v.raise ((s.kiln k).stopNotice cause k) with kilns := t.kilns } : State).announceState m k :=
  ((h.modKiln k _).raise _).announced_kilns ht
    ((State.raise_charges _ _).trans (charges.trans (State.raise_charges _ _).symm))
    ((State.raise_directory _ _).trans (directory.trans (State.raise_directory _ _).symm))

theorem State.stopKiln_sides (m : Bool) (cause : StopCause) (k : KilnId) (s : State) :
    (s.stopKiln m cause k).charges = s.charges ∧ (s.stopKiln m cause k).directory = s.directory := by
  obtain ⟨charges, directory⟩ := State.announceState_sides k m _
  exact ⟨charges.trans (State.raise_charges _ _), directory.trans (State.raise_directory _ _)⟩

theorem serveStop_refused (r : Request) (s : State) (h : r.args.length ≠ 1 ∨ 15 < u8 r.args 0) :
    serveStop r s = ⟨s, .badArgument, []⟩ := by
  unfold serveStop
  split
  · rfl
  · next layout =>
      rw [kilnArg?_none (h.resolve_left layout)]
      rfl

theorem serveStop_state (r : Request) (s : State) (k : KilnId) (layout : r.args.length = 1) (hk : u8 r.args 0 = k.val)
    (running : (s.kiln k).state ≠ .running) (held : (s.kiln k).state ≠ .held) : serveStop r s = ⟨s, .wrongState, []⟩ := by
  unfold serveStop
  rw [if_neg (not_not.mpr layout), kilnArg?_some hk]
  exact if_pos ⟨running, held⟩

theorem serveStop_stops (r : Request) (s : State) (k : KilnId) (layout : r.args.length = 1) (hk : u8 r.args 0 = k.val)
    (busy : (s.kiln k).state = .running ∨ (s.kiln k).state = .held) :
    serveStop r s = ⟨s.stopKiln false .request k, .ok, (s.kiln k).indexByte ++ (s.kiln k).elapsedReply⟩ := by
  unfold serveStop
  rw [if_neg (not_not.mpr layout), kilnArg?_some hk]
  exact if_neg (fun ⟨running, held⟩ => busy.elim running held)

/-- Settles O36: the request by its checks; what a stop leaves of the kiln, and what it raises. -/
theorem stopKeepsTheContext : Obligations.StopKeepsTheContext := by
  unfold Obligations.StopKeepsTheContext
  refine fun s d p g a ready => ⟨fun h => exec_reply rfl ready (serveStop_refused _ s h), fun k layout hk =>
    ⟨fun running held => exec_reply rfl ready (serveStop_state _ s k layout hk running held), fun i e busy pos => ?_⟩⟩
  have self := State.stopKiln_self false .request k s
  have sides := State.stopKiln_sides false .request k s
  have reports := (State.Alike.refl s).stopKiln (k := k) (m := false) (cause := .request) rfl rfl rfl
  rw [Kiln.stopNotice_some pos (cause := .request) rfl, State.announceState_outside] at reports
  refine ⟨s.stopKiln false .request k, exec_reply rfl ready ((serveStop_stops _ s k layout hk busy).trans ?_), self, sides.1, sides.2,
    fun j hj => State.stopKiln_other false .request k s j hj, ?_, fun now hnow => ?_⟩
  · rw [Kiln.indexByte_some pos, Kiln.elapsedReply_some pos]
  · exact reports
  · unfold Kiln.setpointPayload
    rw [self]
    change (match KilnState.setpointMode .stopped, (s.kiln k).setpoints with
      | some mode, some sp => some (be8 k.val ++ be8 mode ++ beI16 sp.dry ++ beI16 sp.wet ++ be8 (s.kiln k).fan.code)
      | _, _ => none) = _
    rw [hnow]
    rfl

/-! ### Pushes (R104) and OVERRIDE (R106) -/

theorem State.stackEntry_kilnCharge (e : HoldKind) (k : KilnId) (s : State) :
    (s.stackEntry e k).kilnCharge k = (s.kilnCharge k).map Charge.countPush := by
  unfold State.stackEntry
  rw [State.modKilnCharge_kilnCharge Charge.keepsLedger_countPush, State.modKiln_kilnCharge k _ s rfl]

theorem State.Alike.stackEntry {u v : State} (h : u.Alike v) (e : HoldKind) (k : KilnId) : (u.stackEntry e k).Alike v :=
  (h.modKiln k _).modKilnCharge k _

theorem State.stackEntry_directory (e : HoldKind) (k : KilnId) (s : State) : (s.stackEntry e k).directory = s.directory :=
  State.modKilnCharge_directory k _ _

theorem State.pushHold_kilnCharge (m : Bool) (e : HoldKind) (k : KilnId) (s : State) :
    (s.pushHold m e k).kilnCharge k = (s.kilnCharge k).map Charge.countPush := by
  unfold State.pushHold
  dsimp only
  split
  · rw [State.announceState_kilnCharge, State.stackEntry_kilnCharge]
  · exact State.stackEntry_kilnCharge e k s

theorem State.pushHold_self (m : Bool) (e : HoldKind) (k : KilnId) (s : State) : (s.pushHold m e k).kiln k =
    if (s.kiln k).state = .running then ((s.kiln k).pushed ⟨e, s.stamp⟩).markReported else (s.kiln k).pushed ⟨e, s.stamp⟩ := by
  unfold State.pushHold
  dsimp only
  split
  · rw [State.announceState_self, State.stackEntry_self]
  · exact State.stackEntry_self e k s

/-- What a report leaves shows in a pushed kiln as well. -/
theorem State.pushHold_field {α : Type} (field : Kiln → α) (keeps : ∀ q : Kiln, field q.markReported = field q) (m : Bool)
    (e : HoldKind) (k : KilnId) (s : State) :
    field ((s.pushHold m e k).kiln k) = field ((s.kiln k).pushed ⟨e, s.stamp⟩) := by
  rw [State.pushHold_self]
  split
  · exact keeps _
  · rfl

/-- A push on a part like `v`: from HELD nothing is raised, from RUNNING the change of state is reported. -/
theorem State.Alike.pushHold {s v t : State} (h : s.Alike v) {m : Bool} {e : HoldKind} {k : KilnId} (ht : t = s.pushHold m e k)
    (directory : s.directory = v.directory) :
    ((s.kiln k).state = .held → t = { v with kilns := t.kilns, charges := t.charges })
      ∧ ((s.kiln k).state = .running → t = ({ v with kilns := t.kilns, charges := t.charges } : State).announceState m k) := by
  have alike := h.stackEntry e k
  have same := (State.stackEntry_directory e k s).trans directory
  refine ⟨fun held => ?_, fun running => ?_⟩
  · have pushed : t = s.stackEntry e k :=
      ht.trans (if_neg (fun running => nomatch (held.symm.trans running : KilnState.held = KilnState.running)))
    have start := alike.eq
    rw [← pushed, show t.directory = v.directory by rw [pushed, same]] at start
    exact start
  · have pushed : t = (s.stackEntry e k).announceState m k := ht.trans (if_pos running)
    exact alike.announced_charges pushed same

theorem serveOverride_refused (r : Request) (s : State) (h : r.args.length ≠ 7 ∨ 15 < u8 r.args 0) :
    serveOverride r s = ⟨s, .badArgument, []⟩ := by
  unfold serveOverride
  split
  · rfl
  · next layout =>
      rw [kilnArg?_none (h.resolve_left layout)]
      rfl

theorem serveOverride_state (r : Request) (s : State) (k : KilnId) (layout : r.args.length = 7) (hk : u8 r.args 0 = k.val)
    (running : (s.kiln k).state ≠ .running) (held : (s.kiln k).state ≠ .held) : serveOverride r s = ⟨s, .wrongState, []⟩ := by
  unfold serveOverride
  rw [if_neg (not_not.mpr layout), kilnArg?_some hk]
  exact if_pos ⟨running, held⟩

theorem serveOverride_full (r : Request) (s : State) (k : KilnId) (layout : r.args.length = 7) (hk : u8 r.args 0 = k.val)
    (busy : (s.kiln k).state = .running ∨ (s.kiln k).state = .held) (full : 4 ≤ (s.kiln k).stack.length) :
    serveOverride r s = ⟨s, .stackFull, []⟩ := by
  unfold serveOverride
  rw [if_neg (not_not.mpr layout), kilnArg?_some hk]
  exact (if_neg (fun ⟨running, held⟩ => busy.elim running held)).trans (if_pos full)

theorem serveOverride_pushes (r : Request) (s : State) (k : KilnId) (layout : r.args.length = 7) (hk : u8 r.args 0 = k.val)
    (busy : (s.kiln k).state = .running ∨ (s.kiln k).state = .held) (room : (s.kiln k).stack.length < 4) :
    serveOverride r s =
      let dry := max (s.kiln k).inUse.dryMin (min (s.kiln k).inUse.dryMax (i16 r.args 1))
      let wet := max 0 (min dry (i16 r.args 3))
      let dryRate := max 1 (min 50 (u8 r.args 5))
      let wetRate := max 1 (min 50 (u8 r.args 6))
      ⟨s.pushHold false (.override dry wet dryRate wetRate) k,
        if dry = i16 r.args 1 ∧ wet = i16 r.args 3 ∧ dryRate = u8 r.args 5 ∧ wetRate = u8 r.args 6 then .ok else .okClamped,
        be8 ((s.kiln k).stack.length + 1)⟩ := by
  have depth (e : HoldKind) : ((s.pushHold false e k).kiln k).stack.length = (s.kiln k).stack.length + 1 :=
    congrArg List.length (State.pushHold_field Kiln.stack (fun _ => rfl) false e k s)
  unfold serveOverride
  rw [if_neg (not_not.mpr layout), kilnArg?_some hk]
  refine ((if_neg (fun ⟨running, held⟩ => busy.elim running held)).trans (if_neg (Nat.not_le.mpr room))).trans ?_
  dsimp only
  rw [depth]
  refine okClampedIf_eq ?_ _ _
  simp only [Bool.or_eq_false_iff, intField_clamped_eq_false, natField_clamped_eq_false, and_assoc]
  rfl

/-- Settles O34: the request by its checks, the push by the state it meets. -/
theorem overridePushesAnEntry : Obligations.OverridePushesAnEntry := by
  unfold Obligations.OverridePushesAnEntry
  refine fun s d p g a ready => ⟨fun h => exec_reply rfl ready (serveOverride_refused _ s h), fun k layout hk =>
    ⟨fun running held => exec_reply rfl ready (serveOverride_state _ s k layout hk running held),
      fun busy full => exec_reply rfl ready (serveOverride_full _ s k layout hk busy full),
      fun c busy room bound => ?_⟩⟩
  have served := serveOverride_pushes (requestFor .override d p g a) s k layout hk busy room
  simp only [requestFor_args] at served
  dsimp only
  generalize hkind : HoldKind.override _ _ _ _ = kind at served ⊢
  have field {α : Type} (f : Kiln → α) (keeps : ∀ q : Kiln, f q.markReported = f q) :=
    State.pushHold_field f keeps false kind k s
  have reports := (State.Alike.refl s).pushHold (m := false) (e := kind) (k := k) rfl rfl
  rw [State.announceState_outside] at reports
  refine ⟨s.pushHold false kind k, _, exec_reply rfl ready served,
    fun same => if_pos same, fun other => if_neg other, field Kiln.stack (fun _ => rfl), field Kiln.state (fun _ => rfl), ?_,
    field Kiln.setpoints (fun _ => rfl), field Kiln.position (fun _ => rfl), field Kiln.stepCopy (fun _ => rfl),
    field Kiln.latches (fun _ => rfl), (field Kiln.entryPending (fun _ => rfl)).trans ?_,
    fun j hj => State.pushHold_other false kind k s j hj, reports⟩
  · rw [State.pushHold_kilnCharge, bound]
    rfl
  · subst hkind
    exact Bool.or_false _

/-! ### UNLOAD (R62, R102) -/

/-- The kilns whose setpoints wait, on each port. -/
def State.waiting (s : State) : List KilnId × List KilnId := (s.portA.setpointWaiting, s.portB.setpointWaiting)

theorem State.placeNotice_waiting (p : PortId) (s : State) : (s.placeNotice p).waiting = s.waiting := by
  fun_cases State.placeNotice p s
  case case1 => cases p <;> rfl
  case case2 => rfl

theorem produceNoticesFuel_waiting (n : Nat) (s : State) : (produceNoticesFuel n s).waiting = s.waiting := by
  fun_induction produceNoticesFuel n s
  case case3 _ s p _ _ ih => exact ih.trans (State.placeNotice_waiting p s)
  all_goals rfl

theorem State.raise_waiting (n : Notice) (s : State) : (s.raise n).waiting = s.waiting := by
  have judged : (s.judgeNotice n).waiting = s.waiting := by
    fun_cases State.judgeNotice n s <;> rfl
  exact (produceNoticesFuel_waiting _ _).trans judged

theorem State.raiseStatus_waiting (k : KilnId) (s : State) : (s.raiseStatus k).waiting = s.waiting := by
  have drew : (s.drewElapsed k).waiting = s.waiting := by
    fun_cases State.drewElapsed k s <;> rfl
  exact (State.raise_waiting _ _).trans drew

theorem State.withdrawSetpoint_waiting (k : KilnId) (s : State) :
    k ∉ (s.withdrawSetpoint k).waiting.1 ∧ k ∉ (s.withdrawSetpoint k).waiting.2 :=
  ⟨fun h => bne_iff_ne.mp (List.mem_filter.mp h).2 rfl, fun h => bne_iff_ne.mp (List.mem_filter.mp h).2 rfl⟩

theorem State.Alike.withdrawSetpoint {u v : State} (h : u.Alike v) (k : KilnId) :
    (u.withdrawSetpoint k).Alike (v.withdrawSetpoint k) := by
  have amid (s : State) : (s.withdrawSetpoint k).sending = s.sending.withdrawSetpoint k := rfl
  refine ⟨?_, (State.withdrawSetpoint_aside k u).trans (h.2.trans (State.withdrawSetpoint_aside k v).symm)⟩
  rw [amid, amid, h.1]

theorem State.Alike.releaseEntry {u v : State} (h : u.Alike v) (k : KilnId) : (u.releaseEntry k).Alike v := by
  unfold State.releaseEntry
  split
  · exact h
  · exact h.unbindKiln k

theorem State.releaseEntry_charges (k : KilnId) (s : State) : (s.releaseEntry k).charges = s.charges := by
  unfold State.releaseEntry State.unbindKiln
  split
  · rfl
  · split <;> rfl

theorem State.releaseEntry_kilns (k : KilnId) (s : State) : (s.releaseEntry k).kilns = s.kilns := by
  unfold State.releaseEntry State.unbindKiln
  split
  · rfl
  · split <;> rfl

theorem State.releaseEntry_directory {s : State} {k : KilnId} {c : Charge} (h : s.kilnCharge k = some c) :
    (s.releaseEntry k).directory = if (s.kiln k).state = .done then s.directory
      else s.directory.set c.entry { s.directory[c.entry] with inUse := s.directory[c.entry].inUse - 1 } := by
  unfold State.releaseEntry State.unbindKiln
  split
  · rfl
  · rw [h]
    rfl

theorem State.Alike.raiseStatus {u v t : State} (h : u.Alike v) {k : KilnId} (ht : t = u.raiseStatus k) :
    t = ({ v with kilns := t.kilns, charges := t.charges, directory := t.directory } : State).raiseStatus k := by
  have start := h.announced (t := t) (m := true) (k := k) (ht.trans (State.announceState_inside k u).symm)
  rwa [State.announceState_inside] at start

theorem Charge.keepsLedger_stored (reason : EndReason) :
    Charge.KeepsLedger (fun c => { c with state := .stored, endReason := some reason }) :=
  Charge.keepsLedger_of_state (x := .stored) (by decide) (by decide) fun _ => rfl

/-- The records and the directory after an unload. -/
theorem State.unloadKiln_sides {s : State} {k : KilnId} {n : Nat} {c : Charge} (reason : EndReason)
    (number : (s.kiln k).charge = some n) (record : s.charge? n = some c) :
    (s.unloadKiln k reason).charge? n = some { c with state := .stored, endReason := some reason }
      ∧ (s.unloadKiln k reason).directory = if (s.kiln k).state = .done then s.directory
        else s.directory.set c.entry { s.directory[c.entry] with inUse := s.directory[c.entry].inUse - 1 } := by
  have bound : s.kilnCharge k = some c := (State.kilnCharge_of_number number).trans record
  obtain ⟨-, charges, directory⟩ := State.raiseStatus_sides k (((((s.releaseEntry k).modKilnCharge k
    (fun c => { c with state := .stored, endReason := some reason })).modKiln k Kiln.unload).withdrawSetpoint k))
  have released : (s.releaseEntry k).modKilnCharge k (fun c => { c with state := .stored, endReason := some reason })
      = (s.releaseEntry k).modCharge n (fun c => { c with state := .stored, endReason := some reason }) := by
    unfold State.modKilnCharge
    rw [State.kiln_congr (State.releaseEntry_kilns k s), number]
  refine ⟨?_, ?_⟩
  · refine (State.charge?_congr (charges.trans (State.withdrawSetpoint_charges k _)) n).trans ?_
    change ((s.releaseEntry k).modKilnCharge k _).charge? n = _
    rw [released, State.modCharge_charge? (Charge.keepsLedger_stored reason),
      State.charge?_congr (State.releaseEntry_charges k s), record]
    rfl
  · refine (directory.trans (State.withdrawSetpoint_directory k _)).trans ?_
    refine Eq.trans ?_ (State.releaseEntry_directory bound)
    exact State.modKilnCharge_directory k _ _

/-- An unload: a KILN_STATUS of the part without the kiln's waiting setpoint. -/
theorem State.unloadKiln_reports (k : KilnId) (reason : EndReason) (s : State) :
    s.unloadKiln k reason = ({ s.withdrawSetpoint k with
      kilns := (s.unloadKiln k reason).kilns, charges := (s.unloadKiln k reason).charges
      directory := (s.unloadKiln k reason).directory } : State).raiseStatus k :=
  State.Alike.raiseStatus (((((State.Alike.refl s).releaseEntry k).modKilnCharge k _).modKiln k _).withdrawSetpoint k) rfl

theorem State.unloadKiln_waiting (k : KilnId) (reason : EndReason) (s : State) :
    k ∉ (s.unloadKiln k reason).portA.setpointWaiting ∧ k ∉ (s.unloadKiln k reason).portB.setpointWaiting := by
  have withdrawn (u : State) : k ∉ ((u.withdrawSetpoint k).raiseStatus k).waiting.1
      ∧ k ∉ ((u.withdrawSetpoint k).raiseStatus k).waiting.2 := by
    rw [State.raiseStatus_waiting]
    exact State.withdrawSetpoint_waiting k u
  unfold State.unloadKiln
  exact withdrawn _

theorem KilnState.unloadReason_eq (x : KilnState) (reason : EndReason) : x.unloadReason = some reason ↔
    (x = .loaded ∧ reason = .notDried) ∨ (x = .stopped ∧ reason = .stopped) ∨ (x = .done ∧ reason = .complete) := by
  cases x <;> cases reason <;> decide

theorem serveUnload_refused (r : Request) (s : State) (h : r.args.length ≠ 1 ∨ 15 < u8 r.args 0) :
    serveUnload r s = ⟨s, .badArgument, []⟩ := by
  unfold serveUnload
  split
  · rfl
  · next layout =>
      rw [kilnArg?_none (h.resolve_left layout)]
      rfl

theorem serveUnload_state (r : Request) (s : State) (k : KilnId) (layout : r.args.length = 1) (hk : u8 r.args 0 = k.val)
    (busy : (s.kiln k).state = .idle ∨ (s.kiln k).state = .running ∨ (s.kiln k).state = .held) :
    serveUnload r s = ⟨s, .wrongState, []⟩ := by
  unfold serveUnload
  rw [if_neg (not_not.mpr layout), kilnArg?_some hk]
  dsimp only
  rcases busy with h | h | h <;> rw [h] <;> rfl

theorem serveUnload_unloads (r : Request) (s : State) (k : KilnId) (reason : EndReason) (layout : r.args.length = 1)
    (hk : u8 r.args 0 = k.val) (h : (s.kiln k).state.unloadReason = some reason) :
    serveUnload r s = ⟨s.unloadKiln k reason, .ok, be16 ((s.kiln k).charge.getD 0) ++ be8 reason.code⟩ := by
  unfold serveUnload
  rw [if_neg (not_not.mpr layout), kilnArg?_some hk]
  dsimp only
  rw [h]
  rfl

/-- Settles O32: the request by the kiln's state; the record, the directory, the kiln and the report of an unload. -/
theorem unloadEmptiesTheKiln : Obligations.UnloadEmptiesTheKiln := by
  unfold Obligations.UnloadEmptiesTheKiln
  refine fun s d p g a ready => ⟨fun h => exec_reply rfl ready (serveUnload_refused _ s h), fun k layout hk =>
    ⟨fun busy => exec_reply rfl ready (serveUnload_state _ s k layout hk busy), fun n c reason number record cause => ?_⟩⟩
  have served := serveUnload_unloads (requestFor .unload d p g a) s k reason layout hk
    ((KilnState.unloadReason_eq _ _).mpr cause)
  rw [number] at served
  obtain ⟨stored, directory⟩ := State.unloadKiln_sides reason number record
  obtain ⟨waitsA, waitsB⟩ := State.unloadKiln_waiting k reason s
  exact ⟨_, exec_reply rfl ready served, stored, directory, State.unloadKiln_self k reason s,
    fun j hj => State.unloadKiln_other k reason s j hj, waitsA, waitsB, State.unloadKiln_reports k reason s⟩

end Sys2Proof.Machine
end

section
/-! PROOFS. Detections (chapter 6): what a detection makes of its kiln, case by case (R113, R114, R116), and what it raises. -/

namespace Sys2Proof.Machine

/-! ### One value per fault kind -/

@[simp] theorem PerFault.get_set_self {α : Type} (t : PerFault α) (f : FaultKind) (x : α) : (t.set f x).get f = x := by
  cases f <;> rfl

theorem PerFault.get_set_other {α : Type} (t : PerFault α) {f h : FaultKind} (ne : h ≠ f) (x : α) :
    (t.set f x).get h = t.get h := by
  cases f <;> cases h
  case silent.silent | range.range | deviation.deviation | supervisor.supervisor => exact absurd rfl ne
  all_goals rfl

/-! ### A latch set and reported (R114) -/

/-- The part with a latch set and FAULT_RAISED raised. -/
def State.latchFault (f : FaultKind) (a : FaultAction) (escalated : Bool) (depth : Nat) (k : KilnId) (s : State) : State :=
  (s.modKiln k (Kiln.latch f a)).raise
    { kind := .faultRaised, data := raisedData k f (be8 a.code) escalated (s.kiln k) depth }

theorem State.latchFault_self (f : FaultKind) (a : FaultAction) (e : Bool) (n : Nat) (k : KilnId) (s : State) :
    (s.latchFault f a e n k).kiln k = (s.kiln k).latch f a := by
  simp [State.latchFault]

theorem State.latchFault_charges (f : FaultKind) (a : FaultAction) (e : Bool) (n : Nat) (k : KilnId) (s : State) :
    (s.latchFault f a e n k).charges = s.charges := State.raise_charges _ _

theorem State.latchFault_directory (f : FaultKind) (a : FaultAction) (e : Bool) (n : Nat) (k : KilnId) (s : State) :
    (s.latchFault f a e n k).directory = s.directory := State.raise_directory _ _

theorem State.latchFault_stamp (f : FaultKind) (a : FaultAction) (e : Bool) (n : Nat) (k : KilnId) (s : State) :
    (s.latchFault f a e n k).stamp = s.stamp := by
  simp [State.latchFault, State.stamp]

theorem State.latchFault_kilnCharge (f : FaultKind) (a : FaultAction) (e : Bool) (n : Nat) (k : KilnId) (s : State) :
    (s.latchFault f a e n k).kilnCharge k = s.kilnCharge k :=
  State.kilnCharge_congr (by rw [State.latchFault_self]; rfl) (State.latchFault_charges f a e n k s)

/-- What has been raised when a latch is set. -/
def State.faultTold (f : FaultKind) (action : Nat) (escalated : Bool) (depth : Nat) (k : KilnId) (s : State) : State :=
  s.raise { kind := .faultRaised, data := raisedData k f (be8 action) escalated (s.kiln k) depth }

theorem State.latchFault_alike (f : FaultKind) (a : FaultAction) (e : Bool) (n : Nat) (k : KilnId) (s : State) :
    (s.latchFault f a e n k).Alike (s.faultTold f a.code e n k) := ((State.Alike.refl s).modKiln k _).raise _

theorem State.faultTold_charges (f : FaultKind) (a : Nat) (e : Bool) (n : Nat) (k : KilnId) (s : State) :
    (s.faultTold f a e n k).charges = s.charges := State.raise_charges _ _

theorem State.faultTold_directory (f : FaultKind) (a : Nat) (e : Bool) (n : Nat) (k : KilnId) (s : State) :
    (s.faultTold f a e n k).directory = s.directory := State.raise_directory _ _

/-- The data of FAULT_RAISED with its codes spelled out. -/
theorem raisedData_eq (k : KilnId) (f : FaultKind) (action : Nat) (escalated : Bool) {q : Kiln} (busy : q.state ≠ .idle)
    (depth : Nat) : raisedData k f (be8 action) escalated q depth =
      be8 k.val ++ be8 (if f = .silent then 0 else if f = .range then 1 else if f = .deviation then 2 else 3) ++ be8 action
        ++ be8 (if escalated = true then 1 else 0)
        ++ be8 (if q.state = .loaded then 1 else if q.state = .running then 2 else if q.state = .held then 3
          else if q.state = .stopped then 4 else 5)
        ++ be16 (q.charge.getD 0) ++ be8 depth := by
  unfold raisedData
  rw [FaultKind.code_eq, beBool_eq, KilnState.code_busy _ busy]

/-! ### The action of a detection (R116) -/

theorem Kiln.escalates_eq (a : FaultAction) (q : Kiln) :
    q.escalates a = ((a == .hold || a == .safe) && decide (4 ≤ q.stack.length)) := rfl

theorem State.takeFault_latches (f : FaultKind) (m : Bool) (k : KilnId) (s : State) (h : (s.kiln k).actions.get f = .none) :
    s.takeFault m f k = s.latchFault f .none false (s.kiln k).stack.length k := by
  unfold State.takeFault Kiln.actionTaken
  dsimp only
  rw [h]
  rfl

theorem State.takeFault_pushes (f : FaultKind) (m : Bool) (k : KilnId) (s : State) {a : FaultAction}
    (h : (s.kiln k).actions.get f = a) (pushes : a = .hold ∨ a = .safe) (room : (s.kiln k).stack.length < 4) :
    s.takeFault m f k = (s.latchFault f a false ((s.kiln k).stack.length + 1) k).pushHold m (.fault f a) k := by
  have fits : (s.kiln k).escalates a = false := by
    rw [Kiln.escalates_eq, decide_eq_false (Nat.not_le.mpr room), Bool.and_false]
  unfold State.takeFault Kiln.actionTaken
  dsimp only
  rw [h, fits, if_neg Bool.false_ne_true]
  rcases pushes with rfl | rfl <;> rfl

theorem State.takeFault_stops (f : FaultKind) (m : Bool) (k : KilnId) (s : State) {a : FaultAction}
    (h : (s.kiln k).actions.get f = a) (stops : a = .shutdown ∨ ((a = .hold ∨ a = .safe) ∧ 4 ≤ (s.kiln k).stack.length)) :
    s.takeFault m f k = (s.latchFault f .shutdown (decide (a ≠ .shutdown)) 0 k).stopKiln m
      (if a = .shutdown then .shutdown f else .escalation f) k := by
  have taken : (if (s.kiln k).escalates a = true then FaultAction.shutdown else a) = .shutdown
      ∧ (s.kiln k).escalates a = decide (a ≠ .shutdown) := by
    rw [Kiln.escalates_eq]
    rcases stops with rfl | ⟨rfl | rfl, full⟩
    · exact ⟨rfl, rfl⟩
    all_goals
      rw [decide_eq_true full]
      exact ⟨rfl, rfl⟩
  unfold State.takeFault Kiln.actionTaken
  dsimp only
  rw [h, taken.1, taken.2]
  by_cases shut : a = .shutdown
  · rw [if_pos shut, shut]
    rfl
  · rw [if_neg shut, decide_eq_true shut]
    rfl

/-! ### What a detection leaves of its kiln -/

/-- The kiln without its state, its stack, its latches and reported kinds, and its last-reported values. -/
def Kiln.context (q : Kiln) : Kiln :=
  { q with
    state := .idle, stack := [], entryPending := false, latches := ⟨none, none, none, none⟩
    reported := ⟨false, false, false, false⟩, reportedDry := none, reportedWet := none, reportedEstimate := none }

theorem State.pushHold_context (m : Bool) (e : HoldKind) (k : KilnId) (s : State) :
    ((s.pushHold m e k).kiln k).context = (s.kiln k).context := State.pushHold_field Kiln.context (fun _ => rfl) m e k s

theorem State.stopKiln_context (m : Bool) (c : StopCause) (k : KilnId) (s : State) :
    ((s.stopKiln m c k).kiln k).context = (s.kiln k).context := by
  rw [State.stopKiln_self]
  rfl

theorem State.applyAction_context (m : Bool) (f : FaultKind) (a : FaultAction) (e : Bool) (k : KilnId) (s : State) :
    ((s.applyAction m f a e k).kiln k).context = (s.kiln k).context := by
  cases a with
  | none => rfl
  | hold => exact State.pushHold_context m _ k s
  | safe => exact State.pushHold_context m _ k s
  | shutdown => exact State.stopKiln_context m _ k s

theorem State.takeFault_context (m : Bool) (f : FaultKind) (k : KilnId) (s : State) :
    ((s.takeFault m f k).kiln k).context = (s.kiln k).context := by
  unfold State.takeFault
  dsimp only
  rw [State.applyAction_context, State.raise_kiln, State.kiln_modKiln_self]
  rfl

theorem State.announceFault_self (f : FaultKind) (k : KilnId) (s : State) :
    (s.announceFault f k).kiln k = { s.kiln k with reported := (s.kiln k).reported.set f true }
      ∨ (s.kiln k).reported.get f = true ∧ s.announceFault f k = s := by
  unfold State.announceFault
  dsimp only
  split
  · next told => exact .inr ⟨told, rfl⟩
  · exact .inl (by rw [State.raise_kiln, State.kiln_modKiln_self])

theorem State.announceFault_context (f : FaultKind) (k : KilnId) (s : State) :
    ((s.announceFault f k).kiln k).context = (s.kiln k).context := by
  rcases State.announceFault_self f k s with h | ⟨-, h⟩ <;> rw [h]
  rfl

theorem State.detect_context (m : Bool) (f : FaultKind) (k : KilnId) (s : State) :
    ((s.detect m f k).kiln k).context = (s.kiln k).context := by
  fun_cases State.detect m f k s
  case case1 => rfl
  case case2 => rfl
  case case3 => exact State.takeFault_context m f k s
  case case4 => exact State.takeFault_context m f k s
  case case5 => exact State.announceFault_context f k s
  case case6 => exact State.announceFault_context f k s
  case case7 => exact State.announceFault_context f k s

theorem State.applyAction_faults (m : Bool) (f : FaultKind) (a : FaultAction) (e : Bool) (k : KilnId) (s : State) :
    ((s.applyAction m f a e k).kiln k).latches = (s.kiln k).latches
      ∧ ((s.applyAction m f a e k).kiln k).reported = (s.kiln k).reported := by
  have pushed (kind : HoldKind) : ((s.pushHold m kind k).kiln k).latches = (s.kiln k).latches
      ∧ ((s.pushHold m kind k).kiln k).reported = (s.kiln k).reported :=
    ⟨State.pushHold_field Kiln.latches (fun _ => rfl) m kind k s, State.pushHold_field Kiln.reported (fun _ => rfl) m kind k s⟩
  have stopped (c : StopCause) : ((s.stopKiln m c k).kiln k).latches = (s.kiln k).latches
      ∧ ((s.stopKiln m c k).kiln k).reported = (s.kiln k).reported := by
    rw [State.stopKiln_self]
    exact ⟨rfl, rfl⟩
  cases a with
  | none => exact ⟨rfl, rfl⟩
  | hold => exact pushed _
  | safe => exact pushed _
  | shutdown => exact stopped _

theorem State.takeFault_faults (m : Bool) (f : FaultKind) (k : KilnId) (s : State) :
    ((s.takeFault m f k).kiln k).latches = (s.kiln k).latches.set f (some ((s.kiln k).actionTaken f))
      ∧ ((s.takeFault m f k).kiln k).reported = (s.kiln k).reported.set f false := by
  unfold State.takeFault
  dsimp only
  rw [(State.applyAction_faults ..).1, (State.applyAction_faults ..).2, State.raise_kiln, State.kiln_modKiln_self]
  exact ⟨rfl, rfl⟩

/-- The latches of the other kinds stay. -/
theorem State.detect_latches_other (m : Bool) (f : FaultKind) (k : KilnId) (s : State) (h : FaultKind) (ne : h ≠ f) :
    ((s.detect m f k).kiln k).latches.get h = (s.kiln k).latches.get h := by
  have taken : ((s.takeFault m f k).kiln k).latches.get h = (s.kiln k).latches.get h := by
    rw [(State.takeFault_faults m f k s).1]
    exact PerFault.get_set_other _ ne _
  have announced : ((s.announceFault f k).kiln k).latches.get h = (s.kiln k).latches.get h := by
    rw [State.announceFault_latches]
  fun_cases State.detect m f k s
  case case1 => rfl
  case case2 => rfl
  case case3 => exact taken
  case case4 => exact taken
  case case5 => exact announced
  case case6 => exact announced
  case case7 => exact announced

theorem State.detect_ignored (m : Bool) (f : FaultKind) (k : KilnId) (s : State)
    (h : (s.kiln k).latches.get f ≠ none ∨ (s.kiln k).state = .idle) : s.detect m f k = s := by
  unfold State.detect
  dsimp only
  split
  · rfl
  · next clear =>
      rw [h.resolve_left (fun set => clear (Option.isSome_iff_ne_none.mpr set))]

theorem State.detect_acts (m : Bool) (f : FaultKind) (k : KilnId) (s : State) (clear : (s.kiln k).latches.get f = none)
    (busy : (s.kiln k).state = .running ∨ (s.kiln k).state = .held) : s.detect m f k = s.takeFault m f k := by
  unfold State.detect
  dsimp only
  rw [clear]
  rcases busy with h | h <;> rw [h] <;> rfl

/-! ### The announcement of a detection -/

theorem State.announceFault_again (f : FaultKind) (k : KilnId) (s : State) (h : (s.kiln k).reported.get f = true) :
    s.announceFault f k = s := if_pos h

theorem State.announceFault_once (f : FaultKind) (k : KilnId) (s : State) (h : (s.kiln k).reported.get f = false) :
    s.announceFault f k = (s.modKiln k (fun q => { q with reported := q.reported.set f true })).raise
      { kind := .faultRaised, data := raisedData k f (be8 255) false (s.kiln k) (s.kiln k).stack.length } :=
  if_neg (fun told => Bool.false_ne_true (h.symm.trans told))

theorem State.faultTold_eq (f : FaultKind) (action : Nat) (escalated : Bool) (depth : Nat) (k : KilnId) (s : State)
    (busy : (s.kiln k).state ≠ .idle) : s.faultTold f action escalated depth k =
      s.raise ⟨.faultRaised, none,
        be8 k.val ++ be8 (if f = .silent then 0 else if f = .range then 1 else if f = .deviation then 2 else 3) ++ be8 action
          ++ be8 (if escalated = true then 1 else 0)
          ++ be8 (if (s.kiln k).state = .loaded then 1 else if (s.kiln k).state = .running then 2
            else if (s.kiln k).state = .held then 3 else if (s.kiln k).state = .stopped then 4 else 5)
          ++ be16 ((s.kiln k).charge.getD 0) ++ be8 depth⟩ := by
  unfold State.faultTold
  rw [raisedData_eq k f action escalated busy depth]

/-- A latch of action NONE: FAULT_RAISED and nothing else. -/
theorem State.latchFault_eq (f : FaultKind) (a : FaultAction) (e : Bool) (n : Nat) (k : KilnId) (s : State) :
    s.latchFault f a e n k = { s.faultTold f a.code e n k with kilns := (s.latchFault f a e n k).kilns } :=
  (s.latchFault_alike f a e n k).eq_kilns
    ((State.latchFault_charges f a e n k s).trans (State.faultTold_charges f a.code e n k s).symm)
    ((State.latchFault_directory f a e n k s).trans (State.faultTold_directory f a.code e n k s).symm)

theorem StopCause.fault_bytes (f : FaultKind) (a : FaultAction) :
    (if a = .shutdown then StopCause.shutdown f else .escalation f).bytes =
      be8 (1 + if a = .shutdown then 0 else 1)
        ++ be8 (if f = .silent then 0 else if f = .range then 1 else if f = .deviation then 2 else 3) := by
  rw [← FaultKind.code_eq]
  split <;> rfl

theorem State.announceFault_told (f : FaultKind) (k : KilnId) (s : State) (h : (s.kiln k).reported.get f = false) :
    s.announceFault f k =
      { s.faultTold f 255 false (s.kiln k).stack.length k with kilns := (s.announceFault f k).kilns } := by
  have once := State.announceFault_once f k s h
  have alike : (s.announceFault f k).Alike (s.faultTold f 255 false (s.kiln k).stack.length k) := by
    rw [once]
    exact ((State.Alike.refl s).modKiln k _).raise _
  refine alike.eq_kilns ?_ ?_
  · rw [once, State.raise_charges, State.faultTold_charges]
    rfl
  · rw [once, State.raise_directory, State.faultTold_directory]
    rfl

/-- A detection that pushes: the kiln, its charge and what is raised. -/
theorem State.takeFault_pushed (f : FaultKind) (m : Bool) (k : KilnId) (s : State) {a : FaultAction}
    (h : (s.kiln k).actions.get f = a) (pushes : a = .hold ∨ a = .safe) (room : (s.kiln k).stack.length < 4) :
    let t := s.takeFault m f k
    let told := s.faultTold f (if a = .hold then 1 else 2) false ((s.kiln k).stack.length + 1) k
    (t.kiln k).latches.get f = some a ∧ (t.kiln k).state = .held
      ∧ (t.kiln k).stack = ⟨.fault f a, s.stamp⟩ :: (s.kiln k).stack
      ∧ (t.kilnCharge k = (s.kilnCharge k).map Charge.countPush)
      ∧ ((s.kiln k).state = .held → t = { told with kilns := t.kilns, charges := t.charges })
      ∧ ((s.kiln k).state = .running →
          t = ({ told with kilns := t.kilns, charges := t.charges } : State).announceState m k) := by
  have code : (if a = .hold then 1 else 2) = a.code := by
    rcases pushes with rfl | rfl <;> rfl
  have self := State.latchFault_self f a false ((s.kiln k).stack.length + 1) k s
  have alike := State.latchFault_alike f a false ((s.kiln k).stack.length + 1) k s
  have directory := (State.latchFault_directory f a false ((s.kiln k).stack.length + 1) k s).trans
    (State.faultTold_directory f a.code false ((s.kiln k).stack.length + 1) k s).symm
  have stamp := State.latchFault_stamp f a false ((s.kiln k).stack.length + 1) k s
  have bound := State.latchFault_kilnCharge f a false ((s.kiln k).stack.length + 1) k s
  intro t told
  have pushed : t = _ := State.takeFault_pushes f m k s h pushes room
  obtain ⟨held, running⟩ := alike.pushHold pushed directory
  have field {α : Type} (g : Kiln → α) (keeps : ∀ q : Kiln, g q.markReported = g q) :
      g (t.kiln k) = g (((s.kiln k).latch f a).pushed ⟨.fault f a, s.stamp⟩) := by
    rw [pushed, State.pushHold_field g keeps, self, stamp]
  refine ⟨?_, field Kiln.state (fun _ => rfl), field Kiln.stack (fun _ => rfl), ?_, ?_, ?_⟩
  · rw [field Kiln.latches (fun _ => rfl)]
    exact PerFault.get_set_self _ _ _
  · rw [pushed, State.pushHold_kilnCharge, bound]
  · rw [self] at held
    subst told
    rw [code]
    exact held
  · rw [self] at running
    subst told
    rw [code]
    exact running

/-- A detection that stops the kiln: the kiln, its charge and what is raised. -/
theorem State.takeFault_stopped (f : FaultKind) (m : Bool) (k : KilnId) (s : State) {a : FaultAction}
    (h : (s.kiln k).actions.get f = a) (stops : a = .shutdown ∨ ((a = .hold ∨ a = .safe) ∧ 4 ≤ (s.kiln k).stack.length)) :
    let t := s.takeFault m f k
    let cause := if a = .shutdown then StopCause.shutdown f else .escalation f
    (t.kiln k).latches.get f = some .shutdown ∧ (t.kiln k).state = .stopped ∧ (t.kiln k).stack = []
      ∧ t.charges = s.charges
      ∧ t = ({ (s.faultTold f 3 (decide (a ≠ .shutdown)) 0 k).raise ((s.kiln k).stopNotice cause k) with
          kilns := t.kilns } : State).announceState m k := by
  have self := State.latchFault_self f .shutdown (decide (a ≠ .shutdown)) 0 k s
  have alike := State.latchFault_alike f .shutdown (decide (a ≠ .shutdown)) 0 k s
  have charges := State.latchFault_charges f .shutdown (decide (a ≠ .shutdown)) 0 k s
  have directory := State.latchFault_directory f .shutdown (decide (a ≠ .shutdown)) 0 k s
  intro t cause
  have stopped : t = _ := State.takeFault_stops f m k s h stops
  have reports := alike.stopKiln stopped (charges.trans (State.faultTold_charges f _ _ _ k s).symm)
    (directory.trans (State.faultTold_directory f _ _ _ k s).symm)
  rw [self] at reports
  have kiln : t.kiln k = { (s.kiln k).latch f .shutdown with state := .stopped, stack := [] }.markReported := by
    rw [stopped, State.stopKiln_self, self]
  refine ⟨?_, ?_, ?_, ?_, reports⟩
  · rw [kiln]
    exact PerFault.get_set_self _ _ _
  · rw [kiln]
    rfl
  · rw [kiln]
    rfl
  · rw [stopped]
    exact (State.stopKiln_sides _ _ k _).1.trans charges

theorem StopCause.escalation_code (a : FaultAction) :
    (if (decide (a ≠ .shutdown)) = true then 1 else 0) = if a = .shutdown then 0 else 1 := by
  cases a <;> rfl

/-- Settles O39: a detection by the latch and the kiln's state, and by the action that the row gives. -/
theorem detectionsLatchAndAct : Obligations.DetectionsLatchAndAct := by
  unfold Obligations.DetectionsLatchAndAct
  intro s k f m
  refine ⟨fun ignored => State.detect_ignored m f k s ignored, fun clear busy => ?acts, fun clear quiet => ?quiet,
    (congrArg Kiln.setpoints (State.detect_context m f k s) :), (congrArg Kiln.position (State.detect_context m f k s) :),
    fun h ne => State.detect_latches_other m f k s h ne, fun j hj => State.detect_other m f k s j hj⟩
  case acts =>
    have active : (s.kiln k).state ≠ .idle := by
      rcases busy with h | h <;> rw [h] <;> exact nofun
    rw [State.detect_acts m f k s clear busy]
    refine ⟨?_, fun none => ?_, fun pushes room => ?_, fun stops => ?_⟩
    · rw [(State.takeFault_faults m f k s).2, PerFault.get_set_self]
    · rw [State.takeFault_latches f m k s none, State.latchFault_self]
      refine ⟨PerFault.get_set_self _ _ _, rfl, rfl, State.latchFault_charges f _ _ _ k s, ?_⟩
      have told := State.latchFault_eq f .none false (s.kiln k).stack.length k s
      rw [State.faultTold_eq f _ _ _ k s active] at told
      exact told
    · obtain ⟨latch, state, stack, charge, held, running⟩ := State.takeFault_pushed f m k s rfl pushes room
      rw [State.faultTold_eq f _ _ _ k s active] at held running
      refine ⟨latch, state, stack, fun c bound => ?_, held, running⟩
      rw [charge, bound]
      rfl
    · obtain ⟨latch, state, stack, charges, reports⟩ := State.takeFault_stopped f m k s rfl stops
      refine ⟨latch, state, stack, charges, fun i e pos => ?_⟩
      rw [State.faultTold_eq f _ _ _ k s active, StopCause.escalation_code,
        Kiln.stopNotice_some pos (StopCause.fault_bytes f _)] at reports
      exact reports
  case quiet =>
    have active : (s.kiln k).state ≠ .idle := by
      rcases quiet with h | h | h <;> rw [h] <;> exact nofun
    have announces : s.detect m f k = s.announceFault f k := by
      rw [State.detect_announces m f k s quiet, clear]
      rfl
    rw [announces]
    rcases State.announceFault_self f k s with self | ⟨told, self⟩
    · refine ⟨?_, ?_, ?_, ?_, fun told => State.announceFault_again f k s told, fun first => ?_⟩
      · rw [self]
        exact PerFault.get_set_self _ _ _
      · rw [self]
      · rw [self]
      · rw [self]
      · have told := State.announceFault_told f k s first
        rw [State.faultTold_eq f _ _ _ k s active] at told
        exact told
    · rw [self]
      exact ⟨told, rfl, rfl, rfl, fun _ => rfl, fun first => absurd (first.symm.trans told) Bool.false_ne_true⟩

end Sys2Proof.Machine
end

section
/-! PROOFS. The report of a kiln's state, byte by byte, and its change test (R100, R101); the arrivals of CLIMATE and PROBE
(R50, R99). -/

namespace Sys2Proof.Machine

/-! ### The KILN_STATUS and its change test (R100, R101) -/

theorem beyond_iff (x y band : Int) : beyond x y band = true ↔ band < x - y ∨ band < y - x := by
  simp only [beyond, Bool.or_eq_true, decide_eq_true_iff]

theorem tempChanged_iff (now last : Option Int) (band : Nat) : tempChanged now last band = true ↔
    now.isSome ≠ last.isSome ∨ ∃ x y, now = some x ∧ last = some y ∧ ((band : Int) < x - y ∨ (band : Int) < y - x) := by
  cases now <;> cases last <;> simp [tempChanged, beyond_iff]

theorem moistChanged_iff (now last : Option Nat) (band : Nat) : moistChanged now last band = true ↔
    now.isSome ≠ last.isSome ∨ ∃ x y : Nat, now = some x ∧ last = some y
      ∧ ((band : Int) < (x : Int) - y ∨ (band : Int) < (y : Int) - x) := by
  unfold moistChanged
  rw [tempChanged_iff]
  cases now <;> cases last <;> simp

/-- The change test: a temperature or the estimate newly present, newly absent, or beyond its deadband. -/
theorem Kiln.statusDue_iff (q : Kiln) : q.statusDue = true ↔
    ((q.lastGood.map TempPair.dry).isSome ≠ q.reportedDry.isSome
        ∨ ∃ x y, q.lastGood.map TempPair.dry = some x ∧ q.reportedDry = some y
          ∧ ((q.inUse.tempDeadband : Int) < x - y ∨ (q.inUse.tempDeadband : Int) < y - x))
      ∨ ((q.lastGood.map TempPair.wet).isSome ≠ q.reportedWet.isSome
        ∨ ∃ x y, q.lastGood.map TempPair.wet = some x ∧ q.reportedWet = some y
          ∧ ((q.inUse.tempDeadband : Int) < x - y ∨ (q.inUse.tempDeadband : Int) < y - x))
      ∨ (q.estimate.map Estimate.value).isSome ≠ q.reportedEstimate.isSome
      ∨ ∃ x y : Nat, q.estimate.map Estimate.value = some x ∧ q.reportedEstimate = some y
        ∧ ((q.inUse.moistDeadband : Int) < (x : Int) - y ∨ (q.inUse.moistDeadband : Int) < (y : Int) - x) := by
  unfold Kiln.statusDue
  simp only [Bool.or_eq_true, tempChanged_iff, moistChanged_iff, or_assoc]

theorem State.testStatus_quiet (k : KilnId) (s : State) (h : (s.kiln k).statusDue = false) : s.testStatus k = s :=
  if_neg (fun due => Bool.false_ne_true (h.symm.trans due))

theorem State.testStatus_due (k : KilnId) (s : State) (h : (s.kiln k).statusDue = true) : s.testStatus k = s.raiseStatus k :=
  if_pos h

theorem Kiln.statusIndex_eq (q : Kiln) :
    q.statusIndex = if q.stepCopy = none then 255 else (q.position.map StepPosition.index).getD 255 := by
  unfold Kiln.statusIndex
  cases q.stepCopy <;> cases q.position <;> rfl

/-- The 22 bytes of a KILN_STATUS, figure by figure. -/
theorem Kiln.statusData_eq (k : KilnId) (elapsed : List Byte) (q : Kiln) : q.statusData k elapsed =
    be8 k.val ++ be8 q.state.code ++ be16 (q.charge.getD 0)
      ++ be8 (if q.stepCopy = none then 255 else (q.position.map StepPosition.index).getD 255) ++ elapsed
      ++ (q.lastGood.map TempPair.dry).elim [0x80, 0x00] beI16 ++ (q.lastGood.map TempPair.wet).elim [0x80, 0x00] beI16
      ++ (q.estimate.map Estimate.value).elim [0xFF, 0xFF] be16 ++ q.wettest.elim [0xFF, 0xFF] be16
      ++ (q.setpoints.map TempPair.dry).elim [0x80, 0x00] beI16 ++ (q.setpoints.map TempPair.wet).elim [0x80, 0x00] beI16
      ++ be8 ((if q.ramping = true then 1 else 0) + (if q.limited = true then 2 else 0)
        + (if (q.estimate.map Estimate.clamped).getD false = true then 4 else 0)
        + (if (q.fan == .reverse) = true then 8 else 0) + (if (q.verdict == some .bad) = true then 16 else 0))
      ++ be8 q.stack.length
      ++ be8 ((if q.latches.silent.isSome = true then 1 else 0) + (if q.latches.range.isSome = true then 2 else 0)
        + (if q.latches.deviation.isSome = true then 4 else 0) + (if q.latches.supervisor.isSome = true then 8 else 0)) := by
  unfold Kiln.statusData
  simp only [Kiln.statusIndex_eq, beTemp_eq, beMoisture_eq, Kiln.indicators_eq, Kiln.latchByte_eq]

theorem State.raiseStatus_some {k : KilnId} {s : State} {x : StepPosition} (h : (s.kiln k).position = some x) :
    s.raiseStatus k = (s.setKiln k (s.kiln k).markReported).raise
      ⟨.kilnStatus, some k, (s.kiln k).statusData k (be16 x.elapsed)⟩ := by
  have drew : s.drewElapsed k = s := by
    unfold State.drewElapsed
    rw [h]
    rfl
  unfold State.raiseStatus
  rw [drew, State.elapsedBytes_some h]
  rfl

theorem State.raiseStatus_none {k : KilnId} {s : State} (h : (s.kiln k).position = none) :
    s.raiseStatus k = (({ s with freeCount := s.freeCount + 2 } : State).setKiln k (s.kiln k).markReported).raise
      ⟨.kilnStatus, some k, (s.kiln k).statusData k [Config.freeByte s.freeCount, Config.freeByte (s.freeCount + 1)]⟩ := by
  have drew : s.drewElapsed k = { s with freeCount := s.freeCount + 2 } := by
    unfold State.drewElapsed
    rw [h]
    rfl
  have bytes : s.elapsedBytes k = [Config.freeByte s.freeCount, Config.freeByte (s.freeCount + 1)] := by
    unfold State.elapsedBytes
    rw [h]
    rfl
  unfold State.raiseStatus
  rw [drew, bytes]
  rfl

/-! ### A CLIMATE arrival (R99, R111) -/

/-- The values of a CLIMATE payload that make it GOOD under the limits in use. -/
def Kiln.Plausible (q : Kiln) (x : List Byte) : Prop :=
  u8 x 4 = 0 ∧ (q.inUse.plausLow ≤ i16 x 0 ∧ i16 x 0 ≤ q.inUse.plausHigh)
    ∧ q.inUse.plausLow ≤ i16 x 2 ∧ i16 x 2 ≤ q.inUse.plausHigh

theorem Kiln.judge_good {q : Kiln} {x : List Byte} (h : q.Plausible x) : q.judge x = .good := by
  obtain ⟨status, ⟨lowDry, highDry⟩, lowWet, highWet⟩ := h
  exact if_pos ⟨status, lowDry, highDry, lowWet, highWet⟩

theorem Kiln.judge_bad {q : Kiln} {x : List Byte} (h : ¬ q.Plausible x) : q.judge x = .bad :=
  if_neg (fun ⟨status, lowDry, highDry, lowWet, highWet⟩ => h ⟨status, ⟨lowDry, highDry⟩, lowWet, highWet⟩)

theorem State.climateArrival_good {s : State} {k : KilnId} {x : List Byte} (busy : (s.kiln k).state ≠ .idle)
    (good : (s.kiln k).Plausible x) : s.climateArrival k x = (s.setKiln k { s.kiln k with
      climateStatus := some (x.getD 4 0), silence := 0, verdict := some .good
      lastGood := some ⟨i16 x 0, i16 x 2⟩ }).testStatus k := by
  unfold State.climateArrival State.modKiln Kiln.takeClimate
  dsimp only
  rw [if_neg busy, Kiln.judge_good good, if_neg (nofun : Verdict.good ≠ .bad), if_pos rfl]

theorem State.climateArrival_bad {s : State} {k : KilnId} {x : List Byte} (busy : (s.kiln k).state ≠ .idle)
    (bad : ¬ (s.kiln k).Plausible x) : s.climateArrival k x = ((s.setKiln k { s.kiln k with
      climateStatus := some (x.getD 4 0), silence := 0, verdict := some .bad }).detect false .range k).testStatus k := by
  unfold State.climateArrival State.modKiln Kiln.takeClimate
  dsimp only
  rw [if_neg busy, Kiln.judge_bad bad, if_pos rfl, if_neg (nofun : Verdict.bad ≠ .good)]

theorem State.climateArrival_context {s : State} {k : KilnId} (x : List Byte) (busy : (s.kiln k).state ≠ .idle) :
    ((s.climateArrival k x).kiln k).context = ((s.kiln k).takeClimate x).context := by
  unfold State.climateArrival
  dsimp only
  rw [if_neg busy, State.testStatus_field Kiln.context (fun _ => rfl)]
  split
  · rw [State.detect_context, State.kiln_modKiln_self]
  · rw [State.kiln_modKiln_self]

/-- A detection that only announces keeps state and latches and reports the kind. -/
theorem State.detect_quiet (m : Bool) (f : FaultKind) (k : KilnId) (s : State) (clear : (s.kiln k).latches.get f = none)
    (quiet : (s.kiln k).state = .loaded ∨ (s.kiln k).state = .stopped ∨ (s.kiln k).state = .done) :
    ((s.detect m f k).kiln k).reported.get f = true ∧ ((s.detect m f k).kiln k).latches = (s.kiln k).latches
      ∧ ((s.detect m f k).kiln k).state = (s.kiln k).state := by
  rw [State.detect_announces m f k s quiet, clear]
  change ((s.announceFault f k).kiln k).reported.get f = true ∧ ((s.announceFault f k).kiln k).latches = _
    ∧ ((s.announceFault f k).kiln k).state = _
  rcases State.announceFault_self f k s with self | ⟨told, self⟩ <;> rw [self]
  · exact ⟨PerFault.get_set_self _ _ _, rfl, rfl⟩
  · exact ⟨told, rfl, rfl⟩

/-! ### A PROBE arrival (R50) -/

theorem State.probeArrival_eq {s : State} {k : KilnId} (x : List Byte) (busy : (s.kiln k).state ≠ .idle) :
    s.probeArrival k x = (s.setKiln k ((s.kiln k).takeProbe (s.kilnGroup k) x)).testStatus k := if_neg busy

/-- Settles O31: each arrival by the kiln's state and its payload, and the report by its figures. -/
theorem arrivalsUpdateTheirKiln : Obligations.ArrivalsUpdateTheirKiln := by
  unfold Obligations.ArrivalsUpdateTheirKiln
  refine ⟨fun s k x => ⟨fun idle => if_pos idle, fun busy => ?climate⟩, fun s k x => ⟨fun idle => if_pos idle,
    fun c busy bound => ?probe⟩, fun s k => ?report⟩
  case climate =>
    have context := State.climateArrival_context x busy
    refine ⟨(congrArg Kiln.climateStatus context :), (congrArg Kiln.silence context :), (congrArg Kiln.position context :),
      (congrArg Kiln.setpoints context :), fun j hj => State.climateArrival_other k x s j hj, fun good => ?_, fun bad => ?_,
      fun good => State.climateArrival_good busy good, fun bad => State.climateArrival_bad busy bad⟩
    · have judged := Kiln.judge_good good
      refine ⟨(congrArg Kiln.verdict context :).trans (congrArg some judged),
        (congrArg Kiln.lastGood context :).trans (if_pos judged), ?_, ?_⟩
      · rw [State.climateArrival_good busy good, State.testStatus_field Kiln.state (fun _ => rfl), State.kiln_setKiln_self]
      · rw [State.climateArrival_good busy good, State.testStatus_field Kiln.latches (fun _ => rfl), State.kiln_setKiln_self]
    · have judged := Kiln.judge_bad bad
      refine ⟨(congrArg Kiln.verdict context :).trans (congrArg some judged),
        (congrArg Kiln.lastGood context :).trans (if_neg (judged ▸ nofun)), fun clear quiet => ?_⟩
      rw [State.climateArrival_bad busy bad, State.testStatus_field Kiln.reported (fun _ => rfl),
        State.testStatus_field Kiln.latches (fun _ => rfl), State.testStatus_field Kiln.state (fun _ => rfl)]
      have detected := State.detect_quiet false .range k (s.setKiln k { s.kiln k with
        climateStatus := some (x.getD 4 0), silence := 0, verdict := some .bad })
      rw [State.kiln_setKiln_self] at detected
      exact detected clear quiet
  case probe =>
    have arrival := State.probeArrival_eq x busy
    have channel (i : Fin 12) := State.probeArrival_channel s k x i busy
    have field {α : Type} (f : Kiln → α) (keeps : ∀ q : Kiln, f q.markReported = f q) :
        f ((s.probeArrival k x).kiln k) = f ((s.kiln k).takeProbe (s.kilnGroup k) x) := by
      rw [arrival, State.testStatus_field f keeps, State.kiln_setKiln_self]
    refine ⟨fun i => ?_, ?_, ?_, field Kiln.state (fun _ => rfl), field Kiln.setpoints (fun _ => rfl),
      field Kiln.mask (fun _ => rfl), fun j hj => State.probeArrival_other k x s j hj, ?_⟩
    · rw [channel i, State.kilnGroup_eq bound, channelAfter]
      simp only [Bool.and_eq_true, decide_eq_true_iff]
    · rw [field Kiln.estimate (fun _ => rfl), field Kiln.channels (fun _ => rfl)]
      rfl
    · rw [field Kiln.wettest (fun _ => rfl), field Kiln.channels (fun _ => rfl)]
      rfl
    · rw [field Kiln.channels (fun _ => rfl), field Kiln.estimate (fun _ => rfl), field Kiln.wettest (fun _ => rfl)]
      exact arrival
  case report =>
    refine ⟨fun same => ?_, fun changed => State.testStatus_due k s ((Kiln.statusDue_iff _).mpr changed),
      fun x pos => ?_, fun absent => ⟨Config.freeByte s.freeCount, Config.freeByte (s.freeCount + 1), ?_⟩⟩
    · exact State.testStatus_quiet k s (Bool.eq_false_iff.mpr (fun due => same ((Kiln.statusDue_iff _).mp due)))
    · rw [State.raiseStatus_some pos, Kiln.statusData_eq]
      rfl
    · rw [State.raiseStatus_none absent, Kiln.statusData_eq]
      rfl

end Sys2Proof.Machine
end

section
/-! PROOFS. The parts of a running minute (chapter 5): targets, ramps, the exit of a step and the deviation countdown (R90, R92,
R94, R112). -/

namespace Sys2Proof.Machine

/-! ### Targets and ramps (R90, R92) -/

theorem Kiln.deriveTargets_eq {q : Kiln} {x : Step} (h : q.stepCopy = some x) : q.deriveTargets =
    { q with
      targets := some ⟨max q.inUse.dryMin (min q.inUse.dryMax x.dry),
        max 0 (max q.inUse.dryMin (min q.inUse.dryMax x.dry) - x.depression)⟩
      limited := decide (max q.inUse.dryMin (min q.inUse.dryMax x.dry) ≠ x.dry
        ∨ max q.inUse.dryMin (min q.inUse.dryMax x.dry) - x.depression < 0) } := by
  unfold Kiln.deriveTargets
  rw [h, Bool.decide_or]
  simp only [bne, ne_eq, decide_not, beq_eq_decide]
  rfl

theorem approach_within (x target : Int) (rate : Nat) (low : target - rate ≤ x) (high : x ≤ target + rate) :
    approach x target rate = target := by
  have near : beyond target x rate = false := Bool.eq_false_iff.mpr (fun far => by have := (beyond_iff _ _ _).mp far; omega)
  unfold approach
  rw [near]
  rfl

theorem approach_below (x target : Int) (rate : Nat) (h : x < target - rate) : approach x target rate = x + rate := by
  unfold approach
  rw [if_pos ((beyond_iff _ _ _).mpr (by omega)), if_pos (by omega)]

theorem approach_above (x target : Int) (rate : Nat) (h : target + rate < x) : approach x target rate = x - rate := by
  unfold approach
  rw [if_pos ((beyond_iff _ _ _).mpr (by omega)), if_neg (by omega)]

/-! ### The exit of a step (R94) -/

theorem Kiln.exitReason_time {q : Kiln} {x : Step} {p : StepPosition} (copy : q.stepCopy = some x) (pos : q.position = some p)
    (basis : x.basis = .time) : q.exitReason = if x.maxDuration ≤ p.elapsed then some .time else none := by
  unfold Kiln.exitReason
  rw [copy, pos]
  dsimp only
  rw [basis]

theorem Kiln.exitReason_moisture {q : Kiln} {x : Step} {p : StepPosition} (copy : q.stepCopy = some x)
    (pos : q.position = some p) (basis : x.basis ≠ .time) : q.exitReason =
      x.moistureExit p.elapsed (if x.basis = .estimate then q.estimate.map Estimate.value else q.wettest) := by
  unfold Kiln.exitReason
  rw [copy, pos]
  dsimp only
  cases h : x.basis with
  | time => exact absurd h basis
  | estimate => rfl
  | wettest => rfl

theorem figureReached_iff (figure : Option Nat) (limit : Nat) :
    figureReached figure limit = true ↔ ∃ m, figure = some m ∧ m ≤ limit := by
  cases figure <;> simp [figureReached]

theorem Step.moistureExit_low {x : Step} {elapsed : Nat} {figure : Option Nat} (ripe : x.minDuration ≤ elapsed)
    (low : ∃ m, figure = some m ∧ m ≤ x.exitMoisture) : x.moistureExit elapsed figure = some .moisture := by
  unfold Step.moistureExit
  rw [decide_eq_true ripe, (figureReached_iff _ _).mpr low]
  rfl

theorem Step.moistureExit_goesOn {x : Step} {elapsed : Nat} {figure : Option Nat}
    (h : ¬ (x.minDuration ≤ elapsed ∧ ∃ m, figure = some m ∧ m ≤ x.exitMoisture)) :
    x.moistureExit elapsed figure = if x.maxDuration ≤ elapsed then some .timeLimit else none := by
  refine if_neg (fun both => h ?_)
  rwa [Bool.and_eq_true, decide_eq_true_iff, figureReached_iff] at both

/-! ### The deviation countdown (R112) -/

theorem Kiln.deviates_some {q : Kiln} {last now : TempPair} (good : q.lastGood = some last) (set : q.setpoints = some now) :
    q.deviates = some (beyond last.dry now.dry q.inUse.deviationBand) := by
  unfold Kiln.deviates
  rw [good, set]

theorem beyond_eq_false {x y band : Int} (h : x - y ≤ band ∧ y - x ≤ band) : beyond x y band = false :=
  Bool.eq_false_iff.mpr (fun far => by have := (beyond_iff _ _ _).mp far; omega)

theorem beyond_eq_true {x y band : Int} (h : ¬ (x - y ≤ band ∧ y - x ≤ band)) : beyond x y band = true :=
  (beyond_iff _ _ _).mpr (by omega)

theorem State.applyDeviation_untouched (k : KilnId) (s : State) (h : (s.kiln k).state ≠ .running ∨ (s.kiln k).lastGood = none) :
    s.applyDeviation k = s := by
  unfold State.applyDeviation
  dsimp only
  split
  · rfl
  · next running =>
      have absent : (s.kiln k).deviates = none := by
        unfold Kiln.deviates
        rw [h.resolve_left running]
      rw [absent]

theorem State.applyDeviation_within {k : KilnId} {s : State} (running : (s.kiln k).state = .running)
    (h : (s.kiln k).deviates = some false) :
    s.applyDeviation k = s.setKiln k { s.kiln k with countdown := (s.kiln k).inUse.deviationMinutes } := by
  unfold State.applyDeviation
  dsimp only
  rw [if_neg (not_not.mpr running), h]
  rfl

theorem State.applyDeviation_beyond {k : KilnId} {s : State} (running : (s.kiln k).state = .running)
    (h : (s.kiln k).deviates = some true) : s.applyDeviation k =
      if (s.kiln k).countdown = 0 then s
      else if (s.kiln k).countdown = 1 then (s.setKiln k { s.kiln k with countdown := 0 }).detect true .deviation k
      else s.setKiln k { s.kiln k with countdown := (s.kiln k).countdown - 1 } := by
  unfold State.applyDeviation
  dsimp only
  rw [if_neg (not_not.mpr running), h]
  dsimp only
  split
  · rfl
  · split
    · next one =>
        unfold State.modKiln
        dsimp only
        rw [one]
    · rfl

/-- Settles O28: the targets and the ramp by their formulas, the exit by the step's basis, the countdown by the deviation. -/
theorem runningMinutesRampExitAndCountDown : Obligations.RunningMinutesRampExitAndCountDown := by
  unfold Obligations.RunningMinutesRampExitAndCountDown
  refine ⟨⟨fun q x h => Kiln.deriveTargets_eq h, fun x target rate => ⟨approach_within x target rate, approach_below x target rate,
    approach_above x target rate⟩, fun _ _ _ _ _ => rfl⟩, fun q x i e copy pos => ⟨?_, ?_, ?_⟩, fun s k =>
    ⟨fun h => State.applyDeviation_untouched k s h, fun last now running good set => ⟨?_, ?_, ?_, ?_⟩⟩⟩
  · exact fun basis => Kiln.exitReason_time copy pos basis
  · exact fun basis ripe low => (Kiln.exitReason_moisture copy pos basis).trans (Step.moistureExit_low ripe low)
  · exact fun basis stays => (Kiln.exitReason_moisture copy pos basis).trans (Step.moistureExit_goesOn stays)
  all_goals have deviates := Kiln.deviates_some good set
  · intro within
    rw [beyond_eq_false within] at deviates
    exact State.applyDeviation_within running deviates
  · intro off zero
    rw [beyond_eq_true off] at deviates
    exact (State.applyDeviation_beyond running deviates).trans (if_pos zero)
  · intro off more
    rw [beyond_eq_true off] at deviates
    exact (State.applyDeviation_beyond running deviates).trans ((if_neg (by omega)).trans (if_neg (by omega)))
  · intro off one
    rw [beyond_eq_true off] at deviates
    exact (State.applyDeviation_beyond running deviates).trans ((if_neg (by omega)).trans (if_pos one))

end Sys2Proof.Machine
end

section
/-! PROOFS. Step entry and completion (chapter 5, R89, R96): what they leave of the kiln, its charge and the directory, and what
they raise; START_KILN and the exit of a step, which lead to one of them. -/

namespace Sys2Proof.Machine

/-! ### Step entry (R89, R90, R92) -/

theorem State.poolSlot_val (s : State) (d : Fin 32) (j : Fin 24) : s.poolSlot d j.val = s.directory[d].steps[j] := by
  unfold State.poolSlot
  rw [List.getD_eq_getElem _ _ (by simp), Vector.getElem_toList]
  rfl

/-- The kiln with a step entered, its targets and RAMPING spelled out. -/
theorem Kiln.enter_eq (x : Step) (i e : Nat) (q : Kiln) : q.enter x i e =
    { q with
      stepCopy := some x, position := some ⟨i, e⟩, entryPending := false, targets := (q.enter x i e).targets
      limited := (q.enter x i e).limited, ramping := (q.enter x i e).ramping } := rfl

theorem Kiln.markRamping_eq {q : Kiln} {now aim : TempPair} (target : q.targets = some aim) (set : q.setpoints = some now) :
    q.markRamping = { q with ramping := decide (now ≠ aim) } := by
  have differ : (some aim != some now) = decide (now ≠ aim) := by
    by_cases same : now = aim
    · rw [same, decide_eq_false (not_not.mpr rfl)]
      exact bne_self_eq_false (some aim)
    · rw [decide_eq_true same]
      exact bne_iff_ne.mpr (fun e => same (Option.some.inj e).symm)
  unfold Kiln.markRamping
  rw [target, set, differ]
  rfl

theorem Kiln.enter_aimsAt (x : Step) (i e : Nat) (q : Kiln) : (q.enter x i e).AimsAt x := by
  have derived := Kiln.deriveTargets_eq
    (q := { q with stepCopy := some x, position := some ⟨i, e⟩, entryPending := false }) (x := x) rfl
  refine ⟨rfl, (congrArg Kiln.limited derived :), fun now set => ?_⟩
  exact (congrArg Kiln.ramping (Kiln.markRamping_eq (congrArg Kiln.targets derived) set) :)

theorem State.enterStep_kilnCharge (k : KilnId) (i e : Nat) (cause : EntryCause) (s : State) :
    (s.enterStep k i e cause).kilnCharge k = s.kilnCharge k :=
  State.kilnCharge_congr (by rw [State.enterStep_self]; rfl) (State.raise_charges _ _)

theorem State.enterStep_directory (k : KilnId) (i e : Nat) (cause : EntryCause) (s : State) :
    (s.enterStep k i e cause).directory = s.directory := State.raise_directory _ _

/-- What is raised when a step is entered. -/
def enterNotice (k : KilnId) (c : Charge) (index elapsed : Nat) (cause : EntryCause) : Notice where
  kind := .stepChange
  data := be8 k.val ++ be16 c.number ++ be8 index ++ be16 elapsed ++ be16 c.generation ++ be8 cause.code

theorem State.Alike.enterStep {u v : State} (h : u.Alike v) {k : KilnId} {c : Charge} (bound : u.kilnCharge k = some c)
    (i e : Nat) (cause : EntryCause) : (u.enterStep k i e cause).Alike (v.raise (enterNotice k c i e cause)) := by
  unfold State.enterStep
  rw [State.chargeOf_eq bound]
  exact (h.modKiln k _).raise _

theorem State.enterStep_self_bound {s : State} {k : KilnId} {c : Charge} (bound : s.kilnCharge k = some c) {i : Nat}
    {j : Fin 24} (hj : j.val = i) (e : Nat) (cause : EntryCause) :
    (s.enterStep k i e cause).kiln k = (s.kiln k).enter s.directory[c.entry].steps[j] i e := by
  subst hj
  rw [State.enterStep_self, State.chargeOf_eq bound, State.poolSlot_val]

/-! ### A kiln becomes RUNNING (R107, R112) -/

theorem State.Alike.becomeRunning {u v t : State} (h : u.Alike v) {k : KilnId} (ht : t = u.becomeRunning k)
    (directory : u.directory = v.directory) :
    t = ({ v with kilns := t.kilns, charges := t.charges } : State).announceState false k :=
  (h.modKiln k _).announced_charges ht directory

theorem State.becomeRunning_kilnCharge (k : KilnId) (s : State) : (s.becomeRunning k).kilnCharge k = s.kilnCharge k := by
  unfold State.becomeRunning
  rw [State.announceState_kilnCharge, State.modKiln_kilnCharge k _ s rfl]

theorem State.becomeRunning_sides (k : KilnId) (s : State) :
    (s.becomeRunning k).charges = s.charges ∧ (s.becomeRunning k).directory = s.directory := State.announceState_sides k false _

/-! ### Completion (R96) -/

/-- What is raised when a charge is completed. -/
def driedNotice (k : KilnId) (c : Charge) (q : Kiln) (stamp : Stamp) : Notice where
  kind := .chargeDried
  data := driedData k c q stamp

theorem driedNotice_eq (k : KilnId) (c : Charge) (q : Kiln) (stamp : Stamp) : driedNotice k c q stamp =
    ⟨.chargeDried, none, be8 k.val ++ be16 c.number ++ (q.estimate.map Estimate.value).elim [0xFF, 0xFF] be16
      ++ q.wettest.elim [0xFF, 0xFF] be16 ++ be32 stamp.value.toNat ++ be8 (if stamp.isSet = true then 1 else 0)⟩ := by
  unfold driedNotice driedData beStamp
  simp only [beMoisture_eq, beBool_eq, List.append_assoc]

theorem State.Alike.completeCharge {u v t : State} (h : u.Alike v) {m : Bool} {k : KilnId} {c : Charge}
    (bound : u.kilnCharge k = some c) (ht : t = u.completeCharge m k) :
    t = ({ v.raise (driedNotice k c (u.kiln k) u.stamp) with
      kilns := t.kilns, charges := t.charges, directory := t.directory } : State).announceState m k := by
  have alike := ((((h.modKilnCharge k (Charge.complete u.stamp (u.kiln k))).raise (driedNotice k (u.chargeOf k) (u.kiln k)
    u.stamp)).modKiln k Kiln.finish).unbindKiln k)
  rw [State.chargeOf_eq bound] at alike
  refine alike.announced (ht.trans ?_)
  unfold State.completeCharge
  dsimp only
  rw [State.chargeOf_eq bound]
  rfl

theorem State.unbindKiln_charges (k : KilnId) (s : State) : (s.unbindKiln k).charges = s.charges := by
  fun_cases State.unbindKiln k s <;> rfl

theorem State.unbindKiln_directory {s : State} {k : KilnId} {c : Charge} (h : s.kilnCharge k = some c) :
    (s.unbindKiln k).directory =
      s.directory.set c.entry { s.directory[c.entry] with inUse := s.directory[c.entry].inUse - 1 } := by
  unfold State.unbindKiln
  rw [h]
  rfl

/-- The charge and the directory after a completion. -/
theorem State.completeCharge_sides {s : State} {k : KilnId} {c : Charge} (m : Bool) (bound : s.kilnCharge k = some c) :
    (s.completeCharge m k).kilnCharge k = some (c.complete s.stamp (s.kiln k))
      ∧ (s.completeCharge m k).directory =
        s.directory.set c.entry { s.directory[c.entry] with inUse := s.directory[c.entry].inUse - 1 } := by
  have finished (u : State) (hu : u.kilnCharge k = some (c.complete s.stamp (s.kiln k))) :
      (u.modKiln k Kiln.finish).kilnCharge k = some (c.complete s.stamp (s.kiln k)) :=
    (State.modKiln_kilnCharge k Kiln.finish u rfl).trans hu
  have raised (n : Notice) : ((s.modKilnCharge k (Charge.complete s.stamp (s.kiln k))).raise n).kilnCharge k
      = some (c.complete s.stamp (s.kiln k)) := by
    rw [State.kilnCharge_of_inner (State.raise_inner n _) k, State.modKilnCharge_kilnCharge
      (Charge.keepsLedger_complete _ _), bound]
    rfl
  unfold State.completeCharge
  dsimp only
  refine ⟨?_, ?_⟩
  · rw [State.announceState_kilnCharge]
    refine Eq.trans (State.kilnCharge_congr ?_ (State.unbindKiln_charges k _)) (finished _ (raised _))
    rw [State.unbindKiln_kiln]
  · rw [(State.announceState_sides k m _).2, State.unbindKiln_directory (finished _ (raised _))]
    simp only [State.modKiln_directory, State.raise_directory, State.modKilnCharge_directory]
    rfl

/-! ### The present generation (R86, R95, R108) -/

theorem Charge.keepsLedger_generation (g : Charge → Nat) : Charge.KeepsLedger (fun c => { c with generation := g c }) :=
  fun _ => ⟨rfl, rfl, rfl, rfl, rfl, id, id⟩

theorem State.adoptGeneration_kilnCharge {s : State} {k : KilnId} {c : Charge} (bound : s.kilnCharge k = some c) :
    (s.adoptGeneration k).kilnCharge k = some { c with generation := s.directory[c.entry].generation } := by
  unfold State.adoptGeneration
  rw [State.modKilnCharge_kilnCharge (Charge.keepsLedger_generation _), bound]
  rfl

theorem State.adoptGeneration_directory (k : KilnId) (s : State) : (s.adoptGeneration k).directory = s.directory :=
  State.modKilnCharge_directory k _ s

theorem State.Alike.adoptGeneration {u v : State} (h : u.Alike v) (k : KilnId) : (u.adoptGeneration k).Alike v :=
  h.modKilnCharge k _

theorem State.boundCount_eq {s : State} {k : KilnId} {c : Charge} (bound : s.kilnCharge k = some c) :
    s.boundCount k = s.directory[c.entry].header.count :=
  congrArg (fun x : Charge => s.directory[x.entry].header.count) (State.chargeOf_eq bound)

/-! ### START_KILN (R85, R86) -/

theorem Charge.keepsLedger_started (now : Stamp) : Charge.KeepsLedger (fun c => { c with startStamp := some now }) :=
  fun _ => ⟨rfl, rfl, rfl, rfl, rfl, id, id⟩

theorem State.Alike.beginStart {u v : State} (h : u.Alike v) (k : KilnId) : (u.beginStart k).Alike v :=
  ((h.modKilnCharge k _).adoptGeneration k).modKiln k _

theorem State.beginStart_directory (k : KilnId) (s : State) : (s.beginStart k).directory = s.directory :=
  (State.adoptGeneration_directory k _).trans (State.modKilnCharge_directory k _ s)

theorem State.beginStart_stamp (k : KilnId) (s : State) : (s.beginStart k).stamp = s.stamp :=
  (congrArg State.stamp (State.beginStart_aside k s) :)

theorem State.beginStart_kilnCharge {s : State} {k : KilnId} {c : Charge} (bound : s.kilnCharge k = some c) :
    (s.beginStart k).kilnCharge k =
      some { c with startStamp := some s.stamp, generation := s.directory[c.entry].generation } := by
  have started : (s.modKilnCharge k (fun c => { c with startStamp := some s.stamp })).kilnCharge k =
      some { c with startStamp := some s.stamp } := by
    rw [State.modKilnCharge_kilnCharge (Charge.keepsLedger_started s.stamp), bound]
    rfl
  unfold State.beginStart
  rw [State.modKiln_kilnCharge k _ _ (by exact rfl), State.adoptGeneration_kilnCharge started, State.modKilnCharge_directory]

/-- The kiln that starts: the starting setpoints, then the step entered, then RUNNING. -/
theorem State.startRunning_self {s : State} {k : KilnId} {c : Charge} (bound : s.kilnCharge k = some c) (j : Fin 24)
    (x : StepPosition) (hx : x.index = j.val) : (s.startRunning k x).kiln k =
      let entered := (s.kiln k).takeStarting.enter s.directory[c.entry].steps[j] x.index x.elapsed
      { s.kiln k with
        state := .running, stepCopy := some s.directory[c.entry].steps[j], position := some ⟨x.index, x.elapsed⟩
        entryPending := false
        targets := entered.targets, limited := entered.limited, setpoints := some (s.kiln k).startingPair
        ramping := entered.ramping, countdown := (s.kiln k).inUse.deviationMinutes }.markReported := by
  have prepared : (s.modKiln k Kiln.takeStarting).kilnCharge k = some c :=
    (State.modKiln_kilnCharge k Kiln.takeStarting s rfl).trans bound
  unfold State.startRunning
  rw [State.becomeRunning_self, State.modKilnCharge_kiln, State.enterStep_self_bound prepared hx.symm, State.kiln_modKiln_self]
  rfl

theorem State.startRunning_kilnCharge {s : State} {k : KilnId} {c : Charge} (bound : s.kilnCharge k = some c)
    (x : StepPosition) : (s.startRunning k x).kilnCharge k = some { c with state := .drying } := by
  unfold State.startRunning
  rw [State.becomeRunning_kilnCharge, State.modKilnCharge_kilnCharge Charge.keepsLedger_drying, State.enterStep_kilnCharge,
    State.modKiln_kilnCharge k _ s (by exact rfl), bound]
  rfl

theorem State.startRunning_directory (k : KilnId) (x : StepPosition) (s : State) :
    (s.startRunning k x).directory = s.directory := by
  unfold State.startRunning
  rw [(State.becomeRunning_sides k _).2, State.modKilnCharge_directory, State.enterStep_directory]
  rfl

theorem State.Alike.startRunning {u v t : State} (h : u.Alike v) {k : KilnId} {c : Charge} (bound : u.kilnCharge k = some c)
    (x : StepPosition) (directory : u.directory = v.directory) (ht : t = u.startRunning k x) :
    t = ({ v.raise (enterNotice k c x.index x.elapsed .start) with kilns := t.kilns, charges := t.charges } :
      State).announceState false k := by
  have prepared : (u.modKiln k Kiln.takeStarting).kilnCharge k = some c :=
    (State.modKiln_kilnCharge k Kiln.takeStarting u rfl).trans bound
  refine (((h.modKiln k _).enterStep prepared x.index x.elapsed .start).modKilnCharge k _).becomeRunning ht ?_
  rw [State.modKilnCharge_directory, State.enterStep_directory, State.raise_directory]
  exact directory

theorem serveStartKiln_refused (r : Request) (s : State) (h : r.args.length ≠ 1 ∨ 15 < u8 r.args 0) :
    serveStartKiln r s = ⟨s, .badArgument, []⟩ := by
  unfold serveStartKiln
  split
  · rfl
  · next layout =>
      rw [kilnArg?_none (h.resolve_left layout)]
      rfl

theorem serveStartKiln_state (r : Request) (s : State) (k : KilnId) (layout : r.args.length = 1) (hk : u8 r.args 0 = k.val)
    (other : (s.kiln k).state ≠ .loaded) : serveStartKiln r s = ⟨s, .wrongState, []⟩ := by
  unfold serveStartKiln
  rw [if_neg (not_not.mpr layout), kilnArg?_some hk]
  dsimp only
  split
  · next loaded _ => exact absurd loaded other
  · rfl

theorem serveStartKiln_starts (r : Request) (s : State) (k : KilnId) (x : StepPosition) (layout : r.args.length = 1)
    (hk : u8 r.args 0 = k.val) (loaded : (s.kiln k).state = .loaded) (pos : (s.kiln k).position = some x) :
    serveStartKiln r s = ⟨s.startKiln k x, .ok, (s.startKiln k x).stateByte k ++ ((s.startKiln k x).kiln k).indexByte
      ++ (s.startKiln k x).generationBytes k⟩ := by
  unfold serveStartKiln
  rw [if_neg (not_not.mpr layout), kilnArg?_some hk]
  dsimp only
  rw [loaded, pos]
  rfl

/-- What a reply of START_KILN shows of the part it leaves. -/
theorem State.startReply_eq {t : State} {k : KilnId} {x : StepPosition} {c : Charge} (pos : (t.kiln k).position = some x)
    (bound : t.kilnCharge k = some c) : t.stateByte k ++ (t.kiln k).indexByte ++ t.generationBytes k =
      be8 (t.kiln k).state.code ++ be8 x.index ++ be16 c.generation := by
  unfold State.stateByte State.generationBytes
  rw [Kiln.indexByte_some pos, State.chargeOf_eq bound]

/-- Settles O27: the request by the kiln's state, an accepted one by the step count of the charge's entry. -/
theorem startKilnEntersItsStep : Obligations.StartKilnEntersItsStep := by
  unfold Obligations.StartKilnEntersItsStep
  refine fun s d p g a ready => ⟨fun h => exec_reply rfl ready (serveStartKiln_refused _ s h), fun k layout hk =>
    ⟨fun other => exec_reply rfl ready (serveStartKiln_state _ s k layout hk other), fun c x loaded pos bound =>
      ⟨fun beyond => ?_, fun j hj within => ?_⟩⟩⟩
  all_goals
    have served := serveStartKiln_starts (requestFor .startKiln d p g a) s k x layout hk loaded pos
    have begun := State.beginStart_kilnCharge bound
    have self := State.beginStart_self k s
    have count : (s.beginStart k).boundCount k = s.directory[c.entry].header.count := by
      rw [State.boundCount_eq begun, State.beginStart_directory]
    have starts : s.startKiln k x = if s.directory[c.entry].header.count ≤ x.index then
        (s.beginStart k).completeCharge false k else (s.beginStart k).startRunning k x := by
      unfold State.startKiln
      dsimp only
      rw [count]
  · rw [if_pos beyond] at starts
    obtain ⟨charge, directory⟩ := State.completeCharge_sides false begun
    have kiln : (s.startKiln k x).kiln k = (s.kiln k).loadCountdown.finish.markReported := by
      rw [starts, State.completeCharge_self, self]
    have reports := ((State.Alike.refl s).beginStart k).completeCharge begun starts
    rw [self, State.beginStart_stamp, driedNotice_eq, State.announceState_outside] at reports
    rw [State.beginStart_directory] at directory
    rw [self, State.beginStart_stamp] at charge
    rw [← starts] at charge directory
    rw [State.startReply_eq (x := x) (by rw [kiln]; exact pos) charge] at served
    rw [show (s.startKiln k x).kiln k = _ from kiln] at served
    exact ⟨s.startKiln k x, exec_reply rfl ready served, (congrArg Kiln.state kiln :), (congrArg Kiln.setpoints kiln :),
      (congrArg Kiln.targets kiln :), (congrArg Kiln.limited kiln :), (congrArg Kiln.ramping kiln :),
      (congrArg Kiln.position kiln).trans pos, (congrArg Kiln.timer kiln :), (congrArg Kiln.countdown kiln :),
      by rw [directory]; exact congrArg DirEntry.inUse (Vector.getElem_set_self _), charge, reports⟩
  · rw [if_neg (by omega)] at starts
    have kiln := State.startRunning_self begun j x hj
    rw [self, State.beginStart_directory, ← starts] at kiln
    have charge := State.startRunning_kilnCharge begun x
    have aims := Kiln.enter_aimsAt s.directory[c.entry].steps[j] x.index x.elapsed (s.kiln k).loadCountdown.takeStarting
    rw [← starts] at charge
    have reports := ((State.Alike.refl s).beginStart k).startRunning begun x (State.beginStart_directory k s) starts
    rw [State.announceState_outside] at reports
    rw [State.startReply_eq (x := x) (by rw [kiln]; rfl) charge] at served
    rw [show (s.startKiln k x).kiln k = _ from kiln] at served
    exact ⟨s.startKiln k x, exec_reply rfl ready served, (congrArg Kiln.state kiln :), (congrArg Kiln.stepCopy kiln :),
      (congrArg Kiln.position kiln :), (congrArg Kiln.setpoints kiln :), (congrArg Kiln.inUse kiln :),
      by rw [kiln]; exact aims, (congrArg Kiln.countdown kiln :), (congrArg Kiln.timer kiln :),
      (congrArg Kiln.fan kiln :),
      by rw [starts, State.startRunning_directory, State.beginStart_directory], charge, reports⟩

end Sys2Proof.Machine
end

section
/-! PROOFS. The exit of a step and what it leads to (chapter 5, R95). -/

namespace Sys2Proof.Machine

theorem State.Alike.eq_charges {u v : State} (h : u.Alike v) (directory : u.directory = v.directory) :
    u = { v with kilns := u.kilns, charges := u.charges } := by
  have start := h.eq
  rwa [directory] at start

/-! ### The history entry (R95) -/

theorem Charge.keepsLedger_history (x : HistoryEntry) : Charge.KeepsLedger (fun c => { c with history := c.history ++ [x] }) :=
  fun _ => ⟨rfl, rfl, rfl, rfl, rfl, id, id⟩

theorem State.Alike.recordExit {u v : State} (h : u.Alike v) (k : KilnId) (p : StepPosition) (reason : ExitReason) :
    (u.recordExit k p reason).Alike v := (h.modKilnCharge k _).modKiln k _

theorem State.recordExit_kilnCharge {s : State} {k : KilnId} {c : Charge} (bound : s.kilnCharge k = some c) (p : StepPosition)
    (reason : ExitReason) : (s.recordExit k p reason).kilnCharge k =
      some { c with history := c.history ++ [⟨p.index, reason, p.elapsed, (s.kiln k).estimate.map Estimate.value⟩] } := by
  unfold State.recordExit
  rw [State.modKiln_kilnCharge k _ _ (by exact rfl), State.modKilnCharge_kilnCharge (Charge.keepsLedger_history _), bound]
  rfl

theorem State.recordExit_self (k : KilnId) (p : StepPosition) (reason : ExitReason) (s : State) :
    (s.recordExit k p reason).kiln k = { s.kiln k with position := some ⟨p.index + 1, p.elapsed⟩ } := by
  unfold State.recordExit
  rw [State.kiln_modKiln_self, State.modKilnCharge_kiln]

theorem State.recordExit_directory (k : KilnId) (p : StepPosition) (reason : ExitReason) (s : State) :
    (s.recordExit k p reason).directory = s.directory := State.modKilnCharge_directory k _ s

theorem State.recordExit_stamp (k : KilnId) (p : StepPosition) (reason : ExitReason) (s : State) :
    (s.recordExit k p reason).stamp = s.stamp := (congrArg State.stamp (State.recordExit_aside k p reason s) :)

/-! ### Going on under the present generation -/

/-- The part on the way to the next step: its exit recorded, a changed schedule followed. -/
def State.goesOn (k : KilnId) (c : Charge) (p : StepPosition) (reason : ExitReason) (s : State) : State :=
  if c.generation = s.directory[c.entry].generation then s.recordExit k p reason else (s.recordExit k p reason).follow k c

/-- What has been sent by then. -/
def State.toldFollowed (k : KilnId) (c : Charge) (s : State) : State :=
  if c.generation = s.directory[c.entry].generation then s else s.raise
    ⟨.scheduleFollowed, none, be8 k.val ++ be16 c.number ++ be16 s.directory[c.entry].generation⟩

theorem State.follow_kiln (k : KilnId) (c : Charge) (s : State) (j : KilnId) : (s.follow k c).kiln j = s.kiln j := by
  unfold State.follow
  rw [State.raise_kiln, State.adoptGeneration_kiln]

theorem State.goesOn_self (k : KilnId) (c : Charge) (p : StepPosition) (reason : ExitReason) (s : State) :
    (s.goesOn k c p reason).kiln k = { s.kiln k with position := some ⟨p.index + 1, p.elapsed⟩ } := by
  unfold State.goesOn
  split
  · exact State.recordExit_self k p reason s
  · rw [State.follow_kiln, State.recordExit_self]

theorem State.goesOn_alike (k : KilnId) (c : Charge) (p : StepPosition) (reason : ExitReason) (s : State) :
    (s.goesOn k c p reason).Alike (s.toldFollowed k c) := by
  have recorded := (State.Alike.refl s).recordExit k p reason
  unfold State.goesOn State.toldFollowed
  split
  · exact recorded
  · unfold State.follow
    rw [State.recordExit_directory]
    exact (recorded.adoptGeneration k).raise _

theorem State.goesOn_directory (k : KilnId) (c : Charge) (p : StepPosition) (reason : ExitReason) (s : State) :
    (s.goesOn k c p reason).directory = s.directory := by
  unfold State.goesOn
  split
  · exact State.recordExit_directory k p reason s
  · unfold State.follow
    rw [State.raise_directory, State.adoptGeneration_directory, State.recordExit_directory]

theorem State.toldFollowed_directory (k : KilnId) (c : Charge) (s : State) : (s.toldFollowed k c).directory = s.directory := by
  unfold State.toldFollowed
  split
  · rfl
  · exact State.raise_directory _ _

theorem State.goesOn_stamp (k : KilnId) (c : Charge) (p : StepPosition) (reason : ExitReason) (s : State) :
    (s.goesOn k c p reason).stamp = s.stamp := by
  unfold State.goesOn
  split
  · exact State.recordExit_stamp k p reason s
  · exact (congrArg State.stamp (State.follow_aside k c _) :).trans (State.recordExit_stamp k p reason s)

theorem State.goesOn_kilnCharge {s : State} {k : KilnId} {c : Charge} (bound : s.kilnCharge k = some c) (p : StepPosition)
    (reason : ExitReason) : (s.goesOn k c p reason).kilnCharge k = some { c with
      history := c.history ++ [⟨p.index, reason, p.elapsed, (s.kiln k).estimate.map Estimate.value⟩]
      generation := s.directory[c.entry].generation } := by
  have recorded := State.recordExit_kilnCharge bound p reason
  unfold State.goesOn
  split
  · next same =>
      rw [recorded, ← same]
  · unfold State.follow
    rw [State.kilnCharge_of_inner (State.raise_inner _ _) k, State.adoptGeneration_kilnCharge recorded,
      State.recordExit_directory]

/-- An exit that goes on: the next step entered, or the charge completed. -/
theorem State.exitStep_goesOn {s : State} {k : KilnId} {c : Charge} {p : StepPosition} (pos : (s.kiln k).position = some p)
    (bound : s.kilnCharge k = some c) (reason : ExitReason)
    (h : c.generation = s.directory[c.entry].generation ∨ c.follow = true) : s.exitStep k reason =
      if s.directory[c.entry].header.count ≤ p.index + 1 then (s.goesOn k c p reason).completeCharge true k
      else (s.goesOn k c p reason).enterStep k (p.index + 1) 0 .transition := by
  have count : (s.goesOn k c p reason).boundCount k = s.directory[c.entry].header.count := by
    rw [State.boundCount_eq (State.goesOn_kilnCharge bound p reason), State.goesOn_directory]
  have advances : s.exitStep k reason = (s.goesOn k c p reason).advance k (p.index + 1) := by
    unfold State.exitStep State.goesOn
    rw [pos, bound]
    dsimp only
    split
    · rfl
    · next other => rw [if_pos (h.resolve_left other)]
  rw [advances, State.advance, count]

/-- An exit at a changed schedule that is not followed: a hold. -/
theorem State.exitStep_holds {s : State} {k : KilnId} {c : Charge} {p : StepPosition} (pos : (s.kiln k).position = some p)
    (bound : s.kilnCharge k = some c) (reason : ExitReason)
    (h : ¬ (c.generation = s.directory[c.entry].generation ∨ c.follow = true)) :
    s.exitStep k reason = (s.recordExit k p reason).holdSchedule k c (p.index + 1) := by
  unfold State.exitStep
  rw [pos, bound]
  dsimp only
  rw [if_neg (fun same => h (.inl same)), if_neg (fun follows => h (.inr follows))]

/-! ### A hold at a changed schedule (R95, R104) -/

theorem State.holdSchedule_self (k : KilnId) (c : Charge) (index : Nat) (s : State) :
    (s.holdSchedule k c index).kiln k = ((s.kiln k).pushed ⟨.schedule, s.stamp⟩).markReported := by
  unfold State.holdSchedule
  rw [State.announceState_self, State.raise_kiln, State.stackEntry_self]

theorem State.holdSchedule_kilnCharge (k : KilnId) (c : Charge) (index : Nat) (s : State) :
    (s.holdSchedule k c index).kilnCharge k = (s.kilnCharge k).map Charge.countPush := by
  unfold State.holdSchedule
  rw [State.announceState_kilnCharge, State.kilnCharge_of_inner (State.raise_inner _ _) k, State.stackEntry_kilnCharge]

theorem State.holdSchedule_directory (k : KilnId) (c : Charge) (index : Nat) (s : State) :
    (s.holdSchedule k c index).directory = s.directory := by
  unfold State.holdSchedule
  rw [(State.announceState_sides k true _).2, State.raise_directory, State.stackEntry_directory]

theorem State.Alike.holdSchedule {u v t : State} (h : u.Alike v) {k : KilnId} {c : Charge} {index : Nat}
    (directory : u.directory = v.directory) (ht : t = u.holdSchedule k c index) :
    t = ({ v.raise ⟨.scheduleHeld, none, be8 k.val ++ be16 c.number ++ be8 index ++ be16 c.generation
        ++ be16 v.directory[c.entry].generation⟩ with kilns := t.kilns, charges := t.charges } : State).raiseStatus k := by
  have alike := (h.stackEntry .schedule k).raise ⟨.scheduleHeld, none, be8 k.val ++ be16 c.number ++ be8 index
    ++ be16 c.generation ++ be16 u.directory[c.entry].generation⟩
  have start := alike.announced_charges (t := t) (m := true) (k := k) ht
    ((State.raise_directory _ _).trans ((State.stackEntry_directory _ k u).trans
      (directory.trans (State.raise_directory _ v).symm)))
  rw [State.announceState_inside] at start
  simp only [directory] at start
  exact start

/-- Settles O30: an exit by what the generation and the follow flag say, then by the step count of the entry. -/
theorem stepExitsLeadOn : Obligations.StepExitsLeadOn := by
  unfold Obligations.StepExitsLeadOn
  refine fun s k reason c i e pos bound drying => ⟨fun goesOn j hj within => ?_, fun goesOn done => ?_, fun stays => ?_⟩
  · have exits := State.exitStep_goesOn pos bound reason goesOn
    rw [if_neg (by dsimp only; omega)] at exits
    have on := State.goesOn_kilnCharge bound ⟨i, e⟩ reason
    have directory := State.goesOn_directory k c ⟨i, e⟩ reason s
    have kiln := (State.enterStep_self_bound on hj 0 .transition).trans (Kiln.enter_eq _ _ _ _)
    rw [State.goesOn_self, directory] at kiln
    have aims := Kiln.enter_aimsAt s.directory[c.entry].steps[j] (i + 1) 0 { s.kiln k with position := some ⟨i + 1, e⟩ }
    have charge := (State.enterStep_kilnCharge k (i + 1) 0 .transition _).trans on
    have stays : ((s.goesOn k c ⟨i, e⟩ reason).enterStep k (i + 1) 0 .transition).directory = s.directory :=
      (State.enterStep_directory k _ _ _ _).trans directory
    have alike := (State.goesOn_alike k c ⟨i, e⟩ reason s).enterStep on (i + 1) 0 .transition
    have reports := alike.eq_charges (stays.trans ((State.raise_directory _ _).trans (State.toldFollowed_directory k c s)).symm)
    dsimp only at exits
    rw [← exits] at kiln charge stays reports
    exact ⟨charge, (congrArg Kiln.position kiln :), (congrArg Kiln.stepCopy kiln :), (congrArg Kiln.state kiln :),
      (congrArg Kiln.setpoints kiln :), (congrArg Kiln.inUse kiln :), by rw [kiln]; exact aims, (congrArg Kiln.fan kiln :),
      stays, reports⟩
  · have exits := State.exitStep_goesOn pos bound reason goesOn
    rw [if_pos done] at exits
    have on := State.goesOn_kilnCharge bound ⟨i, e⟩ reason
    obtain ⟨charge, directory⟩ := State.completeCharge_sides true on
    have kiln := State.completeCharge_self true k (s.goesOn k c ⟨i, e⟩ reason)
    have reports := (State.goesOn_alike k c ⟨i, e⟩ reason s).completeCharge on exits
    rw [State.goesOn_self] at kiln
    rw [State.goesOn_self, State.goesOn_stamp, driedNotice_eq, State.announceState_inside] at reports
    rw [State.goesOn_self, State.goesOn_stamp, ← exits] at charge
    rw [State.goesOn_directory, ← exits] at directory
    rw [← exits] at kiln
    exact ⟨charge, (congrArg Kiln.position kiln :), (congrArg Kiln.stepCopy kiln :), (congrArg Kiln.state kiln :),
      (congrArg Kiln.setpoints kiln :), (congrArg Kiln.targets kiln :), (congrArg Kiln.limited kiln :),
      (congrArg Kiln.ramping kiln :), directory, reports⟩
  · have exits := State.exitStep_holds pos bound reason stays
    have kiln := State.holdSchedule_self k c (i + 1) (s.recordExit k ⟨i, e⟩ reason)
    have charge := State.holdSchedule_kilnCharge k c (i + 1) (s.recordExit k ⟨i, e⟩ reason)
    have directory := State.holdSchedule_directory k c (i + 1) (s.recordExit k ⟨i, e⟩ reason)
    have reports := ((State.Alike.refl s).recordExit k ⟨i, e⟩ reason).holdSchedule
      (State.recordExit_directory k ⟨i, e⟩ reason s) exits
    rw [State.recordExit_self, State.recordExit_stamp] at kiln
    rw [State.recordExit_kilnCharge bound] at charge
    rw [State.recordExit_directory] at directory
    dsimp only at exits
    rw [← exits] at kiln charge directory
    exact ⟨charge, (congrArg Kiln.position kiln :), (congrArg Kiln.stepCopy kiln :), (congrArg Kiln.state kiln :),
      (congrArg Kiln.stack kiln :), (congrArg Kiln.entryPending kiln).trans (Bool.or_true _),
      (congrArg Kiln.setpoints kiln :), directory, reports⟩

end Sys2Proof.Machine
end

section
/-! PROOFS. The return to a schedule (chapter 6): popping an entry and RESUME (R107, R108), the clearing of latches in a free
order (R117), and RESTART (R120, R121). -/

namespace Sys2Proof.Machine

/-! ### The schedule entered again (R108, R121) -/

/-- A return to the schedule, within the step count: the present generation adopted, the step entered, the kiln RUNNING. -/
theorem State.resumeSchedule_enters {s : State} {k : KilnId} {c : Charge} {i e : Nat} {prepare : Kiln → Kiln}
    (keeps : ∀ q : Kiln, (prepare q).charge = q.charge) (bound : s.kilnCharge k = some c)
    (pos : (s.kiln k).position = some ⟨i, e⟩) {j : Fin 24} (hj : j.val = i) (within : i < s.directory[c.entry].header.count) :
    let t := s.resumeSchedule prepare k
    let entered := (prepare (s.kiln k)).enter s.directory[c.entry].steps[j] i 0
    t.kiln k = { prepare (s.kiln k) with
        state := .running, stepCopy := some s.directory[c.entry].steps[j], position := some ⟨i, 0⟩
        entryPending := false, targets := entered.targets, limited := entered.limited, ramping := entered.ramping
        countdown := (prepare (s.kiln k)).inUse.deviationMinutes }.markReported
      ∧ t.kilnCharge k = some { c with generation := s.directory[c.entry].generation }
      ∧ ∀ v : State, s.Alike v → s.directory = v.directory →
          t = (({ v.raise (enterNotice k { c with generation := s.directory[c.entry].generation } i 0 .resume) with
            kilns := t.kilns, charges := t.charges } : State).raiseStatus k).produceSetpoint k := by
  have adopted := State.adoptGeneration_kilnCharge bound
  have same := State.adoptGeneration_directory k s
  have prepared : ((s.adoptGeneration k).modKiln k prepare).kilnCharge k =
      some { c with generation := s.directory[c.entry].generation } :=
    (State.modKiln_kilnCharge k prepare _ (keeps _)).trans adopted
  have count : (s.adoptGeneration k).boundCount k = s.directory[c.entry].header.count := by
    rw [State.boundCount_eq adopted, same]
  have resumes : s.resumeSchedule prepare k =
      (((s.adoptGeneration k).modKiln k prepare).enterStep k i 0 .resume).becomeRunning k := by
    unfold State.resumeSchedule
    rw [pos]
    dsimp only [Option.map_some, Option.getD_some]
    rw [count, if_neg (Nat.not_le.mpr within)]
  intro t entered
  refine ⟨?_, ?_, fun v alike directory => ?_⟩
  · refine (congrArg (fun u : State => u.kiln k) resumes).trans ?_
    dsimp only
    rw [State.becomeRunning_self, State.enterStep_self_bound prepared hj, State.kiln_modKiln_self, State.adoptGeneration_kiln]
    rw [State.modKiln_directory, same]
    rfl
  · refine (congrArg (fun u : State => u.kilnCharge k) resumes).trans ?_
    rw [State.becomeRunning_kilnCharge, State.enterStep_kilnCharge, prepared]
  · have like := ((alike.adoptGeneration k).modKiln k prepare).enterStep prepared i 0 .resume
    have reports := like.becomeRunning resumes (by
      rw [State.enterStep_directory, State.modKiln_directory, same, State.raise_directory, directory])
    rw [State.announceState_outside] at reports
    exact reports

/-- A return to the schedule, past its steps: the charge is completed under the present generation. -/
theorem State.resumeSchedule_completes {s : State} {k : KilnId} {c : Charge} {i e : Nat} {prepare : Kiln → Kiln}
    (bound : s.kilnCharge k = some c) (pos : (s.kiln k).position = some ⟨i, e⟩)
    (past : s.directory[c.entry].header.count ≤ i) :
    let t := s.resumeSchedule prepare k
    t.kiln k = (s.kiln k).finish.markReported
      ∧ t.kilnCharge k = some (({ c with generation := s.directory[c.entry].generation } : Charge).complete s.stamp (s.kiln k))
      ∧ ∀ v : State, s.Alike v →
          t = (({ v.raise (driedNotice k { c with generation := s.directory[c.entry].generation } (s.kiln k) s.stamp) with
            kilns := t.kilns, charges := t.charges, directory := t.directory } : State).raiseStatus k).produceSetpoint k := by
  have adopted := State.adoptGeneration_kilnCharge bound
  have same := State.adoptGeneration_directory k s
  have stamp : (s.adoptGeneration k).stamp = s.stamp := (congrArg State.stamp (State.adoptGeneration_aside k s) :)
  have count : (s.adoptGeneration k).boundCount k = s.directory[c.entry].header.count := by
    rw [State.boundCount_eq adopted, same]
  have resumes : s.resumeSchedule prepare k = (s.adoptGeneration k).completeCharge false k := by
    unfold State.resumeSchedule
    rw [pos]
    dsimp only [Option.map_some, Option.getD_some]
    rw [count, if_pos past]
  intro t
  refine ⟨?_, ?_, fun v alike => ?_⟩
  · refine (congrArg (fun u : State => u.kiln k) resumes).trans ?_
    rw [State.completeCharge_self, State.adoptGeneration_kiln]
  · refine (congrArg (fun u : State => u.kilnCharge k) resumes).trans ?_
    rw [(State.completeCharge_sides false adopted).1, stamp, State.adoptGeneration_kiln]
  · have reports := (alike.adoptGeneration k).completeCharge adopted resumes
    rw [State.announceState_outside, State.adoptGeneration_kiln, stamp] at reports
    exact reports

/-! ### A kiln that runs again at an empty stack (R107) -/

theorem State.runIfEmpty_self (k : KilnId) (s : State) : (s.runIfEmpty k).kiln k =
    if (s.kiln k).stack = [] then { (s.kiln k).loadCountdown with state := .running }.markReported else s.kiln k := by
  unfold State.runIfEmpty
  by_cases empty : (s.kiln k).stack = []
  · rw [if_pos (List.isEmpty_iff.mpr empty), if_pos empty, State.becomeRunning_self]
  · rw [if_neg (fun yes => empty (List.isEmpty_iff.mp yes)), if_neg empty]

/-- What running again does not touch is as it was. -/
theorem State.runIfEmpty_field {α : Type} (field : Kiln → α)
    (keeps : ∀ q : Kiln, field { q.loadCountdown with state := .running }.markReported = field q) (k : KilnId) (s : State) :
    field ((s.runIfEmpty k).kiln k) = field (s.kiln k) := by
  rw [State.runIfEmpty_self]
  split
  · exact keeps _
  · rfl

theorem State.Alike.runIfEmpty {u v t : State} (h : u.Alike v) {k : KilnId} (charges : u.charges = v.charges)
    (directory : u.directory = v.directory) (ht : t = u.runIfEmpty k) :
    t = if (u.kiln k).stack = [] then (({ v with kilns := t.kilns } : State).raiseStatus k).produceSetpoint k
      else { v with kilns := t.kilns } := by
  by_cases empty : (u.kiln k).stack = []
  · have runs : t = u.becomeRunning k := ht.trans (if_pos (List.isEmpty_iff.mpr empty))
    have reports := (h.modKiln k _).announced_kilns runs charges directory
    rwa [if_pos empty, ← State.announceState_outside]
  · have stays : t = u := ht.trans (if_neg (fun yes => empty (List.isEmpty_iff.mp yes)))
    rw [if_neg empty, stays]
    exact h.eq_kilns charges directory

/-! ### A latch cleared (R117) -/

/-- What is raised when a latch is cleared. -/
def clearNotice (k : KilnId) (f : FaultKind) (cause : ClearCause) (charge : Option Nat) : Notice where
  kind := .faultCleared
  data := be8 k.val ++ be8 f.code ++ be8 cause.code ++ be16 (charge.getD 0)

theorem State.clearLatch_self (cause : ClearCause) (k : KilnId) (f : FaultKind) (s : State) :
    (s.clearLatch cause k f).kiln k = { s.kiln k with latches := (s.kiln k).latches.set f none } := by
  unfold State.clearLatch
  rw [State.raise_kiln, State.kiln_modKiln_self]

theorem State.clearLatch_charges (cause : ClearCause) (k : KilnId) (f : FaultKind) (s : State) :
    (s.clearLatch cause k f).charges = s.charges := State.raise_charges _ _

theorem State.clearLatch_directory (cause : ClearCause) (k : KilnId) (f : FaultKind) (s : State) :
    (s.clearLatch cause k f).directory = s.directory := State.raise_directory _ _

theorem State.Alike.clearLatch {u v : State} (h : u.Alike v) (cause : ClearCause) (k : KilnId) (f : FaultKind) :
    (u.clearLatch cause k f).Alike (v.raise (clearNotice k f cause (u.kiln k).charge)) := (h.modKiln k _).raise _

/-! ### RESUME (R107) -/

theorem State.condition_silent (s : State) (k : KilnId) :
    s.condition k .silent = true ↔ (s.kiln k).inUse.silenceMinutes ≤ (s.kiln k).silence := decide_eq_true_iff

theorem State.condition_range (s : State) (k : KilnId) : s.condition k .range = true ↔ (s.kiln k).verdict = some .bad :=
  beq_iff_eq

theorem State.condition_supervisor (s : State) (k : KilnId) :
    s.condition k .supervisor = true ↔ s.watchdog.state = .lapsed := beq_iff_eq

theorem Kiln.deviates_iff (q : Kiln) : q.deviates = some true ↔ ∃ last now, q.lastGood = some last ∧ q.setpoints = some now
    ∧ (q.inUse.deviationBand < last.dry - now.dry ∨ q.inUse.deviationBand < now.dry - last.dry) := by
  unfold Kiln.deviates
  cases q.lastGood <;> cases q.setpoints <;> simp [beyond_iff]

theorem State.condition_deviation (s : State) (k : KilnId) : s.condition k .deviation = true ↔ (s.kiln k).state = .running
    ∧ ∃ last now, (s.kiln k).lastGood = some last ∧ (s.kiln k).setpoints = some now
      ∧ ((s.kiln k).inUse.deviationBand < last.dry - now.dry ∨ (s.kiln k).inUse.deviationBand < now.dry - last.dry) := by
  rw [← Kiln.deviates_iff, State.condition, Bool.and_eq_true, beq_iff_eq, beq_iff_eq]

theorem serveResume_refused (r : Request) (s : State) (h : r.args.length ≠ 1 ∨ 15 < u8 r.args 0) :
    serveResume r s = ⟨s, .badArgument, []⟩ := by
  unfold serveResume
  split
  · rfl
  · next layout =>
      rw [kilnArg?_none (h.resolve_left layout)]
      rfl

theorem serveResume_empty (r : Request) (s : State) (k : KilnId) (layout : r.args.length = 1) (hk : u8 r.args 0 = k.val)
    (empty : (s.kiln k).stack = []) : serveResume r s = ⟨s, .wrongState, []⟩ := by
  unfold serveResume
  rw [if_neg (not_not.mpr layout), kilnArg?_some hk]
  dsimp only
  rw [empty]
  rfl

theorem serveResume_top (r : Request) (s : State) (k : KilnId) (layout : r.args.length = 1) (hk : u8 r.args 0 = k.val)
    {top : HoldEntry} {rest : List HoldEntry} (stack : (s.kiln k).stack = top :: rest) : serveResume r s =
      if s.resumeBlocked k top.kind = true then ⟨s, .conditionPresent, []⟩
      else ⟨s.resumeEntry top.kind k, .ok, (s.resumeEntry top.kind k).stateByte k
        ++ be8 ((s.resumeEntry top.kind k).kiln k).stack.length ++ be8 top.kind.code⟩ := by
  unfold serveResume
  rw [if_neg (not_not.mpr layout), kilnArg?_some hk]
  dsimp only
  rw [stack]
  rfl

/-- The part with the top entry popped, before its kiln may run again. -/
def State.popTop (top : HoldEntry) (k : KilnId) (s : State) : State :=
  match top.fault? with
  | none => s.modKiln k Kiln.popped
  | some f => (s.modKiln k Kiln.popped).clearLatch .resume k f

/-- What has been sent by then. -/
def State.toldPopped (top : HoldEntry) (k : KilnId) (s : State) : State :=
  match top.fault? with
  | none => s
  | some f => s.raise (clearNotice k f .resume (s.kiln k).charge)

theorem State.popTop_facts (top : HoldEntry) (k : KilnId) (s : State) :
    (s.popTop top k).Alike (s.toldPopped top k) ∧ (s.popTop top k).charges = (s.toldPopped top k).charges
      ∧ (s.popTop top k).directory = (s.toldPopped top k).directory := by
  have popped := (State.Alike.refl s).modKiln k Kiln.popped
  unfold State.popTop State.toldPopped
  split
  · exact ⟨popped, rfl, rfl⟩
  · next f _ =>
      have cleared := popped.clearLatch .resume k f
      rw [State.kiln_modKiln_self] at cleared
      exact ⟨cleared, (State.clearLatch_charges .resume k f _).trans (State.raise_charges _ s).symm,
        (State.clearLatch_directory .resume k f _).trans (State.raise_directory _ s).symm⟩

/-- The kiln with its top entry popped: the latch of a FAULT is cleared, nothing else differs. -/
theorem State.popTop_self (top : HoldEntry) (k : KilnId) (s : State) : (s.popTop top k).kiln k =
    { s.kiln k with
      stack := (s.kiln k).stack.tail
      latches := top.fault?.elim (s.kiln k).latches (fun f => (s.kiln k).latches.set f none) } := by
  unfold State.popTop
  cases top.fault? with
  | none =>
      dsimp only
      rw [State.kiln_modKiln_self]
      rfl
  | some f =>
      dsimp only
      rw [State.clearLatch_self, State.kiln_modKiln_self]
      rfl

theorem State.toldPopped_eq (top : HoldEntry) (k : KilnId) (s : State) : s.toldPopped top k =
    top.fault?.elim s (fun f => s.raise ⟨.faultCleared, none,
      be8 k.val ++ be8 (if f = .silent then 0 else if f = .range then 1 else if f = .deviation then 2 else 3) ++ be8 0
        ++ be16 ((s.kiln k).charge.getD 0)⟩) := by
  unfold State.toldPopped
  cases top.fault? with
  | none => rfl
  | some f =>
      simp only [clearNotice, FaultKind.code_eq]
      rfl

theorem State.popTop_latches (top : HoldEntry) (k : KilnId) (s : State) (f : FaultKind) :
    ((s.popTop top k).kiln k).latches.get f = if top.fault? = some f then none else (s.kiln k).latches.get f := by
  rw [State.popTop_self]
  cases fault : top.fault? with
  | none => exact (if_neg nofun).symm
  | some h =>
      by_cases same : h = f
      · rw [if_pos (congrArg some same), same]
        exact PerFault.get_set_self _ _ _
      · rw [if_neg (fun yes => same (Option.some.inj yes))]
        exact PerFault.get_set_other _ (Ne.symm same) _

theorem State.resumeEntry_pops {top : HoldEntry} (leaves : top.kind ≠ .schedule) (k : KilnId) (s : State) :
    s.resumeEntry top.kind k = (s.popTop top k).runIfEmpty k := by
  obtain ⟨kind, stamp⟩ := top
  cases kind with
  | schedule => exact absurd rfl leaves
  | _ => rfl

theorem State.resumeEntry_schedule (k : KilnId) (s : State) :
    s.resumeEntry .schedule k = (s.modKiln k Kiln.popped).resumeSchedule id k := rfl

/-- What an entry other than SCHEDULE on top says, where its condition is absent. -/
theorem HoldEntry.open_facts {s : State} {k : KilnId} {top : HoldEntry}
    (h : (∃ dry wet dr wr, top.kind = .override dry wet dr wr) ∨ ∃ f act, top.kind = .fault f act ∧ s.condition k f = false) :
    top.kind ≠ .schedule ∧ s.resumeBlocked k top.kind = false ∧ top.kind.code = if top.fault? = none then 1 else 2 := by
  obtain ⟨kind, stamp⟩ := top
  rcases h with ⟨dry, wet, dr, wr, rfl⟩ | ⟨f, act, rfl, absent⟩
  · exact ⟨nofun, rfl, rfl⟩
  · exact ⟨nofun, absent, rfl⟩

/-- Settles O35: the request by the stack's top; a popped entry by what it leaves below it, a SCHEDULE by the step count. -/
theorem resumePopsTheTop : Obligations.ResumePopsTheTop := by
  unfold Obligations.ResumePopsTheTop
  refine ⟨fun s k => ⟨State.condition_silent s k, State.condition_range s k, State.condition_deviation s k,
    State.condition_supervisor s k⟩, fun s d p g a ready => ⟨fun h => exec_reply rfl ready (serveResume_refused _ s h),
    fun k layout hk => ⟨fun empty => ?empty, fun f act stamp rest stack present => ?blocked,
      fun top rest stack held isOpen => ?pops, fun stamp i e c stack pos bound => ?schedule⟩⟩⟩
  case empty => exact exec_reply rfl ready (serveResume_empty _ s k layout hk empty)
  case blocked => exact exec_reply rfl ready ((serveResume_top _ s k layout hk stack).trans (if_pos present))
  case pops =>
    obtain ⟨leaves, unblocked, code⟩ := HoldEntry.open_facts isOpen
    have served := serveResume_top (requestFor .resume d p g a) s k layout hk stack
    rw [if_neg (fun blocked => Bool.false_ne_true (unblocked.symm.trans blocked)), State.resumeEntry_pops leaves, code] at served
    have below : ((s.popTop top k).kiln k).stack = rest := by
      rw [State.popTop_self, stack]
      rfl
    have self := State.popTop_self top k s
    obtain ⟨alike, charges, directory⟩ := State.popTop_facts top k s
    have reports := alike.runIfEmpty (k := k) charges directory rfl
    have kiln := State.runIfEmpty_self k (s.popTop top k)
    have latches := State.popTop_latches top k s
    have others (j : KilnId) (hj : j ≠ k) := State.resumeEntry_other top.kind k s j hj
    have field {α : Type} (f : Kiln → α) (keeps : ∀ q : Kiln, f { q.loadCountdown with state := .running }.markReported = f q) :=
      State.runIfEmpty_field f keeps k (s.popTop top k)
    rw [below, State.toldPopped_eq] at reports
    rw [below] at kiln
    rw [State.resumeEntry_pops leaves] at others
    generalize (s.popTop top k).runIfEmpty k = t at served reports kiln others field
    have left : (t.kiln k).stack = rest := (field Kiln.stack (fun _ => rfl)).trans below
    have state : (t.kiln k).state = if rest = [] then .running else .held := by
      rw [kiln]
      split
      · rfl
      · rw [self]
        exact held
    have countdown : (t.kiln k).countdown = if rest = [] then (s.kiln k).inUse.deviationMinutes else (s.kiln k).countdown := by
      rw [kiln, self]
      split <;> rfl
    have told (u : State) (h : u = top.fault?.elim s (fun f => s.raise ⟨.faultCleared, none,
        be8 k.val ++ be8 (if f = .silent then 0 else if f = .range then 1 else if f = .deviation then 2 else 3) ++ be8 0
          ++ be16 ((s.kiln k).charge.getD 0)⟩)) :
        t = if rest = [] then (({ u with kilns := t.kilns } : State).raiseStatus k).produceSetpoint k
          else { u with kilns := t.kilns } := by
      rw [h]
      exact reports
    rw [State.stateByte, state, left] at served
    refine ⟨t, exec_reply rfl ready served, left, state,
      (field Kiln.setpoints (fun _ => rfl)).trans (congrArg Kiln.setpoints self :),
      (field Kiln.position (fun _ => rfl)).trans (congrArg Kiln.position self :),
      (field Kiln.stepCopy (fun _ => rfl)).trans (congrArg Kiln.stepCopy self :), countdown,
      fun f => (congrArg (fun l => l.get f) (field Kiln.latches (fun _ => rfl))).trans (latches f), others, told _ ?_⟩
    cases top.fault? <;> rfl
  case schedule =>
    have served (t : State) (ht : t = (s.modKiln k Kiln.popped).resumeSchedule id k) :
        serveResume (requestFor .resume d p g a) s = ⟨t, .ok, be8 (t.kiln k).state.code ++ be8 (t.kiln k).stack.length ++ [3]⟩ := by
      subst ht
      exact (serveResume_top (requestFor .resume d p g a) s k layout hk stack).trans (if_neg Bool.false_ne_true)
    have popped : (s.modKiln k Kiln.popped).kilnCharge k = some c := (State.modKiln_kilnCharge k Kiln.popped s rfl).trans bound
    have self : (s.modKiln k Kiln.popped).kiln k = { s.kiln k with stack := [] } := by
      rw [State.kiln_modKiln_self, Kiln.popped, stack]
      rfl
    have place : ((s.modKiln k Kiln.popped).kiln k).position = some ⟨i, e⟩ := (congrArg Kiln.position self).trans pos
    have alike := (State.Alike.refl s).modKiln k Kiln.popped
    refine ⟨fun j hj within => ?_, fun past => ?_⟩
    · obtain ⟨kiln, charge, reports⟩ := State.resumeSchedule_enters (prepare := id) (fun _ => rfl) popped place hj within
      have told := reports s alike rfl
      have aims := Kiln.enter_aimsAt s.directory[c.entry].steps[j] i 0 { s.kiln k with stack := [] }
      rw [self] at kiln
      have reply := served _ rfl
      generalize (s.modKiln k Kiln.popped).resumeSchedule id k = t at kiln charge told reply
      rw [kiln] at reply
      exact ⟨t, exec_reply rfl ready reply, (congrArg Kiln.state kiln :), (congrArg Kiln.stack kiln :),
        (congrArg Kiln.stepCopy kiln :), (congrArg Kiln.position kiln :), (congrArg Kiln.entryPending kiln :),
        (congrArg Kiln.setpoints kiln :), (congrArg Kiln.countdown kiln :), (congrArg Kiln.inUse kiln :),
        by rw [kiln]; exact aims, charge, told⟩
    · obtain ⟨kiln, charge, reports⟩ := State.resumeSchedule_completes (prepare := id) popped place past
      have told := reports s alike
      rw [self] at kiln
      rw [self, driedNotice_eq] at told
      have reply := served _ rfl
      generalize (s.modKiln k Kiln.popped).resumeSchedule id k = t at kiln charge told reply
      rw [kiln] at reply
      exact ⟨t, exec_reply rfl ready reply, (congrArg Kiln.state kiln :), (congrArg Kiln.stack kiln :),
        (congrArg Kiln.entryPending kiln :), ⟨_, charge, rfl, rfl⟩, told⟩

end Sys2Proof.Machine
end

section
/-! PROOFS. The clearing of latches in an order that nothing fixes (R117), and RESTART (chapter 6, R120, R121). -/

namespace Sys2Proof.Machine

/-! ### A free order (log 8) -/

theorem freeOrderFrom_perm {α : Type} (c n : Nat) (l : List α) : (freeOrderFrom c n l).Perm l := by
  fun_induction freeOrderFrom c n l
  case case1 => exact .refl _
  case case2 => exact .refl _
  case case3 => exact .refl _
  case case4 fuel x y l i ih =>
    have within : i < (x :: y :: l).length := Nat.mod_lt _ (Nat.succ_pos _)
    rw [List.getD_eq_getElem _ _ within]
    exact (ih.cons _).trans (List.getElem_cons_eraseIdx_perm within)

theorem State.freeOrder_perm {α : Type} (s : State) (l : List α) : (s.freeOrder l).Perm l := freeOrderFrom_perm _ _ l

/-! ### Latches cleared one after the other (R117) -/

/-- What has been raised once the latches of an order are cleared. -/
def State.toldCleared (k : KilnId) (cause : ClearCause) (charge : Option Nat) (order : List FaultKind) (s : State) : State :=
  order.foldl (fun u f => u.raise (clearNotice k f cause charge)) s

theorem State.Alike.clearOrder (cause : ClearCause) (k : KilnId) (charge : Option Nat) (order : List FaultKind) {u v : State}
    (h : u.Alike v) (hc : (u.kiln k).charge = charge) :
    (order.foldl (State.clearLatch cause k) u).Alike (v.toldCleared k cause charge order) := by
  induction order generalizing u v with
  | nil => exact h
  | cons f order ih =>
      have first := h.clearLatch cause k f
      rw [hc] at first
      exact ih first (by rw [State.clearLatch_self]; exact hc)

/-- The latches with those of an order cleared. -/
def clearedOf (latches : PerFault (Option FaultAction)) (order : List FaultKind) : PerFault (Option FaultAction) :=
  order.foldl (fun l f => l.set f none) latches

theorem clearedOf_get (latches : PerFault (Option FaultAction)) (order : List FaultKind) (f : FaultKind) :
    (clearedOf latches order).get f = if f ∈ order then none else latches.get f := by
  induction order generalizing latches with
  | nil => exact (if_neg (List.not_mem_nil)).symm
  | cons h order ih =>
      rw [clearedOf, List.foldl_cons, ← clearedOf, ih]
      by_cases same : f = h
      · subst same
        rw [if_pos (List.mem_cons_self ..), PerFault.get_set_self, ite_self]
      · rw [PerFault.get_set_other _ same]
        simp only [List.mem_cons, same, false_or]

theorem State.clearOrder_self (cause : ClearCause) (k : KilnId) (order : List FaultKind) (s : State) :
    (order.foldl (State.clearLatch cause k) s).kiln k =
      { s.kiln k with latches := clearedOf (s.kiln k).latches order } := by
  induction order generalizing s with
  | nil => rfl
  | cons f order ih =>
      rw [List.foldl_cons, ih, State.clearLatch_self]
      rfl

theorem State.clearOrder_sides (cause : ClearCause) (k : KilnId) (order : List FaultKind) (s : State) :
    (order.foldl (State.clearLatch cause k) s).charges = s.charges
      ∧ (order.foldl (State.clearLatch cause k) s).directory = s.directory := by
  induction order generalizing s with
  | nil => exact ⟨rfl, rfl⟩
  | cons f order ih =>
      obtain ⟨charges, directory⟩ := ih (s.clearLatch cause k f)
      exact ⟨charges.trans (State.clearLatch_charges cause k f s), directory.trans (State.clearLatch_directory cause k f s)⟩

theorem State.toldCleared_sides (k : KilnId) (cause : ClearCause) (charge : Option Nat) (order : List FaultKind) (s : State) :
    (s.toldCleared k cause charge order).charges = s.charges ∧ (s.toldCleared k cause charge order).directory = s.directory := by
  unfold State.toldCleared
  induction order generalizing s with
  | nil => exact ⟨rfl, rfl⟩
  | cons f order ih =>
      obtain ⟨charges, directory⟩ := ih (s.raise (clearNotice k f cause charge))
      exact ⟨charges.trans (State.raise_charges _ s), directory.trans (State.raise_directory _ s)⟩

theorem State.Alike.drewFree {u v : State} (h : u.Alike v) (n : Nat) : (u.drewFree n).Alike (v.drewFree n) :=
  ⟨congrArg (State.drewFree n) h.1, h.2⟩

theorem State.clearLatches_self (cause : ClearCause) (k : KilnId) (fs : List FaultKind) (s : State) :
    (s.clearLatches cause k fs).kiln k = { s.kiln k with latches := clearedOf (s.kiln k).latches (s.freeOrder fs) } := by
  unfold State.clearLatches
  rw [State.drewFree_kiln, State.clearOrder_self]

theorem State.clearLatches_sides (cause : ClearCause) (k : KilnId) (fs : List FaultKind) (s : State) :
    (s.clearLatches cause k fs).charges = s.charges ∧ (s.clearLatches cause k fs).directory = s.directory :=
  State.clearOrder_sides cause k (s.freeOrder fs) s

theorem State.clearLatches_alike (cause : ClearCause) (k : KilnId) (fs : List FaultKind) (s : State) :
    (s.clearLatches cause k fs).Alike
      ((s.toldCleared k cause (s.kiln k).charge (s.freeOrder fs)).drewFree fs.length) :=
  ((State.Alike.refl s).clearOrder cause k _ (s.freeOrder fs) rfl).drewFree _

/-! ### The latches of a kiln, in a free order -/

theorem Kiln.mem_latched_iff (q : Kiln) (f : FaultKind) : f ∈ q.latched ↔ q.latches.get f ≠ none := by
  unfold Kiln.latched
  rw [List.mem_filter, Option.isSome_iff_ne_none]
  exact and_iff_right (FaultKind.mem_all f)

theorem State.order_latched (s : State) (q : Kiln) : (s.freeOrder q.latched).Nodup
    ∧ ∀ f, f ∈ s.freeOrder q.latched ↔ q.latches.get f ≠ none := by
  have perm := s.freeOrder_perm q.latched
  have distinct : q.latched.Nodup := List.Nodup.filter _ (by decide)
  exact ⟨perm.nodup_iff.mpr distinct, fun f => perm.mem_iff.trans (q.mem_latched_iff f)⟩

theorem PerFault.ext_get {α : Type} {x y : PerFault α} (h : ∀ f, x.get f = y.get f) : x = y := by
  obtain ⟨a, b, c, d⟩ := x
  obtain ⟨a', b', c', d'⟩ := y
  have first : a = a' := h .silent
  have second : b = b' := h .range
  have third : c = c' := h .deviation
  have fourth : d = d' := h .supervisor
  rw [first, second, third, fourth]

theorem State.clearedOf_latched (s : State) (q : Kiln) : clearedOf q.latches (s.freeOrder q.latched) = ⟨none, none, none, none⟩ := by
  refine PerFault.ext_get (fun f => ?_)
  have clear : PerFault.get (⟨none, none, none, none⟩ : PerFault (Option FaultAction)) f = none := by cases f <;> rfl
  rw [clearedOf_get, clear]
  by_cases set : q.latches.get f = none
  · rw [set, ite_self]
  · exact if_pos (((s.order_latched q).2 f).mpr set)

/-! ### RESTART (R120, R121) -/

/-- The part with every latch of the kiln cleared and no kind reported. -/
def State.unlatched (k : KilnId) (s : State) : State :=
  (s.clearLatches .restart k (s.kiln k).latched).modKiln k (fun q => { q with reported := ⟨false, false, false, false⟩ })

theorem State.unlatched_self (k : KilnId) (s : State) : (s.unlatched k).kiln k =
    { s.kiln k with latches := ⟨none, none, none, none⟩, reported := ⟨false, false, false, false⟩ } := by
  unfold State.unlatched
  rw [State.kiln_modKiln_self, State.clearLatches_self, State.clearedOf_latched]

/-- What has been sent by then: one FAULT_CLEARED for each latch. -/
def State.toldUnlatched (k : KilnId) (s : State) : State :=
  s.toldCleared k .restart (s.kiln k).charge (s.freeOrder (s.kiln k).latched)

theorem State.unlatched_alike (k : KilnId) (s : State) :
    (s.unlatched k).Alike ((s.toldUnlatched k).drewFree (s.kiln k).latched.length) :=
  (State.clearLatches_alike .restart k _ s).modKiln k _

theorem State.unlatched_sides (k : KilnId) (s : State) :
    (s.unlatched k).charges = s.charges ∧ (s.unlatched k).directory = s.directory :=
  State.clearLatches_sides .restart k (s.kiln k).latched s

theorem State.unlatched_kilnCharge (k : KilnId) (s : State) : (s.unlatched k).kilnCharge k = s.kilnCharge k :=
  State.kilnCharge_congr (by rw [State.unlatched_self]) (State.unlatched_sides k s).1

theorem State.toldUnlatched_eq (k : KilnId) (s : State) : s.toldUnlatched k =
    (s.freeOrder (s.kiln k).latched).foldl (fun u f => u.raise ⟨.faultCleared, none,
      be8 k.val ++ be8 (if f = .silent then 0 else if f = .range then 1 else if f = .deviation then 2 else 3) ++ be8 2
        ++ be16 ((s.kiln k).charge.getD 0)⟩) s := by
  unfold State.toldUnlatched State.toldCleared clearNotice
  simp only [FaultKind.code_eq]
  rfl

theorem State.restartKiln_runs {k : KilnId} {s : State} (clear : (s.kiln k).entryPending = false) :
    s.restartKiln k = ((s.unlatched k).modKiln k Kiln.takeStarting).becomeRunning k := by
  unfold State.restartKiln
  dsimp only
  rw [clear]
  exact if_neg Bool.false_ne_true

theorem State.restartKiln_returns {k : KilnId} {s : State} (pending : (s.kiln k).entryPending = true) :
    s.restartKiln k = (s.unlatched k).resumeSchedule Kiln.takeStarting k := by
  unfold State.restartKiln
  dsimp only
  rw [pending]
  exact if_pos rfl

/-- A report with the elapsed time known draws no free value. -/
theorem State.reports_freeCount {k : KilnId} {u : State} {x : StepPosition} (pos : (u.kiln k).position = some x) :
    ((u.raiseStatus k).produceSetpoint k).freeCount = u.freeCount := by
  rw [State.produceSetpoint_freeCount, State.raiseStatus_some pos, State.raise_freeCount]
  rfl

theorem serveRestart_refused (r : Request) (s : State) (h : r.args.length ≠ 1 ∨ 15 < u8 r.args 0) :
    serveRestart r s = ⟨s, .badArgument, []⟩ := by
  unfold serveRestart
  split
  · rfl
  · next layout =>
      rw [kilnArg?_none (h.resolve_left layout)]
      rfl

theorem serveRestart_kiln (r : Request) (s : State) (k : KilnId) (layout : r.args.length = 1) (hk : u8 r.args 0 = k.val) :
    serveRestart r s =
      if (s.kiln k).state ≠ .stopped then ⟨s, .wrongState, []⟩
      else if (s.kiln k).latched.any (s.condition k) then ⟨s, .conditionPresent, []⟩
      else ⟨s.restartKiln k, .ok, (s.restartKiln k).stateByte k ++ ((s.restartKiln k).kiln k).indexByte
        ++ ((s.restartKiln k).kiln k).elapsedReply⟩ := by
  unfold serveRestart
  rw [if_neg (not_not.mpr layout), kilnArg?_some hk]
  rfl

/-- The request accepted: its reply by the place at which the kiln stands then. -/
theorem serveRestart_restarts (r : Request) (s : State) (k : KilnId) (layout : r.args.length = 1) (hk : u8 r.args 0 = k.val)
    (stopped : (s.kiln k).state = .stopped) (absent : ∀ f, (s.kiln k).latches.get f ≠ none → s.condition k f = false)
    {x : StepPosition} (pos : ((s.restartKiln k).kiln k).position = some x) : serveRestart r s =
      ⟨s.restartKiln k, .ok, be8 ((s.restartKiln k).kiln k).state.code ++ be8 x.index ++ be16 x.elapsed⟩ := by
  have quiet : ¬ (s.kiln k).latched.any (s.condition k) = true := by
    rw [List.any_eq_true]
    rintro ⟨f, latched, present⟩
    exact Bool.false_ne_true ((absent f ((Kiln.mem_latched_iff _ f).mp latched)).symm.trans present)
  rw [serveRestart_kiln r s k layout hk, if_neg (not_not.mpr stopped), if_neg quiet, Kiln.indexByte_some pos,
    Kiln.elapsedReply_some pos]
  rfl

/-- What a RESTART with no entry pending leaves: the kiln, and the reports after the cleared latches. -/
theorem State.restartKiln_run {k : KilnId} {s : State} {x : StepPosition} (clear : (s.kiln k).entryPending = false)
    (pos : (s.kiln k).position = some x) :
    let t := s.restartKiln k
    t.kiln k = { s.kiln k with
        state := .running, latches := ⟨none, none, none, none⟩, reported := ⟨false, false, false, false⟩
        setpoints := some (s.kiln k).startingPair, ramping := (s.kiln k).takeStarting.ramping
        countdown := (s.kiln k).inUse.deviationMinutes }.markReported
      ∧ t.charges = s.charges
      ∧ t = (({ s.toldUnlatched k with kilns := t.kilns, freeCount := t.freeCount } : State).raiseStatus k).produceSetpoint k := by
  have runs := State.restartKiln_runs clear
  have kiln : (s.restartKiln k).kiln k = { s.kiln k with
      state := .running, latches := ⟨none, none, none, none⟩, reported := ⟨false, false, false, false⟩
      setpoints := some (s.kiln k).startingPair, ramping := (s.kiln k).takeStarting.ramping
      countdown := (s.kiln k).inUse.deviationMinutes }.markReported := by
    rw [runs, State.becomeRunning_self, State.kiln_modKiln_self, State.unlatched_self]
    rfl
  obtain ⟨charges, directory⟩ := State.unlatched_sides k s
  obtain ⟨toldCharges, toldDirectory⟩ :=
    State.toldCleared_sides k .restart (s.kiln k).charge (s.freeOrder (s.kiln k).latched) s
  have reports := (((State.unlatched_alike k s).modKiln k Kiln.takeStarting).modKiln k _).announced_kilns runs
    (charges.trans toldCharges.symm) (directory.trans toldDirectory.symm)
  rw [State.announceState_outside] at reports
  have place : ((s.restartKiln k).kiln k).position = some x := (congrArg Kiln.position kiln).trans pos
  have count := (congrArg State.freeCount reports).trans (State.reports_freeCount place)
  refine ⟨kiln, ?_, ?_⟩
  · rw [runs]
    exact (State.becomeRunning_sides k _).1.trans charges
  · rw [count]
    exact reports

theorem State.raise_drewFree (n : Notice) (s : State) (m : Nat) : (s.drewFree m).raise n = (s.raise n).drewFree m := by
  have count : (s.raise n).freeCount = s.freeCount := State.raise_freeCount n s
  unfold State.drewFree
  rw [State.raise_freeCount_with, count]

/-- What a RESTART with an entry pending leaves, within the step count. -/
theorem State.restartKiln_enters {k : KilnId} {s : State} {c : Charge} {i e : Nat} (pending : (s.kiln k).entryPending = true)
    (bound : s.kilnCharge k = some c) (pos : (s.kiln k).position = some ⟨i, e⟩) {j : Fin 24} (hj : j.val = i)
    (within : i < s.directory[c.entry].header.count) :
    let t := s.restartKiln k
    (t.kiln k).state = .running ∧ (t.kiln k).latches = ⟨none, none, none, none⟩
      ∧ (t.kiln k).stepCopy = some s.directory[c.entry].steps[j] ∧ (t.kiln k).position = some ⟨i, 0⟩
      ∧ (t.kiln k).setpoints = some (s.kiln k).startingPair ∧ (t.kiln k).entryPending = false
      ∧ (t.kiln k).inUse = (s.kiln k).inUse ∧ (t.kiln k).AimsAt s.directory[c.entry].steps[j]
      ∧ t.kilnCharge k = some { c with generation := s.directory[c.entry].generation }
      ∧ t = (({ (s.toldUnlatched k).raise (enterNotice k { c with generation := s.directory[c.entry].generation } i 0 .resume) with
          kilns := t.kilns, charges := t.charges, freeCount := t.freeCount } : State).raiseStatus k).produceSetpoint k := by
  have self := State.unlatched_self k s
  have directory := (State.unlatched_sides k s).2
  have toldDirectory :=
    (State.toldCleared_sides k .restart (s.kiln k).charge (s.freeOrder (s.kiln k).latched) s).2
  have returns := State.restartKiln_returns pending
  obtain ⟨kiln, charge, reports⟩ := State.resumeSchedule_enters (s := s.unlatched k) (prepare := Kiln.takeStarting)
    (fun _ => rfl) ((State.unlatched_kilnCharge k s).trans bound) ((congrArg Kiln.position self).trans pos) hj
    (by rw [directory]; exact within)
  have told := reports _ (State.unlatched_alike k s) (directory.trans toldDirectory.symm)
  have aims := Kiln.enter_aimsAt s.directory[c.entry].steps[j] i 0 ((s.unlatched k).kiln k).takeStarting
  rw [directory, ← returns] at kiln charge told
  rw [State.raise_drewFree] at told
  rw [self] at kiln aims
  have place : ((s.restartKiln k).kiln k).position = some ⟨i, 0⟩ := (congrArg Kiln.position kiln :)
  have count := (congrArg State.freeCount told).trans (State.reports_freeCount place)
  refine ⟨(congrArg Kiln.state kiln :), (congrArg Kiln.latches kiln :), (congrArg Kiln.stepCopy kiln :), place,
    (congrArg Kiln.setpoints kiln :), (congrArg Kiln.entryPending kiln :), (congrArg Kiln.inUse kiln :), ?_, charge, ?_⟩
  · rw [kiln]
    exact aims
  · rw [count]
    exact told

/-- What a RESTART with an entry pending leaves, past the steps. -/
theorem State.restartKiln_completes {k : KilnId} {s : State} {c : Charge} {i e : Nat}
    (pending : (s.kiln k).entryPending = true) (bound : s.kilnCharge k = some c) (pos : (s.kiln k).position = some ⟨i, e⟩)
    (past : s.directory[c.entry].header.count ≤ i) :
    let t := s.restartKiln k
    t.kiln k = { s.kiln k with
        latches := ⟨none, none, none, none⟩, reported := ⟨false, false, false, false⟩ }.finish.markReported
      ∧ (∃ c', t.kilnCharge k = some c' ∧ c'.state = .dried ∧ c'.generation = s.directory[c.entry].generation)
      ∧ t = (({ (s.toldUnlatched k).raise (driedNotice k { c with generation := s.directory[c.entry].generation } (s.kiln k)
            s.stamp) with
          kilns := t.kilns, charges := t.charges, directory := t.directory, freeCount := t.freeCount } :
            State).raiseStatus k).produceSetpoint k := by
  have self := State.unlatched_self k s
  have directory := (State.unlatched_sides k s).2
  have stamp : (s.unlatched k).stamp = s.stamp := (congrArg State.stamp (State.clearLatches_aside _ k _ s) :)
  have returns := State.restartKiln_returns pending
  obtain ⟨kiln, charge, reports⟩ := State.resumeSchedule_completes (s := s.unlatched k) (prepare := Kiln.takeStarting)
    ((State.unlatched_kilnCharge k s).trans bound) ((congrArg Kiln.position self).trans pos)
    (by rw [directory]; exact past)
  have told := reports _ (State.unlatched_alike k s)
  rw [← returns, self] at kiln
  rw [← returns, directory] at charge
  rw [← returns, directory, State.raise_drewFree, stamp, self] at told
  have place : ((s.restartKiln k).kiln k).position = some ⟨i, e⟩ := (congrArg Kiln.position kiln).trans pos
  have count := (congrArg State.freeCount told).trans (State.reports_freeCount place)
  refine ⟨kiln, ⟨_, charge, rfl, rfl⟩, ?_⟩
  rw [driedNotice_eq] at told count
  rw [count, driedNotice_eq]
  exact told

/-- Settles O37: the request by its checks; an accepted one by the entry pending and the step count. -/
theorem restartReturnsToTheSchedule : Obligations.RestartReturnsToTheSchedule := by
  unfold Obligations.RestartReturnsToTheSchedule
  intro s d p g a ready
  refine ⟨fun h => exec_reply rfl ready (serveRestart_refused _ s h), fun k layout hk => ⟨fun other => ?state,
    fun f stopped latched present => ?present, fun i e stopped absent pos => ⟨fun clear => ?runs,
      fun c pending bound => ⟨fun j hj within => ?enters, fun past => ?completes⟩⟩⟩⟩
  case state => exact exec_reply rfl ready ((serveRestart_kiln _ s k layout hk).trans (if_pos other))
  case present =>
    have meets : (s.kiln k).latched.any (s.condition k) = true :=
      List.any_eq_true.mpr ⟨f, (Kiln.mem_latched_iff _ f).mpr latched, present⟩
    exact exec_reply rfl ready ((serveRestart_kiln _ s k layout hk).trans
      ((if_neg (not_not.mpr stopped)).trans (if_pos meets)))
  all_goals have order := s.order_latched (s.kiln k)
  case runs =>
    obtain ⟨kiln, charges, reports⟩ := State.restartKiln_run clear pos
    have place : ((s.restartKiln k).kiln k).position = some ⟨i, e⟩ := (congrArg Kiln.position kiln).trans pos
    have served := serveRestart_restarts (requestFor .restart d p g a) s k layout hk stopped absent place
    rw [kiln] at served
    rw [State.toldUnlatched_eq] at reports
    refine ⟨s.restartKiln k, exec_reply rfl ready served, (congrArg Kiln.state kiln :), (congrArg Kiln.latches kiln :),
      (congrArg Kiln.reported kiln :), (congrArg Kiln.position kiln :), (congrArg Kiln.stepCopy kiln :),
      (congrArg Kiln.setpoints kiln :), (congrArg Kiln.targets kiln :), (congrArg Kiln.limited kiln :), fun x target => ?_,
      (congrArg Kiln.countdown kiln :), (congrArg Kiln.silence kiln :), charges,
      fun j hj => State.restartKiln_other k s j hj, _, order, reports⟩
    rw [kiln]
    exact (congrArg Kiln.ramping (Kiln.markRamping_eq
      (q := { s.kiln k with setpoints := some (s.kiln k).startingPair }) target rfl) :)
  case enters =>
    obtain ⟨state, latches, copy, place, setpoints, entry, inUse, aims, charge, reports⟩ :=
      State.restartKiln_enters pending bound pos hj within
    have served := serveRestart_restarts (requestFor .restart d p g a) s k layout hk stopped absent place
    dsimp only at served
    rw [state, show be16 0 = [0, 0] from rfl] at served
    rw [State.toldUnlatched_eq] at reports
    exact ⟨s.restartKiln k, exec_reply rfl ready served, state, latches, copy, place, setpoints, entry, inUse, aims, charge, _,
      order, reports⟩
  case completes =>
    obtain ⟨kiln, charge, reports⟩ := State.restartKiln_completes pending bound pos past
    have place : ((s.restartKiln k).kiln k).position = some ⟨i, e⟩ := (congrArg Kiln.position kiln).trans pos
    have served := serveRestart_restarts (requestFor .restart d p g a) s k layout hk stopped absent place
    rw [kiln] at served
    rw [State.toldUnlatched_eq, driedNotice_eq] at reports
    exact ⟨s.restartKiln k, exec_reply rfl ready served, (congrArg Kiln.state kiln :), (congrArg Kiln.latches kiln :), charge, _,
      order, reports⟩

end Sys2Proof.Machine
end

section
/-! PROOFS. LOAD_CHARGE (chapter 5, R81 to R84, R125, R126): the origins merged, the record taken, the checks, and what an accepted
load leaves. -/

namespace Sys2Proof.Machine

/-! ### The origins merged (R126) -/

theorem eraseDups_concat (l : List Nat) (n : Nat) :
    (l ++ [n]).eraseDups = if n ∈ l then l.eraseDups else l.eraseDups ++ [n] := by
  rw [List.eraseDups_append, List.removeAll]
  by_cases met : n ∈ l
  · rw [if_pos met, List.filter_cons_of_neg (by simpa using met)]
    exact List.append_nil _
  · rw [if_neg met, List.filter_cons_of_pos (by simpa using met)]
    rfl

theorem eraseDups_nodup (l : List Nat) : l.eraseDups.Nodup := by
  induction l using List.reverseRecOn with
  | nil => exact List.nodup_nil
  | append_singleton l n ih =>
      rw [eraseDups_concat]
      split
      · exact ih
      · next new => exact ih.append (List.nodup_singleton n) (by simpa using new)

/-- The merge keeps the first eight different numbers, and the flag tells of a ninth. -/
theorem mergeOrigin_foldl (l : List Nat) :
    l.foldl mergeOrigin ([], false) = (l.eraseDups.take 8, decide (8 < l.eraseDups.length)) := by
  induction l using List.reverseRecOn with
  | nil => rfl
  | append_singleton l n ih =>
      rw [List.foldl_append, ih, eraseDups_concat]
      change mergeOrigin (l.eraseDups.take 8, decide (8 < l.eraseDups.length)) n = _
      unfold mergeOrigin
      dsimp only
      by_cases short : l.eraseDups.length < 8
      · have kept : l.eraseDups.take 8 = l.eraseDups := List.take_of_length_le short.le
        have contains : l.eraseDups.contains n = true ↔ n ∈ l := List.contains_iff_mem.trans List.mem_eraseDups
        rw [kept]
        by_cases met : n ∈ l
        · rw [if_pos (contains.mpr met), if_pos met, kept]
        · rw [if_neg (fun yes => met (contains.mp yes)), if_neg met, if_pos short,
            List.take_of_length_le (by rw [List.length_append]; exact short), decide_eq_false (by omega),
            decide_eq_false (by rw [List.length_append, List.length_singleton]; omega)]
      · have full : (l.eraseDups.take 8).length = 8 := by
          rw [List.length_take]
          omega
        have longer : (l.eraseDups ++ [n]).take 8 = l.eraseDups.take 8 := List.take_append_of_le_length (by omega)
        rw [full, if_neg (Nat.lt_irrefl 8)]
        by_cases seen : (l.eraseDups.take 8).contains n = true
        · have met : n ∈ l := List.mem_eraseDups.mp (List.mem_of_mem_take (List.contains_iff_mem.mp seen))
          rw [if_pos seen, if_pos met]
        · rw [if_neg seen]
          by_cases met : n ∈ l
          · have beyond : 8 < l.eraseDups.length := by
              by_contra eight
              have all : l.eraseDups.take 8 = l.eraseDups := List.take_of_length_le (by omega)
              exact seen (List.contains_iff_mem.mpr (by rw [all]; exact List.mem_eraseDups.mpr met))
            rw [if_pos met, decide_eq_true beyond]
          · rw [if_neg met, longer, decide_eq_true (by rw [List.length_append, List.length_singleton]; omega)]

theorem mergeLots_eq (lots : List Lot) : mergeLots lots =
    ((lots.flatMap Lot.origins).eraseDups.take 8, decide (8 < (lots.flatMap Lot.origins).eraseDups.length)) :=
  mergeOrigin_foldl _

/-! ### The record taken (R35, R125) -/

/-- Stamps in one order: the unset ones first, each kind by value. -/
def Stamp.rank (x : Stamp) : Nat := (if x.isSet = true then 2 ^ 32 else 0) + x.value.toNat

theorem Stamp.older_iff (x y : Stamp) : x.older y = true ↔ x.rank < y.rank := by
  have hx := x.value.isLt
  have hy := y.value.isLt
  unfold Stamp.older Stamp.rank
  cases x.isSet <;> cases y.isSet <;> simp <;> omega

theorem Stamp.older_spec (x y : Stamp) : x.older y = true ↔
    (x.isSet = false ∧ y.isSet = true) ∨ (x.isSet = y.isSet ∧ x.value.toNat < y.value.toNat) := by
  unfold Stamp.older
  cases x.isSet <;> cases y.isSet <;> simp

/-- The oldest closed stamp of a list, and the first of equals. -/
structure State.FirstOldest (s : State) (l : List (Fin 48)) (i : Fin 48) : Prop where
  mem : i ∈ l
  oldest : ∀ j ∈ l, ∀ x y, s.charges[i].closedStamp = some x → s.charges[j].closedStamp = some y → x.rank ≤ y.rank
  first : ∀ before after, l = before ++ i :: after → i ∉ before → ∀ j ∈ before, ∀ x y,
    s.charges[i].closedStamp = some x → s.charges[j].closedStamp = some y → x.rank < y.rank

/-- What lies before the first of an element in a list with one more at its end. -/
theorem before_concat {l before after : List (Fin 48)} {i a : Fin 48} (h : l ++ [a] = before ++ i :: after) (new : i ∉ before)
    (mem : i ∈ l) : ∃ after', l = before ++ i :: after' := by
  rcases List.append_eq_append_iff.mp h with ⟨rest, hbefore, -⟩ | ⟨rest, hl, hrest⟩
  · subst hbefore
    exact absurd (List.mem_append_left _ mem) new
  · cases rest with
    | nil =>
        rw [List.append_nil] at hl
        exact absurd (hl ▸ mem) new
    | cons c rest =>
        rw [List.cons_append, List.cons.injEq] at hrest
        exact ⟨rest, by rw [hl, ← hrest.1]⟩

theorem State.FirstOldest.keeps {s : State} {l : List (Fin 48)} {i a : Fin 48} (h : s.FirstOldest l i)
    (notOlder : ∀ x y, s.charges[i].closedStamp = some x → s.charges[a].closedStamp = some y → x.rank ≤ y.rank) :
    s.FirstOldest (l ++ [a]) i where
  mem := List.mem_append_left _ h.mem
  oldest j hj x y hx hy := by
    rcases List.mem_append.mp hj with old | new
    · exact h.oldest j old x y hx hy
    · rw [List.mem_singleton.mp new] at hy
      exact notOlder x y hx hy
  first before after parts new j hj x y hx hy := by
    obtain ⟨after', parts'⟩ := before_concat parts new h.mem
    exact h.first before after' parts' new j hj x y hx hy

theorem State.FirstOldest.replaced {s : State} {l : List (Fin 48)} {i a : Fin 48} (h : s.FirstOldest l i) {x y : Stamp}
    (hx : s.charges[a].closedStamp = some x) (hy : s.charges[i].closedStamp = some y) (older : x.rank < y.rank) :
    s.FirstOldest (l ++ [a]) a := by
  have below (j : Fin 48) (hj : j ∈ l) (z : Stamp) (hz : s.charges[j].closedStamp = some z) : x.rank < z.rank :=
    Nat.lt_of_lt_of_le older (h.oldest j hj y z hy hz)
  have new : a ∉ l := fun old => Nat.lt_irrefl _ (below a old x hx)
  refine ⟨List.mem_append_right _ (List.mem_singleton_self a), fun j hj u z hu hz => ?_, fun before after parts fresh j hj u z hu hz => ?_⟩
  · obtain rfl := Option.some.inj (hx.symm.trans hu)
    rcases List.mem_append.mp hj with old | last
    · exact (below j old z hz).le
    · rw [List.mem_singleton.mp last] at hz
      exact (congrArg Stamp.rank (Option.some.inj (hx.symm.trans hz))).le
  · obtain rfl := Option.some.inj (hx.symm.trans hu)
    refine below j ?_ z hz
    rcases List.append_eq_append_iff.mp parts with ⟨rest, hbefore, hrest⟩ | ⟨rest, hl, -⟩
    · cases rest with
      | nil =>
          rw [hbefore, List.append_nil] at hj
          exact hj
      | cons c rest =>
          rw [List.cons_append, List.cons.injEq] at hrest
          refine absurd ?_ fresh
          rw [hbefore, hrest.1]
          exact List.mem_append_right _ (List.mem_cons_self ..)
    · rw [hl]
      exact List.mem_append_left _ hj

theorem State.FirstOldest.single (s : State) (a : Fin 48) : s.FirstOldest [a] a where
  mem := List.mem_singleton_self a
  oldest j hj x y hx hy := by
    rw [List.mem_singleton.mp hj] at hy
    exact (congrArg Stamp.rank (Option.some.inj (hx.symm.trans hy))).le
  first before after parts new j hj x y hx hy := by
    cases before with
    | nil => exact nomatch hj
    | cons b before =>
        rw [List.cons_append, List.cons.injEq] at parts
        exact absurd (parts.1 ▸ List.mem_cons_self ..) new

/-- One more record is taken where its stamp is older, and else changes nothing. -/
theorem State.FirstOldest.step {s : State} {l : List (Fin 48)} {b a i : Fin 48} (h : s.FirstOldest l b)
    (taken : s.olderRecord (some b) a = some i) : s.FirstOldest (l ++ [a]) i := by
  unfold State.olderRecord at taken
  dsimp only at taken
  split at taken
  · next x y hx hy =>
      split at taken
      · next older =>
          obtain rfl := Option.some.inj taken
          exact h.replaced hx hy ((Stamp.older_iff x y).mp older)
      · next notOlder =>
          obtain rfl := Option.some.inj taken
          refine h.keeps (fun u z hu hz => ?_)
          rw [Option.some.inj (hu.symm.trans hy), Option.some.inj (hz.symm.trans hx)]
          exact Nat.not_lt.mp (fun lower => notOlder ((Stamp.older_iff x y).mpr lower))
  · next unstamped =>
      obtain rfl := Option.some.inj taken
      exact h.keeps (fun u z hu hz => (unstamped z u hz hu).elim)

theorem State.olderRecord_firstOldest (s : State) (l : List (Fin 48)) :
    (l.foldl s.olderRecord none = none → l = []) ∧ ∀ i, l.foldl s.olderRecord none = some i → s.FirstOldest l i := by
  induction l using List.reverseRecOn with
  | nil => exact ⟨fun _ => rfl, fun _ h => nomatch h⟩
  | append_singleton l a ih =>
      obtain ⟨empty, best⟩ := ih
      rw [List.foldl_append]
      change (s.olderRecord (l.foldl s.olderRecord none) a = none → l ++ [a] = [])
        ∧ ∀ i, s.olderRecord (l.foldl s.olderRecord none) a = some i → s.FirstOldest (l ++ [a]) i
      cases found : l.foldl s.olderRecord none with
      | none =>
          rw [empty found]
          refine ⟨nofun, fun i taken => ?_⟩
          obtain rfl := Option.some.inj taken
          exact State.FirstOldest.single s a
      | some b =>
          refine ⟨fun none => ?_, fun i taken => (best b found).step taken⟩
          unfold State.olderRecord at none
          dsimp only at none
          split at none
          · split at none <;> exact nomatch none
          · exact nomatch none

theorem State.recordToTake_firstOldest {s : State} {i : Fin 48} (h : s.recordToTake = some i) : s.FirstOldest s.reuse i :=
  (State.olderRecord_firstOldest s s.reuse).2 i h

/-! ### The checks (R81, R82) -/

/-- The layout of a LOAD_CHARGE's arguments. -/
def LoadLayout (a : List Byte) : Prop :=
  a.length ∈ [11, 15, 19, 23, 27] ∧ u16 a 1 ≠ 0 ∧ u8 a 4 ≤ 15 ∧ (lotIds a).Nodup

theorem loadFits_iff (a : List Byte) : loadFits a = true ↔ LoadLayout a := by
  simp only [loadFits, LoadLayout, Bool.and_eq_true, Bool.or_eq_true, beq_iff_eq, bne_iff_ne, decide_eq_true_iff, ne_eq,
    List.mem_cons, List.not_mem_nil, or_false, or_assoc, and_assoc, Nat.lt_succ_iff]

theorem serveLoadCharge_refused (r : Request) (s : State) (h : ¬ LoadLayout r.args ∨ 15 < u8 r.args 0) :
    serveLoadCharge r s = ⟨s, .badArgument, []⟩ := by
  unfold serveLoadCharge
  by_cases layout : LoadLayout r.args
  · rw [(loadFits_iff _).mpr layout, kilnArg?_none (h.resolve_left (not_not.mpr layout))]
    cases index? 16 (u8 r.args 4) <;> rfl
  · rw [Bool.eq_false_iff.mpr (fun yes => layout ((loadFits_iff _).mp yes))]
    rfl

/-- Check 5 to the last one, the first failure (R82). -/
def State.loadAnswer (s : State) (k : KilnId) (d : Fin 32) (g : Fin 16) (args : List Byte) : Option Result :=
  (s.bindRefusal k d g).or ((s.loadRefusal d g args).or (if s.recordToTake = none then some .tableFull else none))

theorem State.unmapped_iff (s : State) (k : KilnId) :
    ((s.holder (.climate k)).isNone || (s.holder (.actuator k)).isNone) = true ↔
      s.holder (.climate k) = none ∨ s.holder (.actuator k) = none := by
  rw [Bool.or_eq_true, Option.isNone_iff_eq_none, Option.isNone_iff_eq_none]

/-- The serving of a LOAD_CHARGE whose layout fits, by the checks of the kiln. -/
theorem serveLoadCharge_kiln (r : Request) (s : State) (k : KilnId) (g : Fin 16) (layout : LoadLayout r.args)
    (hk : u8 r.args 0 = k.val) (hg : u8 r.args 4 = g.val) :
    ((s.kiln k).state ≠ .idle → serveLoadCharge r s = ⟨s, .wrongState, []⟩)
      ∧ ((s.kiln k).state = .idle → (s.holder (.climate k) = none ∨ s.holder (.actuator k) = none) →
          serveLoadCharge r s = ⟨s, .notMapped, []⟩)
      ∧ ((s.kiln k).state = .idle → ¬ (s.holder (.climate k) = none ∨ s.holder (.actuator k) = none) →
          (31 < u8 r.args 3 → serveLoadCharge r s = ⟨s, .badArgument, []⟩)
          ∧ ∀ d : Fin 32, u8 r.args 3 = d.val →
            (∀ x, s.loadAnswer k d g r.args = some x → serveLoadCharge r s = ⟨s, x, []⟩)
            ∧ ∀ i, s.loadAnswer k d g r.args = none → s.recordToTake = some i →
                serveLoadCharge r s = ⟨s.loadCharge k d g i r.args, .ok, []⟩) := by
  unfold serveLoadCharge
  rw [(loadFits_iff _).mpr layout, hg, index?_val, kilnArg?_some hk, Bool.not_true, if_neg Bool.false_ne_true]
  dsimp only
  refine ⟨fun busy => if_pos busy, fun idle unmapped => ?_, fun idle mapped => ?_⟩
  · rw [if_neg (not_not.mpr idle)]
    exact if_pos ((s.unmapped_iff k).mpr unmapped)
  · rw [if_neg (not_not.mpr idle), if_neg (fun yes => mapped ((s.unmapped_iff k).mp yes))]
    refine ⟨fun far => by rw [index?_of_le 32 _ far]; rfl, fun d hd => ?_⟩
    rw [hd, index?_val]
    dsimp only
    unfold State.loadAnswer
    cases s.bindRefusal k d g with
    | some x => exact ⟨fun y h => congrArg (refuse s) (Option.some.inj h), fun i h => nomatch h⟩
    | none =>
        cases s.loadRefusal d g r.args with
        | some x => exact ⟨fun y h => congrArg (refuse s) (Option.some.inj h), fun i h => nomatch h⟩
        | none =>
            cases s.recordToTake with
            | none => exact ⟨fun y h => congrArg (refuse s) (Option.some.inj h), fun i h => nomatch h⟩
            | some i => exact ⟨nofun, fun j _ h => by rw [Option.some.inj h]; rfl⟩

theorem State.bindRefusal_eq (s : State) (k : KilnId) (d : Fin 32) (g : Fin 16) : s.bindRefusal k d g =
    if s.directory[d].valid = false then some .notFound
    else if s.directory[d].header.permit.getLsbD (s.kiln k).inUse.group = false then some .notPermitted
    else if s.directory[d].header.species ≠ 255 ∧ s.directory[d].header.species ≠ g.val then some .speciesMismatch
    else none := by
  unfold State.bindRefusal
  simp only [Bool.not_eq_true']

theorem State.loadRefusal_eq (s : State) (d : Fin 32) (g : Fin 16) (args : List Byte) : s.loadRefusal d g args =
    if (s.findLive (u16 args 1)).isSome then some .inUse
    else if (lotIds args).any (fun x => (s.findLot x).isNone) = true then some .notFound
    else if ∃ l ∈ s.namedLots args, l.species.val ≠ g.val then some .speciesMismatch
    else if resumeGiven args = true ∧ (s.directory[d].header.count ≤ u8 args 8 ∨ 10080 < u16 args 9) then some .badArgument
    else none := by
  have mismatch : ((lotIds args).filterMap s.findLot).any (fun l => l.species != g) = true ↔
      ∃ l ∈ s.namedLots args, l.species.val ≠ g.val := by
    simp only [List.any_eq_true, bne_iff_ne, ne_eq, Fin.ext_iff, State.namedLots]
  have resume : (resumeGiven args && !(decide (u8 args 8 < s.directory[d].header.count) && decide (u16 args 9 ≤ 10080))) = true ↔
      resumeGiven args = true ∧ (s.directory[d].header.count ≤ u8 args 8 ∨ 10080 < u16 args 9) := by
    simp only [Bool.and_eq_true, Bool.not_eq_true', Bool.and_eq_false_iff, decide_eq_false_iff_not, Nat.not_lt, Nat.not_le]
  unfold State.loadRefusal
  simp only [mismatch, resume]

theorem State.loadCheck_eq (s : State) (k : KilnId) (d : Fin 32) (g : Fin 16) (args : List Byte) (hg : u8 args 4 = g.val) :
    s.loadCheck k d args =
      if (s.kiln k).state ≠ .idle then some .wrongState
      else if s.holder (.climate k) = none ∨ s.holder (.actuator k) = none then some .notMapped
      else s.loadAnswer k d g args := by
  unfold State.loadCheck State.loadAnswer
  rw [hg, State.bindRefusal_eq, State.loadRefusal_eq]
  split_ifs <;> rfl

/-- The request for an entry of the directory: the first check that fails, or the record taken. -/
theorem serveLoadCharge_entry (r : Request) (s : State) (k : KilnId) (d : Fin 32) (g : Fin 16) (layout : LoadLayout r.args)
    (hk : u8 r.args 0 = k.val) (hg : u8 r.args 4 = g.val) (hd : u8 r.args 3 = d.val) :
    (∀ x, s.loadCheck k d r.args = some x → serveLoadCharge r s = ⟨s, x, []⟩)
      ∧ ∀ i, s.loadCheck k d r.args = none → s.recordToTake = some i →
          serveLoadCharge r s = ⟨s.loadCharge k d g i r.args, .ok, []⟩ := by
  obtain ⟨busy, unmapped, mapped⟩ := serveLoadCharge_kiln r s k g layout hk hg
  rw [State.loadCheck_eq s k d g r.args hg]
  by_cases idle : (s.kiln k).state = .idle
  · rw [if_neg (not_not.mpr idle)]
    by_cases absent : s.holder (.climate k) = none ∨ s.holder (.actuator k) = none
    · rw [if_pos absent]
      exact ⟨fun x h => Option.some.inj h ▸ unmapped idle absent, fun i h => nomatch h⟩
    · rw [if_neg absent]
      exact (mapped idle absent).2 d hd
  · rw [if_pos idle]
    exact ⟨fun x h => Option.some.inj h ▸ busy idle, fun i h => nomatch h⟩

/-! ### What an accepted load leaves (R83, R84) -/

theorem lotIds_length (a : List Byte) : (lotIds a).length = (a.length - 11) / 4 := by
  unfold lotIds
  rw [List.length_map, List.length_range]

/-- A charge is a redry charge just where lots are named, all of which are held. -/
theorem State.namedLots_isEmpty {s : State} {a : List Byte} (length : a.length ∈ [11, 15, 19, 23, 27])
    (held : ¬ (lotIds a).any (fun x => (s.findLot x).isNone) = true) : (!(s.namedLots a).isEmpty) = (a.length != 11) := by
  have count := lotIds_length a
  cases ids : lotIds a with
  | nil =>
      rw [ids] at count
      have eleven : a.length = 11 := by
        simp only [List.mem_cons, List.not_mem_nil, or_false] at length
        rw [List.length_nil] at count
        omega
      rw [State.namedLots, ids, eleven]
      rfl
  | cons x rest =>
      rw [ids] at count held
      have more : (a.length != 11) = true := bne_iff_ne.mpr (fun eleven => by rw [eleven] at count; exact nomatch count)
      cases lot : s.findLot x with
      | none => exact absurd (by rw [List.any_cons, lot]; rfl) held
      | some l =>
          rw [more, State.namedLots, ids, List.filterMap_cons_some lot]
          rfl

theorem State.loadCheck_held {s : State} {k : KilnId} {d : Fin 32} {a : List Byte} (h : s.loadCheck k d a = none) :
    ¬ (lotIds a).any (fun x => (s.findLot x).isNone) = true := by
  intro missing
  unfold State.loadCheck at h
  rw [if_pos missing] at h
  split_ifs at h

/-- The kiln with a charge loaded, field by field, as its report leaves it. -/
theorem Kiln.load_eq (n : Nat) (a : List Byte) (q : Kiln) : (q.load n a).markReported =
    { q with
      state := .loaded, charge := some n, stepCopy := none
      position := some (if resumeGiven a = true then ⟨u8 a 8, u16 a 9⟩ else ⟨0, 0⟩)
      targets := none, limited := false, setpoints := some ⟨q.inUse.idleDry, q.inUse.idleWet⟩, ramping := false
      fan := .forward, climateStatus := none, verdict := none, lastGood := none, mask := BitVec.ofNat 12 (u16 a 5)
      channels := Vector.replicate 12 none, estimate := none, wettest := none, stack := [], entryPending := false
      latches := ⟨none, none, none, none⟩, reported := ⟨false, false, false, false⟩, silence := 0
      countdown := q.inUse.deviationMinutes, timer := some 0
      reportedDry := none, reportedWet := none, reportedEstimate := none } := rfl

theorem State.loadCharge_eq (k : KilnId) (d : Fin 32) (g : Fin 16) (i : Fin 48) (a : List Byte) (s : State) :
    s.loadCharge k d g i a = ((s.takeCharge k d g i a).modKiln k (Kiln.load (u16 a 1) a)).announceState false k := rfl

theorem State.loadCharge_self (k : KilnId) (d : Fin 32) (g : Fin 16) (i : Fin 48) (a : List Byte) (s : State) :
    (s.loadCharge k d g i a).kiln k = ((s.kiln k).load (u16 a 1) a).markReported := by
  rw [State.loadCharge_eq, State.announceState_self, State.kiln_modKiln_self]
  rfl

theorem State.loadCharge_other (k : KilnId) (d : Fin 32) (g : Fin 16) (i : Fin 48) (a : List Byte) (s : State) (j : KilnId)
    (hj : j ≠ k) : (s.loadCharge k d g i a).kiln j = s.kiln j := by
  rw [State.loadCharge_eq, State.announceState_other _ _ _ j hj, State.kiln_modKiln_other _ _ hj]
  rfl

/-- The rest of the part is that of the tables taken. -/
theorem State.loadCharge_aside (k : KilnId) (d : Fin 32) (g : Fin 16) (i : Fin 48) (a : List Byte) (s : State) :
    (s.loadCharge k d g i a).aside = (s.takeCharge k d g i a).aside := by
  rw [State.loadCharge_eq, State.announceState_aside, State.modKiln_aside]

theorem State.aside_tables {s t : State} (h : t.aside = s.aside) : t.reuse = s.reuse ∧ t.lots = s.lots ∧ t.line = s.line
    ∧ t.bins = s.bins ∧ t.packLog = s.packLog ∧ t.stations = s.stations ∧ t.species = s.species :=
  ⟨(congrArg State.reuse h :), (congrArg State.lots h :), (congrArg State.line h :), (congrArg State.bins h :),
    (congrArg State.packLog h :), (congrArg State.stations h :), (congrArg State.species h :)⟩

theorem State.loadCharge_sides (k : KilnId) (d : Fin 32) (g : Fin 16) (i : Fin 48) (a : List Byte) (s : State) :
    (s.loadCharge k d g i a).charges = (s.takeCharge k d g i a).charges
      ∧ (s.loadCharge k d g i a).directory = (s.takeCharge k d g i a).directory := State.announceState_sides k false _

/-- The reports of a load: those of the part with the tables and units that the load leaves. -/
theorem State.loadCharge_reports (k : KilnId) (d : Fin 32) (g : Fin 16) (i : Fin 48) (a : List Byte) (s : State) :
    s.loadCharge k d g i a = (({ s with
      kilns := (s.loadCharge k d g i a).kilns, charges := (s.loadCharge k d g i a).charges
      reuse := s.reuse.erase i, lots := s.lots.filter (fun l => !(lotIds a).contains l.id)
      directory := (s.loadCharge k d g i a).directory } : State).raiseStatus k).produceSetpoint k := by
  have start := ((State.Alike.refl (s.takeCharge k d g i a)).modKiln k (Kiln.load (u16 a 1) a)).announced
    (State.loadCharge_eq k d g i a s)
  rw [State.announceState_outside] at start
  exact start

/-- Settles O26: the request by its checks in order; the tables, the kiln and the reports of an accepted load; the record taken
and the origins merged. -/
theorem loadChargeChecksAndBinds : Obligations.LoadChargeChecksAndBinds := by
  unfold Obligations.LoadChargeChecksAndBinds
  refine ⟨fun s d p g a ready => ⟨fun h => exec_reply rfl ready (serveLoadCharge_refused _ s h), fun k layout hk => ?checks⟩,
    fun s d p g a k e i sp ready length number species lots hk he checked record => ?loads,
    fun s i record => ?oldest, Stamp.older_spec, fun ls => ?merged, fun ls => ?first⟩
  case checks =>
    obtain ⟨sp, species⟩ : ∃ sp : Fin 16, u8 a 4 = sp.val := ⟨⟨u8 a 4, Nat.lt_succ_of_le layout.2.2.1⟩, rfl⟩
    obtain ⟨busy, unmapped, mapped⟩ := serveLoadCharge_kiln (requestFor .loadCharge d p g a) s k sp layout hk species
    refine ⟨fun h => exec_reply rfl ready (busy h), fun idle h => exec_reply rfl ready (unmapped idle h),
      fun idle climate actuator far => ?_, fun e x he h => ?_⟩
    · exact exec_reply rfl ready ((mapped idle (fun absent => absent.elim climate actuator)).1 far)
    · exact exec_reply rfl ready ((serveLoadCharge_entry (requestFor .loadCharge d p g a) s k e sp layout hk species he).1 x h)
  case loads =>
    have served := (serveLoadCharge_entry (requestFor .loadCharge d p g a) s k e sp
      ⟨length, number, species.trans_le (Nat.le_of_lt_succ sp.isLt), lots⟩ hk species he).2 i checked record
    obtain ⟨charges, directory⟩ := State.loadCharge_sides k e sp i a s
    obtain ⟨reuse, stored, line, bins, log, stations, groups⟩ := State.aside_tables (State.loadCharge_aside k e sp i a s)
    have redry := State.namedLots_isEmpty length (State.loadCheck_held checked)
    refine ⟨s.loadCharge k e sp i a, exec_reply rfl ready served, ?_, fun j hj => ?_, reuse, stored, directory,
      State.loadCharge_self k e sp i a s, fun j hj => State.loadCharge_other k e sp i a s j hj,
      line, bins, log, stations, groups, ?_⟩
    · rw [charges, ← redry]
      exact Vector.getElem_set_self i.isLt
    · rw [charges]
      exact Vector.getElem_set_ne i.isLt j.isLt (fun same => hj (Fin.ext same.symm))
    · rw [reuse, stored]
      change s.loadCharge k e sp i a = (({ s with
        kilns := (s.loadCharge k e sp i a).kilns, charges := (s.loadCharge k e sp i a).charges
        reuse := s.reuse.erase i, lots := s.lots.filter (fun l => !(lotIds a).contains l.id)
        directory := (s.loadCharge k e sp i a).directory } : State).raiseStatus k).produceSetpoint k
      exact State.loadCharge_reports k e sp i a s
  case oldest =>
    obtain ⟨mem, oldest, first⟩ := State.recordToTake_firstOldest record
    refine ⟨mem, fun j hj x y hx hy => ?_, fun before after parts new j hj x y hx hy => ?_⟩
    · exact Bool.eq_false_iff.mpr (fun older =>
        Nat.not_lt.mpr (oldest j hj x y hx hy) ((Stamp.older_iff y x).mp older))
    · exact (Stamp.older_iff x y).mpr (first before after parts new j hj x y hx hy)
  case merged =>
    rw [mergeLots_eq]
    exact ⟨List.length_take_le _ _, (eraseDups_nodup _).sublist (List.take_sublist _ _)⟩
  case first =>
    rw [mergeLots_eq]
    exact ⟨rfl, decide_eq_true_iff⟩

end Sys2Proof.Machine
end

section
/-! PROOFS. The kiln minute (chapter 5): its parts in order, and the latches that clear themselves (R87, R88, R117). -/

namespace Sys2Proof.Machine

/-! ### What an exit and a detection leave of their kiln -/

/-- The fields of a kiln that only loads, minutes and arrivals write. -/
def Kiln.readings (q : Kiln) : Kiln :=
  { timer := q.timer, inUse := q.inUse, written := q.written, silence := q.silence, channels := q.channels
    estimate := q.estimate, wettest := q.wettest }

theorem Kiln.readings_context (q : Kiln) : q.context.readings = q.readings := rfl

theorem State.detect_readings (m : Bool) (f : FaultKind) (k : KilnId) (s : State) :
    ((s.detect m f k).kiln k).readings = (s.kiln k).readings := by
  rw [← Kiln.readings_context, State.detect_context, Kiln.readings_context]

theorem Kiln.deriveTargets_readings (q : Kiln) : q.deriveTargets.readings = q.readings := by
  unfold Kiln.deriveTargets
  split <;> rfl

theorem State.advance_readings (k : KilnId) (i : Nat) (s : State) :
    ((s.advance k i).kiln k).readings = (s.kiln k).readings := by
  unfold State.advance
  split
  · rw [State.completeCharge_self]
    rfl
  · rw [State.enterStep_self, Kiln.enter_eq]
    exact Kiln.deriveTargets_readings { s.kiln k with
      stepCopy := some (s.poolSlot (s.chargeOf k).entry i), position := some ⟨i, 0⟩, entryPending := false }

theorem State.exitStep_readings (k : KilnId) (reason : ExitReason) (s : State) :
    ((s.exitStep k reason).kiln k).readings = (s.kiln k).readings := by
  unfold State.exitStep
  split
  · next p c _ _ =>
      have recorded : ((s.recordExit k p reason).kiln k).readings = (s.kiln k).readings := by
        rw [State.recordExit_self]
        rfl
      dsimp only
      split
      · rw [State.advance_readings, recorded]
      · split
        · rw [State.advance_readings, State.follow_kiln, recorded]
        · rw [State.holdSchedule_self]
          exact recorded
  · rfl

theorem State.applyDeviation_readings (k : KilnId) (s : State) :
    ((s.applyDeviation k).kiln k).readings = (s.kiln k).readings := by
  unfold State.applyDeviation
  dsimp only
  split
  · rfl
  · split
    · rfl
    · rw [State.kiln_modKiln_self]
      rfl
    · split
      · rfl
      · split
        · rw [State.detect_readings, State.kiln_modKiln_self]
          rfl
        · rw [State.kiln_modKiln_self]
          rfl

/-! ### The limits of a minute (R80, R88 part 1) -/

theorem Kiln.minuteLimits_eq (q : Kiln) : q.minuteLimits =
    { q with inUse := q.written, setpoints := q.minuteLimits.setpoints, ramping := q.minuteLimits.ramping } := by
  have shape : ∃ set ramping, q.minuteLimits = { q with inUse := q.written, setpoints := set, ramping := ramping } := by
    fun_cases Kiln.minuteLimits q <;> exact ⟨_, _, rfl⟩
  obtain ⟨set, ramping, shape⟩ := shape
  rw [shape]

/-- The limits of a minute do not depend on the timer. -/
theorem Kiln.minuteLimits_timer (q : Kiln) (n : Option Nat) :
    ({ q with timer := n } : Kiln).minuteLimits = { q.minuteLimits with timer := n } := by
  unfold Kiln.minuteLimits
  dsimp only
  split <;> rfl

theorem Kiln.minuteLimits_rests {q : Kiln} (h : q.state = .loaded ∨ q.state = .done) :
    q.minuteLimits.setpoints = some ⟨q.written.idleDry, q.written.idleWet⟩ := by
  unfold Kiln.minuteLimits
  rcases h with h | h <;> rw [h] <;> rfl

theorem Kiln.minuteLimits_clamps {q : Kiln} {now : TempPair} (h : q.state = .running ∨ q.state = .held ∨ q.state = .stopped)
    (set : q.setpoints = some now) : q.minuteLimits.setpoints = some (q.written.clampPair now) := by
  unfold Kiln.minuteLimits
  rcases h with h | h | h <;> rw [h, set] <;> rfl

theorem Kiln.minuteLimits_ramping {q : Kiln} (busy : q.state ≠ .idle) : q.minuteLimits.ramping =
    (q.targets.isSome && q.minuteLimits.setpoints.isSome && q.targets != q.minuteLimits.setpoints) := by
  unfold Kiln.minuteLimits
  cases h : q.state with
  | idle => exact absurd h busy
  | loaded => rfl
  | done => rfl
  | running => rfl
  | held => rfl
  | stopped => rfl

theorem ramping_of_no_targets (set : Option TempPair) (t : Option TempPair) (h : t = none) :
    (t.isSome && set.isSome && t != set) = false := by
  rw [h]
  rfl

theorem ramping_of_targets {t set : Option TempPair} {x now : TempPair} (target : t = some x) (h : set = some now) :
    (t.isSome && set.isSome && t != set) = decide (now ≠ x) :=
  (congrArg Kiln.ramping (Kiln.markRamping_eq (q := { targets := t, setpoints := set }) target h) :)

/-! ### The ageing of a minute (R51, R88 part 2) -/

/-- A channel held for 29 minutes is lost by one more. -/
theorem channelLost_eq (c : Option Channel) : channelLost c = c.any (fun x => decide (29 ≤ x.age)) := by
  cases c with
  | none => rfl
  | some x => exact decide_eq_decide.mpr (Nat.add_le_add_iff_right (m := 29) (n := 1))

theorem Channel.aged_eq (c : Channel) : c.aged = if 29 ≤ c.age then none else some { c with age := c.age + 1 } := by
  unfold Channel.aged
  by_cases old : 29 ≤ c.age
  · rw [if_pos old, if_pos (Nat.succ_le_succ old)]
  · rw [if_neg old, if_neg (fun h => old (Nat.le_of_succ_le_succ h))]

/-- Whether a kiln loses a channel by one more minute. -/
def Kiln.losing (q : Kiln) : Bool := q.channels.toList.any (fun c => c.any (fun x => decide (29 ≤ x.age)))

/-- The channels one minute older. -/
def Kiln.olderChannels (q : Kiln) : Vector (Option Channel) 12 :=
  q.channels.map (fun c => c.bind (fun x => if 29 ≤ x.age then none else some { x with age := x.age + 1 }))

/-- The kiln one minute older, its figures recomputed where a channel is lost. -/
def Kiln.aged (q : Kiln) : Kiln :=
  { q with
    channels := q.olderChannels
    estimate := if q.losing = true then estimateOf (q.olderChannels.toList.filterMap id) else q.estimate
    wettest := if q.losing = true then wettestOf (q.olderChannels.toList.filterMap id) else q.wettest }

theorem Kiln.ageChannels_eq (q : Kiln) : q.ageChannels = { q with channels := q.olderChannels } := by
  unfold Kiln.ageChannels Kiln.olderChannels
  simp only [funext Channel.aged_eq]

theorem Kiln.losing_eq (q : Kiln) : q.channels.toList.any channelLost = q.losing := by
  unfold Kiln.losing
  rw [funext channelLost_eq]

theorem State.minuteAgeing_eq (k : KilnId) (s : State) : s.minuteAgeing k =
    if (s.kiln k).losing = true then (s.setKiln k (s.kiln k).aged).testStatus k else s.setKiln k (s.kiln k).aged := by
  unfold State.minuteAgeing State.modKiln Kiln.aged
  dsimp only
  rw [Kiln.losing_eq, Kiln.ageChannels_eq]
  split <;> rfl

/-! ### The first two parts together -/

theorem State.setKiln_setKiln (k : KilnId) (x y : Kiln) (s : State) : (s.setKiln k x).setKiln k y = s.setKiln k y := by
  unfold State.setKiln
  simp only [Vector.set_set]

/-- The kiln once a minute's limits are in use and its channels have aged. -/
def Kiln.begun (q : Kiln) : Kiln :=
  { q.aged with
    timer := some 0, inUse := q.written, setpoints := q.minuteLimits.setpoints, ramping := q.minuteLimits.ramping }

/-- The part after the first two parts of a kiln's minute. -/
def State.begun (k : KilnId) (s : State) : State :=
  (s.modKiln k (fun q => { q with timer := some 0 }.minuteLimits)).minuteAgeing k

theorem State.begun_eq (k : KilnId) (s : State) : s.begun k =
    if (s.kiln k).losing = true then (s.setKiln k (s.kiln k).begun).testStatus k else s.setKiln k (s.kiln k).begun := by
  have limited : ({ s.kiln k with timer := some 0 } : Kiln).minuteLimits.aged = (s.kiln k).begun := by
    rw [Kiln.minuteLimits_timer, Kiln.minuteLimits_eq]
    rfl
  have lost : ({ s.kiln k with timer := some 0 } : Kiln).minuteLimits.losing = (s.kiln k).losing := by
    rw [Kiln.minuteLimits_timer, Kiln.minuteLimits_eq]
    rfl
  unfold State.begun
  rw [State.minuteAgeing_eq, State.kiln_modKiln_self, limited, lost, State.modKiln, State.setKiln_setKiln]

theorem State.begun_self (k : KilnId) (s : State) : (s.begun k).kiln k = { (s.kiln k).begun with
    reportedDry := ((s.begun k).kiln k).reportedDry, reportedWet := ((s.begun k).kiln k).reportedWet
    reportedEstimate := ((s.begun k).kiln k).reportedEstimate } := by
  rw [State.begun_eq]
  split
  · rw [State.testStatus_self, State.kiln_setKiln_self]
    split <;> rfl
  · rw [State.kiln_setKiln_self]

theorem State.testStatus_sides (k : KilnId) (s : State) :
    (s.testStatus k).charges = s.charges ∧ (s.testStatus k).directory = s.directory := by
  unfold State.testStatus
  split
  · exact (State.raiseStatus_sides k s).2
  · exact ⟨rfl, rfl⟩

theorem State.begun_sides (k : KilnId) (s : State) :
    (s.begun k).charges = s.charges ∧ (s.begun k).directory = s.directory := by
  rw [State.begun_eq]
  split
  · exact State.testStatus_sides k _
  · exact ⟨rfl, rfl⟩

theorem State.begun_aside (k : KilnId) (s : State) : (s.begun k).aside = s.aside := by
  rw [State.begun_eq]
  split
  · exact State.testStatus_aside k _
  · rfl

theorem State.begun_other (k : KilnId) (s : State) (j : KilnId) (h : j ≠ k) : (s.begun k).kiln j = s.kiln j := by
  unfold State.begun
  rw [State.minuteAgeing_other _ _ _ h, State.kiln_modKiln_other _ _ h]

/-! ### The silence of a minute (R110, R88 part 3) -/

/-- The part with a kiln's silence counter advanced. -/
def State.countedSilence (k : KilnId) (s : State) : State :=
  s.setKiln k { s.kiln k with silence := min 255 ((s.kiln k).silence + 1) }

theorem State.minuteSilence_eq (k : KilnId) (s : State) : s.minuteSilence k =
    if (s.kiln k).inUse.silenceMinutes ≤ min 255 ((s.kiln k).silence + 1) then (s.countedSilence k).detect true .silent k
    else s.countedSilence k := by
  have present : (s.countedSilence k).condition k .silent = true
      ↔ (s.kiln k).inUse.silenceMinutes ≤ min 255 ((s.kiln k).silence + 1) := by
    rw [State.condition_silent, State.countedSilence, State.kiln_setKiln_self]
  exact if_congr present rfl rfl

theorem State.minuteSilence_readings (k : KilnId) (s : State) : ((s.minuteSilence k).kiln k).readings =
    { (s.kiln k).readings with silence := min 255 ((s.kiln k).silence + 1) } := by
  have counted : ((s.countedSilence k).kiln k).readings =
      { (s.kiln k).readings with silence := min 255 ((s.kiln k).silence + 1) } := by
    rw [State.countedSilence, State.kiln_setKiln_self]
    rfl
  rw [State.minuteSilence_eq]
  split
  · rw [State.detect_readings, counted]
  · exact counted

/-- Without a detection that acts, the silence counter is all that its part changes in the kiln. -/
theorem State.minuteSilence_quiet {k : KilnId} {s : State}
    (quiet : (s.kiln k).silence + 1 < (s.kiln k).inUse.silenceMinutes ∨ (s.kiln k).latches.silent ≠ none) :
    s.minuteSilence k = s.countedSilence k := by
  rw [State.minuteSilence_eq]
  split
  · next reached =>
      refine State.detect_ignored true .silent k _ (.inl ?_)
      rw [State.countedSilence, State.kiln_setKiln_self]
      exact quiet.resolve_left (by omega)
  · rfl

/-- In a kiln that only announces, the part leaves the state, the setpoints and the position. -/
theorem State.minuteSilence_announces {k : KilnId} {s : State}
    (h : (s.kiln k).state = .loaded ∨ (s.kiln k).state = .stopped ∨ (s.kiln k).state = .done) :
    ((s.minuteSilence k).kiln k).state = (s.kiln k).state
      ∧ ((s.minuteSilence k).kiln k).context = { (s.kiln k).context with silence := min 255 ((s.kiln k).silence + 1) } := by
  have self : (s.countedSilence k).kiln k = { s.kiln k with silence := min 255 ((s.kiln k).silence + 1) } :=
    State.kiln_setKiln_self k _ s
  rw [State.minuteSilence_eq]
  split
  · refine ⟨?_, (State.detect_context ..).trans (by rw [self]; rfl)⟩
    rw [← show ((s.countedSilence k).kiln k).state = (s.kiln k).state by rw [self]] at h ⊢
    rcases h' : ((s.countedSilence k).kiln k).latches.silent with _ | a
    · exact (State.detect_quiet true .silent k _ h' h).2.2
    · rw [State.detect_ignored true .silent k _ (.inl (by rw [PerFault.get, h']; nofun))]
  · rw [self]
    exact ⟨rfl, rfl⟩

/-! ### The run of a minute (R88 part 4, R105) -/

theorem State.minuteRun_rests {k : KilnId} {s : State} (running : (s.kiln k).state ≠ .running)
    (held : (s.kiln k).state ≠ .held) : s.minuteRun k = s := by
  unfold State.minuteRun
  split
  · next h => exact absurd h running
  · next h => exact absurd h held
  all_goals rfl

theorem State.minuteRun_held {k : KilnId} {s : State} (held : (s.kiln k).state = .held) :
    s.minuteRun k = s.setKiln k (s.kiln k).governed := by
  unfold State.minuteRun
  rw [held]
  rfl

theorem Kiln.rampTo_eq {q : Kiln} {now : TempPair} (set : q.setpoints = some now) (aim : TempPair) (dry wet : Nat) :
    q.rampTo aim dry wet = { q with
      setpoints := some (q.inUse.ramp aim dry wet now)
      ramping := q.targets.isSome && q.targets != some (q.inUse.ramp aim dry wet now) } := by
  unfold Kiln.rampTo
  rw [set]
  unfold Kiln.withSetpoints Kiln.markRamping
  dsimp only
  rw [Option.isSome_some, Bool.and_true]

theorem Kiln.governed_override {q : Kiln} {top : HoldEntry} {rest : List HoldEntry} (stack : q.stack = top :: rest) {dry wet : Int}
    {dr wr : Nat} (kind : top.kind = .override dry wet dr wr) :
    q.governed = q.rampTo (q.inUse.clampPair ⟨dry, wet⟩) dr wr := by
  obtain ⟨_, stamp⟩ := top
  subst kind
  unfold Kiln.governed
  rw [stack]

theorem Kiln.governed_safe {q : Kiln} {top : HoldEntry} {rest : List HoldEntry} (stack : q.stack = top :: rest) {f : FaultKind}
    (kind : top.kind = .fault f .safe) :
    q.governed = q.rampTo ⟨q.inUse.safeDry, q.inUse.safeWet⟩ q.inUse.safeRate q.inUse.safeRate := by
  obtain ⟨_, stamp⟩ := top
  subst kind
  unfold Kiln.governed
  rw [stack]

theorem Kiln.governed_stays {q : Kiln} {top : HoldEntry} {rest : List HoldEntry} (stack : q.stack = top :: rest)
    (kind : top.kind = .schedule ∨ ∃ f, top.kind = .fault f .hold) : q.governed = q := by
  obtain ⟨_, stamp⟩ := top
  unfold Kiln.governed
  rcases kind with kind | ⟨f, kind⟩ <;> subst kind <;> rw [stack]

/-- The kiln once a running minute has counted, aimed, ramped and turned the fan. -/
def Kiln.ranMinute (q : Kiln) (x : Step) (i e : Nat) (now : TempPair) : Kiln :=
  let dry := max q.inUse.dryMin (min q.inUse.dryMax x.dry)
  let aim : TempPair := ⟨dry, max 0 (dry - x.depression)⟩
  let p := q.inUse.ramp aim x.dryRate x.wetRate now
  { q with
    position := some ⟨i, e + 1⟩, targets := some aim, limited := decide (dry ≠ x.dry ∨ dry - x.depression < 0)
    setpoints := some p, ramping := decide (p ≠ aim)
    fan := if x.fanInterval ≠ 0 ∧ (e + 1) % x.fanInterval = 0 then q.fan.flip else q.fan }

theorem Kiln.countElapsed_eq {q : Kiln} {i e : Nat} (pos : q.position = some ⟨i, e⟩) (short : e < 65535) :
    q.countElapsed = { q with position := some ⟨i, e + 1⟩ } := by
  unfold Kiln.countElapsed
  rw [pos, Option.map_some, Nat.min_eq_right short]

theorem Kiln.rampToStep_eq {q : Kiln} {x : Step} {aim now : TempPair} (copy : q.stepCopy = some x) (target : q.targets = some aim)
    (set : q.setpoints = some now) : q.rampToStep = { q with
      setpoints := some (q.inUse.ramp aim x.dryRate x.wetRate now)
      ramping := decide (q.inUse.ramp aim x.dryRate x.wetRate now ≠ aim) } := by
  have ramps := ramping_of_targets target (rfl : some (q.inUse.ramp aim x.dryRate x.wetRate now) = some _)
  rw [Option.isSome_some, Bool.and_true] at ramps
  rw [← ramps, ← Kiln.rampTo_eq set aim x.dryRate x.wetRate]
  unfold Kiln.rampToStep
  rw [copy, target]

theorem Kiln.fanStep_eq {q : Kiln} {x : Step} {p : StepPosition} (copy : q.stepCopy = some x) (pos : q.position = some p) :
    q.fanStep = { q with fan := if x.fanInterval ≠ 0 ∧ p.elapsed % x.fanInterval = 0 then q.fan.flip else q.fan } := by
  have turns : q.fanStep =
      if x.fanInterval ≠ 0 ∧ p.elapsed % x.fanInterval = 0 then { q with fan := q.fan.flip } else q := by
    unfold Kiln.fanStep
    rw [copy, pos]
  rw [turns]
  split <;> rfl

theorem Kiln.ranMinute_eq {q : Kiln} {x : Step} {i e : Nat} {now : TempPair} (set : q.setpoints = some now)
    (copy : q.stepCopy = some x) (pos : q.position = some ⟨i, e⟩) (short : e < 65535) :
    q.countElapsed.deriveTargets.rampToStep.fanStep = q.ranMinute x i e now := by
  rw [Kiln.countElapsed_eq pos short, Kiln.deriveTargets_eq (x := x) (by exact copy),
    Kiln.rampToStep_eq (x := x) (by exact copy) (by exact rfl) (by exact set), Kiln.fanStep_eq (x := x) (by exact copy) (by exact rfl)]
  rfl

theorem State.minuteRun_running {k : KilnId} {s : State} (running : (s.kiln k).state = .running) {x : Step} {i e : Nat}
    {now : TempPair} (set : (s.kiln k).setpoints = some now) (copy : (s.kiln k).stepCopy = some x)
    (pos : (s.kiln k).position = some ⟨i, e⟩) (short : e < 65535) :
    s.minuteRun k = ((s.setKiln k ((s.kiln k).ranMinute x i e now)).evaluateExit k).applyDeviation k := by
  unfold State.minuteRun
  rw [running]
  unfold State.modKiln
  dsimp only
  rw [Kiln.ranMinute_eq set copy pos short]

theorem State.evaluateExit_stays {k : KilnId} {s : State} (h : (s.kiln k).exitReason = none) : s.evaluateExit k = s := by
  unfold State.evaluateExit
  rw [h]

theorem State.evaluateExit_leaves {k : KilnId} {s : State} {reason : ExitReason} (h : (s.kiln k).exitReason = some reason) :
    s.evaluateExit k = s.exitStep k reason := by
  unfold State.evaluateExit
  rw [h]

theorem State.evaluateExit_readings (k : KilnId) (s : State) :
    ((s.evaluateExit k).kiln k).readings = (s.kiln k).readings := by
  unfold State.evaluateExit
  split
  · exact State.exitStep_readings k _ s
  · rfl

theorem Kiln.rampTo_readings (q : Kiln) (aim : TempPair) (dry wet : Nat) : (q.rampTo aim dry wet).readings = q.readings := by
  unfold Kiln.rampTo
  split <;> rfl

theorem Kiln.governed_readings (q : Kiln) : q.governed.readings = q.readings := by
  unfold Kiln.governed
  split
  · exact Kiln.rampTo_readings ..
  · exact Kiln.rampTo_readings ..
  · rfl

theorem Kiln.fanStep_readings (q : Kiln) : q.fanStep.readings = q.readings := by
  unfold Kiln.fanStep
  split
  · split <;> rfl
  · rfl

theorem Kiln.rampToStep_readings (q : Kiln) : q.rampToStep.readings = q.readings := by
  unfold Kiln.rampToStep
  split
  · exact Kiln.rampTo_readings ..
  · rfl

theorem State.minuteRun_readings (k : KilnId) (s : State) : ((s.minuteRun k).kiln k).readings = (s.kiln k).readings := by
  unfold State.minuteRun
  split
  · rw [State.applyDeviation_readings, State.evaluateExit_readings, State.kiln_modKiln_self, Kiln.fanStep_readings,
      Kiln.rampToStep_readings, Kiln.deriveTargets_readings]
    rfl
  · rw [State.kiln_modKiln_self, Kiln.governed_readings]
  all_goals rfl

/-! ### The latches that clear themselves (R117) -/

/-- The kinds of a kiln that clear themselves. -/
def State.dueToClear (k : KilnId) (s : State) : List FaultKind :=
  FaultKind.all.filter (fun f => (s.kiln k).latches.get f == some .none && !s.condition k f)

theorem State.mem_dueToClear (k : KilnId) (s : State) (f : FaultKind) :
    f ∈ s.dueToClear k ↔ (s.kiln k).latches.get f = some .none ∧ s.condition k f = false := by
  have listed : f ∈ FaultKind.all := by cases f <;> decide
  simp only [State.dueToClear, List.mem_filter, listed, true_and, Bool.and_eq_true, beq_iff_eq, Bool.not_eq_true']

theorem State.selfClear_self (k : KilnId) (s : State) : (s.selfClear k).kiln k = { s.kiln k with
    latches := clearedOf (s.kiln k).latches (s.freeOrder (s.dueToClear k)), reported := s.stillReported k } := by
  unfold State.selfClear
  dsimp only
  rw [State.kiln_modKiln_self, State.clearLatches_self]
  rfl

theorem State.stillReported_get (k : KilnId) (s : State) (f : FaultKind) :
    (s.stillReported k).get f = true ↔ (s.kiln k).reported.get f = true ∧ s.condition k f = true := by
  rw [← Bool.and_eq_true]
  cases f <;> rfl

theorem State.clearOrder_charge (k : KilnId) (order : List FaultKind) (charge : Option Nat) (s : State)
    (h : (s.kiln k).charge = charge) : order.foldl (State.clearLatch .selfClear k) s =
      order.foldl (fun u f => (u.setKiln k { u.kiln k with latches := (u.kiln k).latches.set f none }).raise
        ⟨.faultCleared, none, be8 k.val ++ be8 f.code ++ be8 1 ++ be16 (charge.getD 0)⟩) s := by
  induction order generalizing s with
  | nil => rfl
  | cons f order ih =>
      rw [List.foldl_cons, List.foldl_cons, ih _ (by rw [State.clearLatch_self]; exact h)]
      subst h
      rfl

end Sys2Proof.Machine
end

section
/-! PROOFS. What a kiln-minute expiry comes to in each state (R87, R88). -/

namespace Sys2Proof.Machine

/-! ### The kiln after the first three parts -/

theorem State.begun_fields (k : KilnId) (s : State) : (s.begun k).kiln k = { s.kiln k with
    timer := some 0, inUse := (s.kiln k).written, setpoints := ((s.begun k).kiln k).setpoints
    ramping := ((s.begun k).kiln k).ramping, channels := (s.kiln k).aged.channels, estimate := (s.kiln k).aged.estimate
    wettest := (s.kiln k).aged.wettest, reportedDry := ((s.begun k).kiln k).reportedDry
    reportedWet := ((s.begun k).kiln k).reportedWet, reportedEstimate := ((s.begun k).kiln k).reportedEstimate } := by
  have self := State.begun_self k s
  have set : ((s.begun k).kiln k).setpoints = (s.kiln k).begun.setpoints := (congrArg Kiln.setpoints self :)
  have ramping : ((s.begun k).kiln k).ramping = (s.kiln k).begun.ramping := (congrArg Kiln.ramping self :)
  rw [set, ramping]
  exact self

theorem State.begun_setpoints (k : KilnId) (s : State) :
    ((s.begun k).kiln k).setpoints = (s.kiln k).minuteLimits.setpoints := (congrArg Kiln.setpoints (State.begun_self k s) :)

theorem State.begun_readings (k : KilnId) (s : State) : ((s.begun k).kiln k).readings =
    { (s.kiln k).aged.readings with timer := some 0, inUse := (s.kiln k).written } := by
  rw [State.begun_self]
  rfl

/-- Beyond latches and reported kinds, the kiln after its minute is the one that its run leaves. -/
theorem State.kilnMinute_field {α : Type} (field : Kiln → α)
    (keeps : ∀ q latches reported, field { q with latches := latches, reported := reported } = field q) (k : KilnId) (s : State) :
    field ((s.kilnMinute k).kiln k) = field ((((s.begun k).minuteSilence k).minuteRun k).kiln k) := by
  change field ((((((s.begun k).minuteSilence k).minuteRun k).selfClear k).produceSetpoint k).kiln k) = _
  rw [State.produceSetpoint_kiln, State.selfClear_self, keeps]

/-- The readings of a kiln after its minute. -/
theorem State.kilnMinute_readings (k : KilnId) (s : State) : ((s.kilnMinute k).kiln k).readings =
    { (s.kiln k).aged.readings with
      timer := some 0, inUse := (s.kiln k).written, silence := min 255 ((s.kiln k).silence + 1) } := by
  have silence : ((s.begun k).kiln k).silence = (s.kiln k).silence := (congrArg Kiln.silence (State.begun_self k s) :)
  rw [State.kilnMinute_field Kiln.readings (fun _ _ _ => rfl), State.minuteRun_readings, State.minuteSilence_readings,
    State.begun_readings, silence]

/-! ### A minute of a kiln that rests -/

theorem State.kilnMinute_rests {k : KilnId} {s : State}
    (h : (s.kiln k).state = .loaded ∨ (s.kiln k).state = .stopped ∨ (s.kiln k).state = .done) :
    ((s.kilnMinute k).kiln k).state = (s.kiln k).state
      ∧ ((s.kilnMinute k).kiln k).setpoints = (s.kiln k).minuteLimits.setpoints
      ∧ ((s.kilnMinute k).kiln k).position = (s.kiln k).position := by
  have begun : ((s.begun k).kiln k).state = (s.kiln k).state := (congrArg Kiln.state (State.begun_self k s) :)
  have position : ((s.begun k).kiln k).position = (s.kiln k).position := (congrArg Kiln.position (State.begun_self k s) :)
  obtain ⟨state, context⟩ := State.minuteSilence_announces (k := k) (s := s.begun k) (by rw [begun]; exact h)
  have ran : ((s.begun k).minuteSilence k).minuteRun k = (s.begun k).minuteSilence k := by
    refine State.minuteRun_rests ?_ ?_
    all_goals
      rw [state, begun]
      rcases h with h | h | h <;> rw [h] <;> nofun
  refine ⟨?_, ?_, ?_⟩
  · rw [State.kilnMinute_field Kiln.state (fun _ _ _ => rfl), ran, state, begun]
  · rw [State.kilnMinute_field Kiln.setpoints (fun _ _ _ => rfl), ran]
    have kept : (((s.begun k).minuteSilence k).kiln k).setpoints = ((s.begun k).kiln k).setpoints :=
      (congrArg Kiln.setpoints context :)
    rw [kept, State.begun_setpoints]
  · rw [State.kilnMinute_field Kiln.position (fun _ _ _ => rfl), ran]
    have kept : (((s.begun k).minuteSilence k).kiln k).position = ((s.begun k).kiln k).position :=
      (congrArg Kiln.position context :)
    rw [kept, position]

/-! ### A quiet minute of a kiln that is held or running -/

/-- The silence of a kiln raises nothing in its next minute. -/
def Kiln.Quiet (q : Kiln) : Prop := q.silence + 1 < q.written.silenceMinutes ∨ q.latches.silent ≠ none

/-- The kiln after the first three parts of a quiet minute. -/
def State.quietKiln (k : KilnId) (s : State) : Kiln :=
  { (s.kiln k).begun with
    reportedDry := ((s.begun k).kiln k).reportedDry, reportedWet := ((s.begun k).kiln k).reportedWet
    reportedEstimate := ((s.begun k).kiln k).reportedEstimate, silence := min 255 ((s.kiln k).silence + 1) }

theorem State.silenced_quiet {k : KilnId} {s : State} (quiet : (s.kiln k).Quiet) :
    ((s.begun k).minuteSilence k).kiln k = s.quietKiln k := by
  have self := State.begun_self k s
  have silence : ((s.begun k).kiln k).silence = (s.kiln k).silence := (congrArg Kiln.silence self :)
  have inUse : ((s.begun k).kiln k).inUse = (s.kiln k).written := (congrArg Kiln.inUse self :)
  have latches : ((s.begun k).kiln k).latches = (s.kiln k).latches := (congrArg Kiln.latches self :)
  rw [State.minuteSilence_quiet (by rw [silence, inUse, latches]; exact quiet), State.countedSilence, State.kiln_setKiln_self,
    silence]
  exact congrArg (fun q : Kiln => { q with silence := min 255 ((s.kiln k).silence + 1) }) self

theorem State.kilnMinute_held {k : KilnId} {s : State} (held : (s.kiln k).state = .held) (quiet : (s.kiln k).Quiet) {α : Type}
    (field : Kiln → α)
    (keeps : ∀ q latches reported, field { q with latches := latches, reported := reported } = field q) :
    field ((s.kilnMinute k).kiln k) = field (s.quietKiln k).governed := by
  have silenced := State.silenced_quiet quiet
  rw [State.kilnMinute_field field keeps, State.minuteRun_held (by rw [silenced]; exact held), State.kiln_setKiln_self, silenced]

/-- The deviation part of a minute that detects nothing leaves all of its kiln but the countdown. -/
theorem State.applyDeviation_field {α : Type} (field : Kiln → α) (keeps : ∀ q n, field { q with countdown := n } = field q)
    {k : KilnId} {s : State} (h : (s.kiln k).countdown ≠ 1) : field ((s.applyDeviation k).kiln k) = field (s.kiln k) := by
  unfold State.applyDeviation
  dsimp only
  split
  · rfl
  · split
    · rfl
    · rw [State.kiln_modKiln_self]
      exact keeps _ _
    · split
      · rfl
      · rw [State.kiln_modKiln_self]
        exact keeps _ _

theorem State.kilnMinute_running {k : KilnId} {s : State} {now : TempPair} {x : Step} {i e : Nat}
    (running : (s.kiln k).state = .running) (set : (s.kiln k).setpoints = some now) (copy : (s.kiln k).stepCopy = some x)
    (pos : (s.kiln k).position = some ⟨i, e⟩) (quiet : (s.kiln k).Quiet) (short : e < 65535)
    (stays : ({ (s.kiln k).aged with position := some ⟨i, e + 1⟩ } : Kiln).exitReason = none) (count : (s.kiln k).countdown ≠ 1)
    {α : Type} (field : Kiln → α)
    (keeps : ∀ q latches reported n,
      field { q with latches := latches, reported := reported } = field q ∧ field { q with countdown := n } = field q) :
    field ((s.kilnMinute k).kiln k) = field ((s.quietKiln k).ranMinute x i e ((s.kiln k).written.clampPair now)) := by
  have silenced := State.silenced_quiet quiet
  have clamped := Kiln.minuteLimits_clamps (.inl running) set
  have ran := State.minuteRun_running (k := k) (s := (s.begun k).minuteSilence k) (x := x) (i := i) (e := e)
    (now := (s.kiln k).written.clampPair now) (by rw [silenced]; exact running) (by rw [silenced]; exact clamped)
    (by rw [silenced]; exact copy) (by rw [silenced]; exact pos) short
  rw [silenced] at ran
  rw [State.evaluateExit_stays (by rw [State.kiln_setKiln_self]; exact stays)] at ran
  rw [State.kilnMinute_field field (fun q l r => (keeps q l r 0).1), ran,
    State.applyDeviation_field field (fun q n => (keeps q q.latches q.reported n).2)
      (by rw [State.kiln_setKiln_self]; exact count), State.kiln_setKiln_self]

end Sys2Proof.Machine
end

section
/-! PROOFS. The kiln-minute expiry as a whole (chapter 5). -/

namespace Sys2Proof.Machine

theorem State.setKiln_kiln (k : KilnId) (s : State) : s.setKiln k (s.kiln k) = s := by
  have same : s.kilns.set k s.kilns[k] = s.kilns := Vector.set_getElem_self k.isLt
  exact congrArg (fun v => { s with kilns := v }) same

theorem State.aside_clocks {s t : State} (h : t.aside = s.aside) : t.watchdog = s.watchdog ∧ t.clock = s.clock :=
  ⟨(congrArg State.watchdog h :), (congrArg State.clock h :)⟩

/-- The run of a held kiln by the entry that governs it. -/
theorem State.minuteRun_governed {k : KilnId} {y : State} {top : HoldEntry} {rest : List HoldEntry}
    (held : (y.kiln k).state = .held) (stack : (y.kiln k).stack = top :: rest) :
    (∀ dry wet dr wr, top.kind = .override dry wet dr wr → y.minuteRun k =
      y.setKiln k ((y.kiln k).rampTo ((y.kiln k).inUse.clampPair ⟨dry, wet⟩) dr wr))
    ∧ (∀ f, top.kind = .fault f .safe → y.minuteRun k =
      y.setKiln k ((y.kiln k).rampTo ⟨(y.kiln k).inUse.safeDry, (y.kiln k).inUse.safeWet⟩ (y.kiln k).inUse.safeRate
        (y.kiln k).inUse.safeRate))
    ∧ ((top.kind = .schedule ∨ ∃ f, top.kind = .fault f .hold) → y.minuteRun k = y) := by
  rw [State.minuteRun_held held]
  refine ⟨fun dry wet dr wr kind => ?_, fun f kind => ?_, fun kind => ?_⟩
  · rw [Kiln.governed_override stack kind]
  · rw [Kiln.governed_safe stack kind]
  · rw [Kiln.governed_stays stack kind, State.setKiln_kiln]

theorem Kiln.readings_fields {q z : Kiln} {n : Nat}
    (h : z.readings = { q.aged.readings with timer := some 0, inUse := q.written, silence := n }) :
    z.timer = some 0 ∧ z.inUse = q.written ∧ z.written = q.written ∧ z.silence = n ∧ z.channels = q.aged.channels
      ∧ z.estimate = q.aged.estimate ∧ z.wettest = q.aged.wettest :=
  ⟨(congrArg Kiln.timer h :), (congrArg Kiln.inUse h :), (congrArg Kiln.written h :), (congrArg Kiln.silence h :),
    (congrArg Kiln.channels h :), (congrArg Kiln.estimate h :), (congrArg Kiln.wettest h :)⟩

theorem Kiln.governed_keeps (q : Kiln) : q.governed.state = q.state ∧ q.governed.position = q.position
    ∧ q.governed.stack = q.stack ∧ q.governed.fan = q.fan := by
  have ramped (aim : TempPair) (dry wet : Nat) : (q.rampTo aim dry wet).state = q.state
      ∧ (q.rampTo aim dry wet).position = q.position ∧ (q.rampTo aim dry wet).stack = q.stack
      ∧ (q.rampTo aim dry wet).fan = q.fan := by
    unfold Kiln.rampTo
    split <;> exact ⟨rfl, rfl, rfl, rfl⟩
  unfold Kiln.governed
  split
  · exact ramped ..
  · exact ramped ..
  · exact ⟨rfl, rfl, rfl, rfl⟩

/-- A quiet minute of a held kiln. -/
theorem State.kilnMinute_holds {k : KilnId} {s : State} {now : TempPair} {top : HoldEntry} {rest : List HoldEntry}
    (held : (s.kiln k).state = .held) (set : (s.kiln k).setpoints = some now) (stack : (s.kiln k).stack = top :: rest)
    (quiet : (s.kiln k).Quiet) : ∃ q : Kiln, q.state = .held ∧ q.position = (s.kiln k).position ∧ q.stack = top :: rest
      ∧ q.fan = (s.kiln k).fan ∧ q.inUse = (s.kiln k).written
      ∧ q.setpoints = some ((s.kiln k).written.clampPair now)
      ∧ ((s.kilnMinute k).kiln k).state = q.governed.state ∧ ((s.kilnMinute k).kiln k).position = q.governed.position
      ∧ ((s.kilnMinute k).kiln k).stack = q.governed.stack ∧ ((s.kilnMinute k).kiln k).fan = q.governed.fan
      ∧ ((s.kilnMinute k).kiln k).setpoints = q.governed.setpoints :=
  ⟨s.quietKiln k, held, rfl, stack, rfl, rfl, Kiln.minuteLimits_clamps (.inr (.inl held)) set,
    State.kilnMinute_held held quiet Kiln.state (fun _ _ _ => rfl),
    State.kilnMinute_held held quiet Kiln.position (fun _ _ _ => rfl),
    State.kilnMinute_held held quiet Kiln.stack (fun _ _ _ => rfl),
    State.kilnMinute_held held quiet Kiln.fan (fun _ _ _ => rfl),
    State.kilnMinute_held held quiet Kiln.setpoints (fun _ _ _ => rfl)⟩

/-- A quiet minute of a running kiln that stays in its step. -/
theorem State.kilnMinute_runs {k : KilnId} {s : State} {now : TempPair} {x : Step} {i e : Nat}
    (running : (s.kiln k).state = .running) (set : (s.kiln k).setpoints = some now) (copy : (s.kiln k).stepCopy = some x)
    (pos : (s.kiln k).position = some ⟨i, e⟩) (quiet : (s.kiln k).Quiet) (short : e < 65535)
    (stays : ({ (s.kiln k).aged with position := some ⟨i, e + 1⟩ } : Kiln).exitReason = none) (count : (s.kiln k).countdown ≠ 1) :
    ∃ q : Kiln, q.state = .running ∧ q.stepCopy = some x ∧ q.fan = (s.kiln k).fan ∧ q.inUse = (s.kiln k).written
      ∧ ((s.kilnMinute k).kiln k).state = (q.ranMinute x i e ((s.kiln k).written.clampPair now)).state
      ∧ ((s.kilnMinute k).kiln k).position = (q.ranMinute x i e ((s.kiln k).written.clampPair now)).position
      ∧ ((s.kilnMinute k).kiln k).stepCopy = (q.ranMinute x i e ((s.kiln k).written.clampPair now)).stepCopy
      ∧ ((s.kilnMinute k).kiln k).setpoints = (q.ranMinute x i e ((s.kiln k).written.clampPair now)).setpoints
      ∧ ((s.kilnMinute k).kiln k).fan = (q.ranMinute x i e ((s.kiln k).written.clampPair now)).fan :=
  ⟨s.quietKiln k, running, copy, rfl, rfl,
    State.kilnMinute_running running set copy pos quiet short stays count Kiln.state (fun _ _ _ _ => ⟨rfl, rfl⟩),
    State.kilnMinute_running running set copy pos quiet short stays count Kiln.position (fun _ _ _ _ => ⟨rfl, rfl⟩),
    State.kilnMinute_running running set copy pos quiet short stays count Kiln.stepCopy (fun _ _ _ _ => ⟨rfl, rfl⟩),
    State.kilnMinute_running running set copy pos quiet short stays count Kiln.setpoints (fun _ _ _ _ => ⟨rfl, rfl⟩),
    State.kilnMinute_running running set copy pos quiet short stays count Kiln.fan (fun _ _ _ _ => ⟨rfl, rfl⟩)⟩

/-- The self-clearing: the order of its notices, the notices, and the reported kinds that stay. -/
theorem State.selfClear_eq (k : KilnId) (s : State) : ∃ (order : List FaultKind) (n : Nat) (cleared : State),
    order.Nodup ∧ (∀ f, f ∈ order ↔ (s.kiln k).latches.get f = some .none ∧ s.condition k f = false)
    ∧ cleared = order.foldl (fun u f => (u.setKiln k { u.kiln k with latches := (u.kiln k).latches.set f none }).raise
        ⟨.faultCleared, none, be8 k.val ++ be8 f.code ++ be8 1 ++ be16 ((s.kiln k).charge.getD 0)⟩) s
    ∧ s.selfClear k =
      { cleared.setKiln k { cleared.kiln k with reported := ((s.selfClear k).kiln k).reported } with freeCount := n } := by
  have perm := s.freeOrder_perm (s.dueToClear k)
  have distinct : (s.dueToClear k).Nodup := List.Nodup.filter _ (by decide)
  have still : ((s.selfClear k).kiln k).reported = s.stillReported k :=
    (congrArg Kiln.reported (State.selfClear_self k s) :)
  refine ⟨s.freeOrder (s.dueToClear k),
    ((s.freeOrder (s.dueToClear k)).foldl (State.clearLatch .selfClear k) s).freeCount + (s.dueToClear k).length,
    (s.freeOrder (s.dueToClear k)).foldl (State.clearLatch .selfClear k) s, perm.nodup_iff.mpr distinct,
    fun f => perm.mem_iff.trans (s.mem_dueToClear k f),
    State.clearOrder_charge k (s.freeOrder (s.dueToClear k)) (s.kiln k).charge s rfl, ?_⟩
  rw [still]
  rfl

theorem State.selfClear_latches (k : KilnId) (s : State) (f : FaultKind) : ((s.selfClear k).kiln k).latches.get f =
    if (s.kiln k).latches.get f = some .none ∧ s.condition k f = false then none else (s.kiln k).latches.get f := by
  have latches : ((s.selfClear k).kiln k).latches = clearedOf (s.kiln k).latches (s.freeOrder (s.dueToClear k)) :=
    (congrArg Kiln.latches (State.selfClear_self k s) :)
  rw [latches, clearedOf_get]
  exact if_congr (((s.freeOrder_perm _).mem_iff).trans (s.mem_dueToClear k f)) rfl rfl

/-- Settles O29: the readings part by part, then the minute by the kiln's state, its parts in order, and the self-clearing. -/
theorem kilnMinuteRunsItsParts : Obligations.KilnMinuteRunsItsParts := by
  unfold Obligations.KilnMinuteRunsItsParts
  refine ⟨fun s k => ⟨fun idle => congrArg Host.Outcome.next (if_pos idle), fun busy => ?expiry, fun busy => ?parts⟩,
    fun s k => ?clears⟩
  case expiry =>
    obtain ⟨timer, inUse, written, silence, channels, estimate, wettest⟩ :=
      Kiln.readings_fields (State.kilnMinute_readings k s)
    refine ⟨s.kilnMinute k, congrArg Host.Outcome.next (if_neg busy), timer, inUse, written, silence, channels, estimate,
      wettest, fun j h => State.kilnMinute_other k s j h, fun rests => ?_, fun now stopped set => ?_,
      fun now top rest held set stack quiet => ?_, fun now x i e running set copy pos quiet short stays count => ?_⟩
    · obtain ⟨state, set, -⟩ := State.kilnMinute_rests (k := k) (s := s) (rests.imp_right .inr)
      exact ⟨state, set.trans (Kiln.minuteLimits_rests rests)⟩
    · obtain ⟨state, set', position⟩ := State.kilnMinute_rests (k := k) (s := s) (.inr (.inl stopped))
      exact ⟨state.trans stopped, set'.trans (Kiln.minuteLimits_clamps (.inr (.inr stopped)) set), position⟩
    · obtain ⟨q, state, position, stack', fan, inUse, set', tState, tPosition, tStack, tFan, tSet⟩ :=
        State.kilnMinute_holds held set stack quiet
      obtain ⟨gState, gPosition, gStack, gFan⟩ := q.governed_keeps
      have ramped (aim : TempPair) (dry wet : Nat) : (q.rampTo aim dry wet).setpoints =
          some ((s.kiln k).written.ramp aim dry wet ((s.kiln k).written.clampPair now)) := by
        rw [Kiln.rampTo_eq set', inUse]
      refine ⟨tState.trans (gState.trans state), tPosition.trans (gPosition.trans position),
        tStack.trans (gStack.trans (stack'.trans stack.symm)), tFan.trans (gFan.trans fan), fun dry wet dr wr kind => ?_,
        fun f kind => ?_, fun kind => ?_⟩
      · rw [tSet, Kiln.governed_override stack' kind, ramped, inUse]
      · rw [tSet, Kiln.governed_safe stack' kind, ramped, inUse]
      · rw [tSet, Kiln.governed_stays stack' kind, set']
    · obtain ⟨q, state, copy', fan, inUse, tState, tPosition, tCopy, tSet, tFan⟩ :=
        State.kilnMinute_runs running set copy pos quiet short stays count
      refine ⟨tState.trans state, tPosition, tCopy.trans copy', ?_, ?_⟩
      · rw [tSet, ← inUse]
        rfl
      · rw [tFan, ← fan]
        rfl
  case parts =>
    have self := State.begun_fields k s
    obtain ⟨charges, directory⟩ := State.begun_sides k s
    obtain ⟨watchdog, clock⟩ := State.aside_clocks (State.begun_aside k s)
    refine ⟨s.begun k, (s.begun k).minuteSilence k, ((s.begun k).minuteSilence k).minuteRun k,
      congrArg Host.Outcome.next (if_neg busy), ⟨self, fun rests => ?_, fun now active set => ?_,
        State.begun_other k s, charges, directory, watchdog, clock,
        ⟨(s.kiln k).minuteLimits.setpoints, (s.kiln k).minuteLimits.ramping, State.begun_eq k s, fun absent => ?_,
          fun x now target set => ?_⟩, ?_⟩, ?_⟩
    · exact (State.begun_setpoints k s).trans (Kiln.minuteLimits_rests rests)
    · exact (State.begun_setpoints k s).trans (Kiln.minuteLimits_clamps active set)
    · exact (Kiln.minuteLimits_ramping busy).trans (ramping_of_no_targets _ _ absent)
    · exact (Kiln.minuteLimits_ramping busy).trans (ramping_of_targets target set)
    · have silence : ((s.begun k).kiln k).silence = (s.kiln k).silence := (congrArg Kiln.silence self :)
      have inUse : ((s.begun k).kiln k).inUse = (s.kiln k).written := (congrArg Kiln.inUse self :)
      have counted : (s.begun k).countedSilence k = (s.begun k).setKiln k
          { (s.begun k).kiln k with silence := min 255 ((s.kiln k).silence + 1) } := by
        rw [State.countedSilence, silence]
      exact (State.minuteSilence_eq k _).trans (if_congr (by rw [inUse, silence]) (congrArg (State.detect true .silent k) counted)
        counted)
    · refine ⟨fun running held => State.minuteRun_rests running held, fun now top rest held set stack => ?_,
        fun now x i e running set copy pos short => ?_⟩
      · obtain ⟨override, safe, stays⟩ := State.minuteRun_governed held stack
        refine ⟨fun dry wet dr wr kind => ?_, fun f kind => ?_, stays⟩
        · rw [override dry wet dr wr kind, Kiln.rampTo_eq set]
        · rw [safe f kind, Kiln.rampTo_eq set]
      · have ran := State.minuteRun_running running set copy pos short
        exact ⟨fun stays => ran.trans (congrArg (State.applyDeviation k) (State.evaluateExit_stays stays)),
          fun reason leaves => ran.trans (congrArg (State.applyDeviation k) (State.evaluateExit_leaves leaves))⟩
  case clears =>
    obtain ⟨order, n, cleared, distinct, mem, built, result⟩ := State.selfClear_eq k s
    refine ⟨fun f due => (State.selfClear_latches k s f).trans (if_pos due),
      fun f stays => (State.selfClear_latches k s f).trans (if_neg stays), fun f => ?_, ?_, order, n, cleared, distinct, mem,
      built, result⟩
    · have still : ((s.selfClear k).kiln k).reported = s.stillReported k :=
        (congrArg Kiln.reported (State.selfClear_self k s) :)
      rw [still, State.stillReported_get]
    · rw [State.selfClear_self]

end Sys2Proof.Machine
end

section
/-! PROOFS. The watchdog (chapter 2): heartbeats, lapses and what a lapse does to every kiln (R31 to R33, R113). -/

namespace Sys2Proof.Machine

/-! ### A detection depends on its own kiln and the clock -/

theorem State.applyAction_kiln_congr (m : Bool) (f : FaultKind) (a : FaultAction) (e : Bool) {k : KilnId} {u v : State}
    (kiln : u.kiln k = v.kiln k) (stamp : u.stamp = v.stamp) :
    (u.applyAction m f a e k).kiln k = (v.applyAction m f a e k).kiln k := by
  have pushed (h : HoldKind) : (u.pushHold m h k).kiln k = (v.pushHold m h k).kiln k := by
    rw [State.pushHold_self, State.pushHold_self, kiln, stamp]
  cases a with
  | none => exact kiln
  | hold => exact pushed _
  | safe => exact pushed _
  | shutdown =>
      change (u.stopKiln m _ k).kiln k = (v.stopKiln m _ k).kiln k
      rw [State.stopKiln_self, State.stopKiln_self, kiln]

theorem State.raise_stamp (n : Notice) (s : State) : (s.raise n).stamp = s.stamp := by
  unfold State.stamp
  rw [State.raise_clock]

theorem State.takeFault_kiln_congr (m : Bool) (f : FaultKind) {k : KilnId} {u v : State} (kiln : u.kiln k = v.kiln k)
    (stamp : u.stamp = v.stamp) : (u.takeFault m f k).kiln k = (v.takeFault m f k).kiln k := by
  unfold State.takeFault
  dsimp only
  rw [kiln]
  refine State.applyAction_kiln_congr m f _ _ ?_ ?_
  · rw [State.raise_kiln, State.raise_kiln, State.kiln_modKiln_self, State.kiln_modKiln_self, kiln]
  · rw [State.raise_stamp, State.raise_stamp]
    exact stamp

theorem State.announceFault_kiln_congr (f : FaultKind) {k : KilnId} {u v : State} (kiln : u.kiln k = v.kiln k) :
    (u.announceFault f k).kiln k = (v.announceFault f k).kiln k := by
  unfold State.announceFault
  dsimp only
  rw [kiln]
  split
  · exact kiln
  · rw [State.raise_kiln, State.raise_kiln, State.kiln_modKiln_self, State.kiln_modKiln_self, kiln]

theorem State.detect_kiln_congr (m : Bool) (f : FaultKind) {k : KilnId} {u v : State} (kiln : u.kiln k = v.kiln k)
    (stamp : u.stamp = v.stamp) : (u.detect m f k).kiln k = (v.detect m f k).kiln k := by
  unfold State.detect
  dsimp only
  rw [kiln]
  split
  · exact kiln
  · cases (v.kiln k).state with
    | idle => exact kiln
    | running => exact State.takeFault_kiln_congr m f kiln stamp
    | held => exact State.takeFault_kiln_congr m f kiln stamp
    | loaded => exact State.announceFault_kiln_congr f kiln
    | stopped => exact State.announceFault_kiln_congr f kiln
    | done => exact State.announceFault_kiln_congr f kiln

theorem State.detect_stamp (m : Bool) (f : FaultKind) (k : KilnId) (s : State) : (s.detect m f k).stamp = s.stamp :=
  (congrArg State.stamp (State.detect_aside m f k s) :)

/-- Detections in other kilns leave a kiln as it is. -/
theorem State.detect_foldl_other (f : FaultKind) {j : KilnId} (order : List KilnId) (s : State) (h : j ∉ order) :
    (order.foldl (fun u k => u.detect false f k) s).kiln j = s.kiln j := by
  induction order generalizing s with
  | nil => rfl
  | cons k order ih =>
      obtain ⟨ne, rest⟩ := not_or.mp (mt List.mem_cons.mpr h)
      rw [List.foldl_cons, ih _ rest, State.detect_other false f k s j ne]

/-- Of detections in several kilns, each kiln sees its own. -/
theorem State.detect_foldl_kiln (f : FaultKind) {j : KilnId} (order : List KilnId) (distinct : order.Nodup) (s : State)
    (h : j ∈ order) : (order.foldl (fun u k => u.detect false f k) s).kiln j = (s.detect false f j).kiln j := by
  induction order generalizing s with
  | nil => exact absurd h List.not_mem_nil
  | cons k order ih =>
      obtain ⟨apart, distinct⟩ := List.nodup_cons.mp distinct
      rw [List.foldl_cons]
      by_cases same : j = k
      · rw [same, State.detect_foldl_other f order _ apart]
      · rw [ih distinct _ ((List.mem_cons.mp h).resolve_left same)]
        exact State.detect_kiln_congr false f (State.detect_other false f k s j same) (State.detect_stamp false f k s)

/-! ### A lapse (R32, R113) -/

/-- The part with its watchdog lapsed. -/
def State.lapsed (s : State) : State := { s with watchdog := { s.watchdog with state := .lapsed, elapsed := 0 } }

/-- The part with the lapse told. -/
def State.toldLapsed (cause : Nat) (s : State) : State :=
  s.lapsed.raise ⟨.supervisorLost, none, be16 s.watchdog.upperInUse ++ be8 cause⟩

theorem State.mem_busyKilns (s : State) (k : KilnId) : k ∈ s.busyKilns ↔ (s.kiln k).state ≠ .idle := by
  simp [State.busyKilns, List.mem_finRange]

theorem State.toldLapsed_kiln (cause : Nat) (s : State) (k : KilnId) : (s.toldLapsed cause).kiln k = s.kiln k :=
  State.raise_kiln _ _ k

/-- The order in which a lapse reaches the kilns. -/
def State.lapseOrder (cause : Nat) (s : State) : List KilnId :=
  (s.toldLapsed cause).freeOrder (s.toldLapsed cause).busyKilns

theorem State.lapseOrder_nodup (cause : Nat) (s : State) : (s.lapseOrder cause).Nodup :=
  (State.freeOrder_perm _ _).nodup_iff.mpr (List.Nodup.filter _ (List.nodup_finRange 16))

theorem State.mem_lapseOrder (cause : Nat) (s : State) (k : KilnId) : k ∈ s.lapseOrder cause ↔ (s.kiln k).state ≠ .idle := by
  rw [State.lapseOrder, (State.freeOrder_perm _ _).mem_iff, State.mem_busyKilns, State.toldLapsed_kiln]

theorem State.lapse_eq (cause : Nat) (s : State) : s.lapse cause =
    { (s.lapseOrder cause).foldl (fun u k => u.detect false .supervisor k) (s.toldLapsed cause) with
      freeCount := ((s.lapseOrder cause).foldl (fun u k => u.detect false .supervisor k) (s.toldLapsed cause)).freeCount
        + (s.toldLapsed cause).busyKilns.length } := rfl

theorem State.lapse_aside (cause : Nat) (s : State) : (s.lapse cause).aside = s.lapsed.aside := by
  change (((s.lapseOrder cause).foldl (fun u k => u.detect false .supervisor k) (s.toldLapsed cause)).drewFree _).aside = _
  rw [State.drewFree_aside, State.detect_foldl_aside, State.toldLapsed, State.raise_aside]

theorem State.lapse_kiln (cause : Nat) (s : State) (k : KilnId) :
    (s.lapse cause).kiln k = (s.lapsed.detect false .supervisor k).kiln k := by
  change ((s.lapseOrder cause).foldl (fun u k => u.detect false .supervisor k) (s.toldLapsed cause)).kiln k = _
  by_cases busy : (s.kiln k).state = .idle
  · have apart : k ∉ s.lapseOrder cause := fun h => (s.mem_lapseOrder cause k).mp h busy
    rw [State.detect_foldl_other .supervisor _ _ apart, State.toldLapsed_kiln, State.detect_ignored false .supervisor k s.lapsed
      (.inr busy)]
    rfl
  · rw [State.detect_foldl_kiln .supervisor _ (s.lapseOrder_nodup cause) _ ((s.mem_lapseOrder cause k).mpr busy)]
    exact State.detect_kiln_congr false .supervisor (State.raise_kiln _ s.lapsed k)
      (State.raise_stamp _ s.lapsed)

theorem State.aside_minutes {s t : State} (h : t.aside = s.aside) : t.minutes = s.minutes := (congrArg State.minutes h :)

theorem State.lapse_clocks (cause : Nat) (s : State) : (s.lapse cause).watchdog = s.lapsed.watchdog
    ∧ (s.lapse cause).clock = s.clock ∧ (s.lapse cause).minutes = s.minutes := by
  obtain ⟨watchdog, clock⟩ := State.aside_clocks (State.lapse_aside cause s)
  exact ⟨watchdog, clock, State.aside_minutes (s := s.lapsed) (State.lapse_aside cause s)⟩

/-! ### HEARTBEAT (R31, R33) -/

/-- A heartbeat with arguments is refused. -/
theorem serveHeartbeat_refused (r : Request) (s : State) (h : r.args ≠ []) :
    serveHeartbeat r s = ⟨s, .badArgument, s.heartbeatData⟩ :=
  if_pos (fun none => h (List.length_eq_zero_iff.mp none))

theorem serveHeartbeat_restarts (r : Request) (s : State) (h : r.args = [])
    (due : s.watchdog.state = .disarmed ∨ s.watchdog.state = .armed ∧ s.watchdog.lowerInUse ≤ s.watchdog.elapsed) :
    serveHeartbeat r s = ⟨s.restartWatchdog, .ok, s.restartWatchdog.heartbeatData⟩ := by
  have early : s.watchdog.early = false := by
    unfold Watchdog.early
    rcases due with state | ⟨state, late⟩
    · rw [state]
      rfl
    · rw [decide_eq_false (Nat.not_lt.mpr late), Bool.and_false]
  have restarts : s.heartbeat r.station = s.restartWatchdog := by
    unfold State.heartbeat
    rcases due with state | ⟨state, -⟩ <;> rw [state]
    rw [early]
    rfl
  unfold serveHeartbeat
  rw [if_neg (not_not.mpr (List.length_eq_zero_iff.mpr h)), restarts, early]
  rfl

theorem serveHeartbeat_returns (r : Request) (s : State) (h : r.args = []) (lapsed : s.watchdog.state = .lapsed) :
    serveHeartbeat r s = ⟨s.restartWatchdog.raise ⟨.supervisorBack, none, be8 r.station.val⟩, .ok,
      s.restartWatchdog.heartbeatData⟩ := by
  unfold serveHeartbeat Watchdog.early State.heartbeat State.heartbeatData
  rw [if_neg (not_not.mpr (List.length_eq_zero_iff.mpr h)), lapsed]
  dsimp only
  rw [State.raise_watchdog, State.raise_minutes]
  rfl

theorem serveHeartbeat_early (r : Request) (s : State) (h : r.args = []) (armed : s.watchdog.state = .armed)
    (early : s.watchdog.elapsed < s.watchdog.lowerInUse) :
    serveHeartbeat r s = ⟨s.lapse 1, .tooEarly, (s.lapse 1).heartbeatData⟩ := by
  have soon : s.watchdog.early = true := by
    unfold Watchdog.early
    rw [armed, decide_eq_true early]
    rfl
  unfold serveHeartbeat State.heartbeat
  rw [if_neg (not_not.mpr (List.length_eq_zero_iff.mpr h)), armed, soon]
  rfl

/-- Settles O12: the heartbeat by the watchdog's state, the lapse by its order over the kilns. -/
theorem heartbeatsAndLapses : Obligations.HeartbeatsAndLapses := by
  unfold Obligations.HeartbeatsAndLapses
  refine ⟨fun s d p g a ready => ⟨fun h => ?_, fun h disarmed => ?_, fun h lapsed => ?_, fun h armed late => ?_,
    fun h armed early => ?_⟩, fun s => ⟨fun armed => congrArg Host.Outcome.next (if_pos armed),
      fun rest => congrArg Host.Outcome.next (if_neg rest)⟩, fun s cause => ?lapse⟩
  · have code : WatchdogState.code s.watchdog.state =
        if s.watchdog.state = .disarmed then 0 else if s.watchdog.state = .armed then 1 else 2 := by
      cases s.watchdog.state <;> rfl
    rw [← code]
    exact exec_reply rfl ready (serveHeartbeat_refused _ s h)
  · exact exec_reply rfl ready (serveHeartbeat_restarts _ s h (.inl disarmed))
  · exact exec_reply rfl ready (serveHeartbeat_returns _ s h lapsed)
  · exact exec_reply rfl ready (serveHeartbeat_restarts _ s h (.inr ⟨armed, late⟩))
  · have data : (s.lapse 1).heartbeatData = be8 2 ++ be32 s.minutes.toNat := by
      obtain ⟨watchdog, -, minutes⟩ := State.lapse_clocks 1 s
      unfold State.heartbeatData
      rw [watchdog, minutes]
      rfl
    have served := serveHeartbeat_early (requestFor .heartbeat d p g a) s h armed early
    rw [data] at served
    exact exec_reply rfl ready served
  case lapse =>
    obtain ⟨watchdog, clock, -⟩ := State.lapse_clocks cause s
    obtain ⟨-, -, line, -, -, stations, -⟩ := State.aside_tables (State.lapse_aside cause s)
    refine ⟨watchdog, line, clock, stations, ⟨s.lapseOrder cause, _, s.lapseOrder_nodup cause, s.mem_lapseOrder cause,
      State.lapse_eq cause s⟩, fun k => ⟨State.lapse_kiln cause s k, fun idle => ?_⟩⟩
    rw [State.lapse_kiln, State.detect_ignored false .supervisor k s.lapsed (.inr idle)]
    rfl

end Sys2Proof.Machine
end

section
/-! PROOFS. Charge records (chapter 7): feeding, releasing, and the references on a record (R127 to R133). -/

namespace Sys2Proof.Machine

/-! ### A live record takes another live state -/

/-- A live record put into a state. -/
def Charge.into (x : ChargeState) (c : Charge) : Charge := { c with state := x }

theorem State.modCharge_into_ledger {x : ChargeState} (live : x ≠ .closed) (n : Nat) (s : State) (j : Fin 48) :
    (s.modCharge n (Charge.into x)).charges[j].ledger = s.charges[j].ledger := by
  rw [State.modCharge_entry]
  split
  · next h =>
      have was := (State.findLive_eq_some h).2
      simp only [Charge.ledger, Charge.into, beq_eq_false_iff_ne.mpr was, beq_eq_false_iff_ne.mpr live]
  · rfl

theorem State.modCharge_into (n : Nat) {x : ChargeState} (live : x ≠ .closed) (s : State) :
    (s.modCharge n (Charge.into x)).charge? n = (s.charge? n).map (Charge.into x) := by
  have found := State.findLive_of_ledger (State.modCharge_into_ledger live n s) n
  unfold State.charge?
  rw [found]
  cases which : s.findLive n with
  | none => rfl
  | some i => exact congrArg some ((State.modCharge_entry n _ s i).trans (if_pos which))

theorem State.modCharge_into_other {n m : Nat} (h : m ≠ n) {x : ChargeState} (live : x ≠ .closed) (s : State) :
    (s.modCharge n (Charge.into x)).charge? m = s.charge? m := by
  have found := State.findLive_of_ledger (State.modCharge_into_ledger live n s) m
  unfold State.charge?
  rw [found]
  cases which : s.findLive m with
  | none => rfl
  | some i =>
      have apart : s.findLive n ≠ some i := fun same =>
        h ((State.findLive_eq_some which).1.symm.trans (State.findLive_eq_some same).1)
      exact congrArg some ((State.modCharge_entry n _ s i).trans (if_neg apart))

theorem State.modCharge_sides (n : Nat) (f : Charge → Charge) (s : State) :
    (s.modCharge n f).line = s.line ∧ (s.modCharge n f).reuse = s.reuse := by
  fun_cases State.modCharge n f s <;> exact ⟨rfl, rfl⟩

/-! ### PLANER_FEED (R129, R130) -/

theorem State.leaveInfeed_sides (s : State) : s.leaveInfeed.line = s.line ∧ s.leaveInfeed.reuse = s.reuse := by
  unfold State.leaveInfeed
  split
  · exact State.modCharge_sides _ _ s
  · exact ⟨rfl, rfl⟩

theorem State.leaveInfeed_charge {s : State} {m : Nat} (h : s.line.infeed = some m) :
    s.leaveInfeed.charge? m = (s.charge? m).map (Charge.into .planed) := by
  unfold State.leaveInfeed
  rw [h]
  exact State.modCharge_into m (by decide) s

theorem State.leaveInfeed_other {s : State} {m : Nat} (h : s.line.infeed ≠ some m) :
    s.leaveInfeed.charge? m = s.charge? m := by
  unfold State.leaveInfeed
  split
  · next n infeed =>
      exact State.modCharge_into_other (fun same => h (by rw [infeed, same])) (x := .planed) (by decide) s
  · rfl

theorem State.planerFeed_line (n : Nat) (s : State) :
    (s.planerFeed n).line = { s.line with infeed := if n = 0 then none else some n } ∧ (s.planerFeed n).reuse = s.reuse := by
  obtain ⟨line, reuse⟩ := s.leaveInfeed_sides
  unfold State.planerFeed State.enterInfeed
  split
  · exact ⟨congrArg (fun l : Line => { l with infeed := none }) line, reuse⟩
  · obtain ⟨line', reuse'⟩ := State.modCharge_sides n (fun c => { c with state := .planing }) s.leaveInfeed
    exact ⟨congrArg (fun l : Line => { l with infeed := some n }) (line'.trans line), reuse'.trans reuse⟩

theorem State.planerFeed_other {n m : Nat} (h : n = 0 ∨ m ≠ n) (s : State) :
    (s.planerFeed n).charge? m = s.leaveInfeed.charge? m := by
  unfold State.planerFeed State.enterInfeed
  split
  · rfl
  · next some =>
      exact State.modCharge_into_other (h.resolve_left some) (x := .planing) (by decide) s.leaveInfeed

theorem State.planerFeed_enters {n : Nat} (h : n ≠ 0) (s : State) :
    (s.planerFeed n).charge? n = (s.leaveInfeed.charge? n).map (Charge.into .planing) := by
  unfold State.planerFeed State.enterInfeed
  rw [if_neg h]
  exact State.modCharge_into n (x := .planing) (by decide) s.leaveInfeed

/-- What a feed's reply says of the charge that leaves. -/
theorem State.planerFeed_reply {s : State} {n : Nat} {old : Charge} (bound : ∀ m, s.line.infeed = some m → s.charge? m = some old)
    (h : n = 0 ∨ s.line.infeed ≠ some n) : (s.planerFeed n).feedReply s.line.infeed =
      be16 (s.line.infeed.getD 0) ++ be8 (if s.line.infeed = none then 0 else old.refs) := by
  unfold State.feedReply State.refsOf
  cases infeed : s.line.infeed with
  | none => rfl
  | some m =>
      have apart : n = 0 ∨ m ≠ n := h.imp_right (fun ne same => ne (by rw [infeed, same]))
      dsimp only
      rw [State.planerFeed_other apart, State.leaveInfeed_charge infeed, bound m infeed]
      rfl

theorem ChargeState.finishing_iff (x : ChargeState) : x.finishing = true ↔ x = .stored ∨ x = .planed := by
  cases x <;> decide

theorem servePlanerFeed_layout (r : Request) (s : State) (h : r.args.length ≠ 2) :
    servePlanerFeed r s = refuse s .badArgument := if_pos h

theorem servePlanerFeed_empties (r : Request) (s : State) (layout : r.args.length = 2) (h : u16 r.args 0 = 0) :
    servePlanerFeed r s = okWith (s.planerFeed 0) ((s.planerFeed 0).feedReply s.line.infeed) := by
  unfold servePlanerFeed
  dsimp only
  rw [if_neg (not_not.mpr layout), if_pos h]

theorem servePlanerFeed_named (r : Request) (s : State) (layout : r.args.length = 2) (h : u16 r.args 0 ≠ 0) :
    (s.charge? (u16 r.args 0) = none → servePlanerFeed r s = refuse s .notFound)
    ∧ ∀ c, s.charge? (u16 r.args 0) = some c → servePlanerFeed r s =
      if c.state.finishing = true then okWith (s.planerFeed (u16 r.args 0))
        ((s.planerFeed (u16 r.args 0)).feedReply s.line.infeed)
      else refuse s .wrongState := by
  unfold servePlanerFeed
  dsimp only
  rw [if_neg (not_not.mpr layout), if_neg h]
  exact ⟨fun absent => by rw [absent], fun c live => by rw [live]⟩

/-! ### RELEASE_CHARGE (R132, R133) -/

theorem serveReleaseCharge_layout (r : Request) (s : State) (h : r.args.length ≠ 2 ∨ u16 r.args 0 = 0) :
    serveReleaseCharge r s = refuse s .badArgument := by
  unfold serveReleaseCharge
  split
  · rfl
  · next layout => exact if_pos (h.resolve_left layout)

theorem serveReleaseCharge_named (r : Request) (s : State) (layout : r.args.length = 2) (h : u16 r.args 0 ≠ 0) :
    (s.findLive (u16 r.args 0) = none → serveReleaseCharge r s = refuse s .notFound)
    ∧ ∀ i, s.findLive (u16 r.args 0) = some i → serveReleaseCharge r s =
      if s.charges[i].state.finishing = false then refuse s .wrongState
      else if s.charges[i].refs ≠ 0 then refuse s .inUse else okWith (s.closeRecord i) [] := by
  unfold serveReleaseCharge
  rw [if_neg (not_not.mpr layout), if_neg h]
  refine ⟨fun absent => by rw [absent], fun i found => ?_⟩
  rw [found]
  simp only [Bool.not_eq_true']

/-! ### References (R127, R131) -/

theorem State.takeRef_found {s : State} {n : Nat} {i : Fin 48} (h : s.findLive n = some i) :
    s.takeRef (some n) = { s with charges := s.charges.set i { s.charges[i] with refs := s.charges[i].refs + 1 } } := by
  unfold State.takeRef State.modCharge
  dsimp only
  rw [h]
  rfl

theorem State.releaseRef_found {s : State} {n : Nat} {i : Fin 48} (h : s.findLive n = some i) : s.releaseRef (some n) =
    if s.charges[i].state = .planed ∧ s.charges[i].refs = 1 then
      (s.setCharge i { s.charges[i] with refs := s.charges[i].refs - 1 }).closeRecord i
    else s.setCharge i { s.charges[i] with refs := s.charges[i].refs - 1 } := by
  unfold State.releaseRef
  dsimp only
  rw [h]

theorem State.closeRecord_setCharge (i : Fin 48) (c : Charge) (s : State) : (s.setCharge i c).closeRecord i =
    { s with
      charges := s.charges.set i { c with state := .closed, closedStamp := some ⟨s.clock.value, s.clock.isSet⟩ }
      reuse := s.reuse ++ [i] } := by
  have entry : (s.setCharge i c).charges[i] = c := (State.setCharge_entry s i i c).trans (if_pos rfl)
  unfold State.closeRecord
  rw [entry]
  unfold State.setCharge
  dsimp only
  rw [Vector.set_set]
  rfl

/-- Settles O41: the feed by the two records it changes, the release and the references by the record of the number. -/
theorem chargesMoveAndClose : Obligations.ChargesMoveAndClose := by
  unfold Obligations.ChargesMoveAndClose
  refine ⟨fun s d p g a ready => ⟨fun h => exec_reply rfl ready (servePlanerFeed_layout _ s h), fun layout named => ?_,
      fun old bound layout => ⟨fun zero => ?_, fun c named live state apart => ?_⟩⟩,
    fun s d p g a ready => ⟨fun h => exec_reply rfl ready (serveReleaseCharge_layout _ s h), fun layout named absent => ?_,
      fun i layout named found => ?_⟩, fun s => ⟨rfl, rfl⟩, fun s n i found => ⟨State.takeRef_found found, fun stays => ?_,
        fun planed one => ?_⟩⟩
  · obtain ⟨absent, present⟩ := servePlanerFeed_named (requestFor .planerFeed d p g a) s layout named
    refine ⟨fun h => exec_reply rfl ready (absent h), fun c live notStored notPlaned => exec_reply rfl ready ?_⟩
    exact (present c live).trans (if_neg (fun h => ((ChargeState.finishing_iff _).mp h).elim notStored notPlaned))
  · have served := servePlanerFeed_empties (requestFor .planerFeed d p g a) s layout zero
    rw [State.planerFeed_reply bound (.inl rfl)] at served
    obtain ⟨line, reuse⟩ := State.planerFeed_line 0 s
    refine ⟨s.planerFeed 0, exec_reply rfl ready served, line, fun m infeed => ?_, fun m other => ?_, reuse⟩
    · rw [State.planerFeed_other (.inl rfl), State.leaveInfeed_charge infeed, bound m infeed]
      rfl
    · rw [State.planerFeed_other (.inl rfl), State.leaveInfeed_other other]
  · have finishing := (ChargeState.finishing_iff _).mpr state
    have served : servePlanerFeed (requestFor .planerFeed d p g a) s =
        okWith (s.planerFeed (u16 a 0)) ((s.planerFeed (u16 a 0)).feedReply s.line.infeed) :=
      ((servePlanerFeed_named (requestFor .planerFeed d p g a) s layout named).2 c live).trans (if_pos finishing)
    rw [State.planerFeed_reply bound (.inr apart)] at served
    obtain ⟨line, reuse⟩ := State.planerFeed_line (u16 a 0) s
    rw [if_neg named] at line
    refine ⟨s.planerFeed (u16 a 0), exec_reply rfl ready served, line, ?_, fun m infeed => ?_, fun m ne other => ?_, reuse⟩
    · rw [State.planerFeed_enters named, State.leaveInfeed_other apart, live]
      rfl
    · rw [State.planerFeed_other (.inr (fun same => apart (infeed.trans (congrArg some same)))), State.leaveInfeed_charge infeed, bound m infeed]
      rfl
    · rw [State.planerFeed_other (.inr ne), State.leaveInfeed_other other]
  · exact exec_reply rfl ready ((serveReleaseCharge_named (requestFor .releaseCharge d p g a) s layout named).1 absent)
  · have served := (serveReleaseCharge_named (requestFor .releaseCharge d p g a) s layout named).2 i found
    refine ⟨fun notStored notPlaned => exec_reply rfl ready (served.trans (if_pos ?_)),
      fun state used => exec_reply rfl ready (served.trans ?_), fun state unused => exec_reply rfl ready (served.trans ?_)⟩
    · exact Bool.eq_false_iff.mpr (fun h => ((ChargeState.finishing_iff _).mp h).elim notStored notPlaned)
    · rw [(ChargeState.finishing_iff _).mpr state, if_neg nofun, if_pos used]
      rfl
    · rw [(ChargeState.finishing_iff _).mpr state, if_neg nofun, if_neg (not_not.mpr unused)]
      rfl
  · exact (State.releaseRef_found found).trans (if_neg stays)
  · rw [State.releaseRef_found found, if_pos ⟨planed, one⟩, State.closeRecord_setCharge, one]

end Sys2Proof.Machine
end

section
/-! PROOFS. The writes of the pack builder (chapter 9): the sort list, the bins, the next pack number (R162, R164, R165). -/

namespace Sys2Proof.Machine

theorem natField_zero_clamped (hi n : Nat) : (natField 0 hi n).clamped = false ↔ min hi n = n := by
  unfold natField clampNat
  simp

theorem PackKind.ofCode?_eq_some_iff (n : Nat) (x : PackKind) : PackKind.ofCode? n = some x ↔ n = x.code := by
  constructor
  · intro h
    unfold PackKind.ofCode? at h
    split at h <;> cases h <;> rfl
  · rintro rfl
    cases x <;> rfl

theorem PackKind.ofCode?_none {n : Nat} (h : 1 < n) : PackKind.ofCode? n = none := by
  refine Option.eq_none_iff_forall_ne_some.mpr (fun x found => ?_)
  rw [PackKind.ofCode?_eq_some_iff] at found
  cases x <;> simp only [PackKind.code] at found <;> omega

/-! ### WRITE_SORT (R162) -/

theorem serveWriteSort_refused (r : Request) (s : State) (h : r.args.length ≠ 9 ∨ 15 < u8 r.args 0
    ∨ BitVec.ofNat 5 (u8 r.args 1) ≠ 0 ∧ (15 < u8 r.args 8 ∨ min 15 (u8 r.args 3) < min 15 (u8 r.args 2)
      ∨ u16 r.args 6 < u16 r.args 4)) : serveWriteSort r s = refuse s .badArgument := by
  unfold serveWriteSort
  split
  · rfl
  · next layout =>
      split
      · rfl
      · next i hi =>
          have index := (index?_eq_some_iff _ _).mp hi
          obtain ⟨mask, rest⟩ := (h.resolve_left layout).resolve_left (by omega)
          dsimp only
          rw [if_neg mask]
          split
          · rfl
          · next bin hbin =>
              have inside := (index?_eq_some_iff _ _).mp hbin
              rw [natField_zero_value, natField_zero_value]
              exact if_pos (rest.resolve_left (by omega))

theorem serveWriteSort_empties (r : Request) (s : State) (i : Fin 16) (layout : r.args.length = 9) (hi : u8 r.args 0 = i.val)
    (mask : BitVec.ofNat 5 (u8 r.args 1) = 0) :
    serveWriteSort r s = okWith { s with sortList := s.sortList.set i {} } [] := by
  unfold serveWriteSort
  rw [if_neg (not_not.mpr layout), (index?_eq_some_iff _ i).mpr hi]
  exact if_pos mask

theorem serveWriteSort_writes (r : Request) (s : State) (i bin : Fin 16) (layout : r.args.length = 9) (hi : u8 r.args 0 = i.val)
    (mask : BitVec.ofNat 5 (u8 r.args 1) ≠ 0) (hbin : u8 r.args 8 = bin.val)
    (grades : min 15 (u8 r.args 2) ≤ min 15 (u8 r.args 3)) (lengths : u16 r.args 4 ≤ u16 r.args 6) :
    serveWriteSort r s = ⟨{ s with
        sortList := s.sortList.set i
          ⟨BitVec.ofNat 5 (u8 r.args 1), min 15 (u8 r.args 2), min 15 (u8 r.args 3), u16 r.args 4, u16 r.args 6, bin⟩ },
      if min 15 (u8 r.args 2) = u8 r.args 2 ∧ min 15 (u8 r.args 3) = u8 r.args 3 then .ok else .okClamped, []⟩ := by
  have sent : ((natField 0 15 (u8 r.args 2)).clamped || (natField 0 15 (u8 r.args 3)).clamped) = false
      ↔ min 15 (u8 r.args 2) = u8 r.args 2 ∧ min 15 (u8 r.args 3) = u8 r.args 3 := by
    rw [Bool.or_eq_false_iff, natField_zero_clamped, natField_zero_clamped]
  unfold serveWriteSort
  rw [if_neg (not_not.mpr layout), (index?_eq_some_iff _ i).mpr hi]
  dsimp only
  rw [if_neg mask, (index?_eq_some_iff _ bin).mpr hbin]
  dsimp only
  rw [okClampedIf_eq sent, natField_zero_value, natField_zero_value]
  exact if_neg (by omega)

/-! ### WRITE_BIN (R164) -/

theorem serveWriteBin_refused (r : Request) (s : State) (h : r.args.length ≠ 4 ∨ 15 < u8 r.args 0 ∨ 1 < u8 r.args 3) :
    serveWriteBin r s = refuse s .badArgument := by
  unfold serveWriteBin
  split
  · rfl
  · next layout =>
      rcases h.resolve_left layout with far | far
      · rw [index?_of_le 16 _ far]
      · rw [PackKind.ofCode?_none far]
        cases index? 16 (u8 r.args 0) <;> rfl

theorem serveWriteBin_writes (r : Request) (s : State) (i : Fin 16) (kind : PackKind) (layout : r.args.length = 4)
    (hi : u8 r.args 0 = i.val) (hkind : u8 r.args 3 = kind.code) : serveWriteBin r s =
      ⟨{ s with bins := s.bins.set i { s.bins[i] with target := min 500 (u16 r.args 1), kind := kind } },
        if u16 r.args 1 ≤ 500 then .ok else .okClamped, []⟩ := by
  have sent : (natField 0 500 (u16 r.args 1)).clamped = false ↔ u16 r.args 1 ≤ 500 := by
    rw [natField_zero_clamped]
    omega
  unfold serveWriteBin
  rw [if_neg (not_not.mpr layout), (index?_eq_some_iff _ i).mpr hi, (PackKind.ofCode?_eq_some_iff _ _).mpr hkind]
  dsimp only
  rw [okClampedIf_eq sent, natField_zero_value]
  rfl

/-! ### SET_PACK_BASE (R165) -/

theorem serveSetPackBase_refused (r : Request) (s : State) (h : r.args.length ≠ 4 ∨ u32 r.args 0 = 0) :
    serveSetPackBase r s = refuse s .badArgument := by
  unfold serveSetPackBase
  split
  · rfl
  · next layout => exact if_pos (h.resolve_left layout)

theorem serveSetPackBase_writes (r : Request) (s : State) (layout : r.args.length = 4) (h : u32 r.args 0 ≠ 0) :
    serveSetPackBase r s = okWith { s with nextPack := BitVec.ofNat 32 (u32 r.args 0) } [] := by
  unfold serveSetPackBase
  rw [if_neg (not_not.mpr layout), if_neg h]

/-- Settles O48: each write by its checks and the entry it replaces. -/
theorem sortBinAndPackBaseAreWritten : Obligations.SortBinAndPackBaseAreWritten := by
  unfold Obligations.SortBinAndPackBaseAreWritten
  refine fun s d p g a => ⟨fun ready => ⟨fun h => exec_reply rfl ready (serveWriteSort_refused (requestFor .writeSort d p g a) s h),
      fun i layout hi => ⟨fun mask => exec_reply rfl ready (serveWriteSort_empties (requestFor .writeSort d p g a) s i layout hi mask),
        fun bin mask hbin grades lengths =>
          exec_reply rfl ready (serveWriteSort_writes (requestFor .writeSort d p g a) s i bin layout hi mask hbin grades lengths)⟩⟩,
    fun ready => ⟨fun h => exec_reply rfl ready (serveWriteBin_refused (requestFor .writeBin d p g a) s h),
      fun i kind layout hi hkind => exec_reply rfl ready (serveWriteBin_writes (requestFor .writeBin d p g a) s i kind layout hi hkind)⟩,
    fun ready => ⟨fun h => exec_reply rfl ready (serveSetPackBase_refused (requestFor .setPackBase d p g a) s h),
      fun layout h => exec_reply rfl ready (serveSetPackBase_writes (requestFor .setPackBase d p g a) s layout h)⟩⟩

end Sys2Proof.Machine
end

section
/-! PROOFS. Scans (chapter 8): which boards a scan reaches, and what a paired board takes from it (R54, R55, R57, R145 to R147). -/

namespace Sys2Proof.Machine

/-! ### The boards that a scan reaches (R146) -/

/-- What a scan at distance `d` makes of a board with `c` waiting boards before it. -/
def Board.matched (pair : Board → Board) (d c : Nat) (b : Board) : Board :=
  if b.state ≠ .awaitRead then b else if c < d then b.skip else if c = d then pair b else b

/-- A board waits for its scan. -/
def Board.waits (b : Board) : Bool := b.state == .awaitRead

theorem Board.waits_eq {b : Board} (h : b.state = .awaitRead) : b.waits = true := beq_iff_eq.mpr h

theorem Board.waits_ne {b : Board} (h : b.state ≠ .awaitRead) : b.waits = false := beq_eq_false_iff_ne.mpr h

theorem Board.matched_succ (pair : Board → Board) (d c : Nat) (b : Board) : b.matched pair (d + 1) (c + 1) = b.matched pair d c := by
  unfold Board.matched
  simp only [Nat.add_lt_add_iff_right, Nat.add_right_cancel_iff]

theorem Board.matched_after (pair : Board → Board) (c : Nat) (b : Board) : b.matched pair 0 (c + 1) = b := by
  unfold Board.matched
  simp

theorem matchBoards_get (pair : Board → Board) (d : Nat) (l : List Board) (i : Nat) (b : Board) (h : l[i]? = some b) :
    (matchBoards pair d l)[i]? = some (b.matched pair d ((l.take i).countP Board.waits)) := by
  induction l generalizing d i with
  | nil => exact nomatch h
  | cons x rest ih =>
      unfold matchBoards
      split
      · next waits =>
          cases i with
          | zero =>
              cases h
              cases d <;> simp [Board.matched, waits]
          | succ i =>
              have passed : ((x :: rest).take (i + 1)).countP Board.waits = (rest.take i).countP Board.waits + 1 := by
                rw [List.take_succ_cons, List.countP_cons_of_pos (Board.waits_eq waits)]
              rw [passed]
              cases d with
              | zero => rw [Board.matched_after]; exact h
              | succ d => rw [Board.matched_succ]; exact ih d i h
      · next other =>
          cases i with
          | zero =>
              cases h
              simp [Board.matched, other]
          | succ i =>
              have passed : ((x :: rest).take (i + 1)).countP Board.waits = (rest.take i).countP Board.waits := by
                rw [List.take_succ_cons, List.countP_cons_of_neg (by rw [Board.waits_ne other]; nofun)]
              rw [passed]
              exact ih d i h

theorem State.scanArrival_stale {s : State} {x : List Byte} (h : 16 ≤ (x.getD 0 0 - s.line.expected.getD (x.getD 0 0)).toNat) :
    s.scanArrival x = { s with line := { s.line with
      counters := { s.line.counters with scanStale := bump16 s.line.counters.scanStale } } } := if_pos h

theorem State.scanArrival_matches {s : State} {x : List Byte}
    (h : (x.getD 0 0 - s.line.expected.getD (x.getD 0 0)).toNat ≤ 15) :
    s.scanArrival x = s.matchScan x (x.getD 0 0 - s.line.expected.getD (x.getD 0 0)).toNat := if_neg (by omega)

/-! ### A paired board (R147) -/

theorem State.boardGroup_getD (s : State) (b : Board) : s.boardGroup b =
    s.species[((b.charge.bind s.charge?).map Charge.species).getD s.line.settings.defaultSpecies] := by
  unfold State.boardGroup
  split
  · next n number =>
      split
      · next c record =>
          exact congrArg (fun g : Fin 16 => s.species[g]) (by rw [number, Option.bind_some, record]; rfl)
      · next absent =>
          exact congrArg (fun g : Fin 16 => s.species[g]) (by rw [number, Option.bind_some, absent]; rfl)
  · next absent => exact congrArg (fun g : Fin 16 => s.species[g]) (by rw [absent]; rfl)

/-- The board as a scan finds it, before its reading. -/
def Board.scanned (x : List Byte) (b : Board) : Board :=
  { b with state := .read, scan := some (scanOf x), lateRead := b.lateRead || b.pattern.isSome }

theorem State.pairBoard_split (s : State) (x : List Byte) {b : Board} (h : b.split = true) :
    s.pairBoard x b = { b.scanned x with cls := some .noRead } := if_pos h

theorem State.pairBoard_reads (s : State) (x : List Byte) {b : Board} (h : b.split = false) :
    s.pairBoard x b = (b.scanned x).withZones s.line.settings (boardZones (s.boardGroup b) x) :=
  if_neg (by rw [h]; nofun)

/-! ### The figures of a reading (R55, R57) -/

theorem foldl_max_ge (l : List Corrected) (m : Nat) : m ≤ l.foldl (fun m c => max m c.value) m
    ∧ ∀ c ∈ l, c.value ≤ l.foldl (fun m c => max m c.value) m := by
  induction l generalizing m with
  | nil => exact ⟨le_rfl, fun _ h => absurd h List.not_mem_nil⟩
  | cons x l ih =>
      obtain ⟨start, rest⟩ := ih (max m x.value)
      refine ⟨(Nat.le_max_left ..).trans start, fun c h => ?_⟩
      rcases List.mem_cons.mp h with rfl | inside
      · exact (Nat.le_max_right ..).trans start
      · exact rest c inside

theorem foldl_max_mem (l : List Corrected) (m : Nat) : l.foldl (fun m c => max m c.value) m = m
    ∨ ∃ c ∈ l, c.value = l.foldl (fun m c => max m c.value) m := by
  induction l generalizing m with
  | nil => exact .inl rfl
  | cons x l ih =>
      rw [List.foldl_cons]
      rcases ih (max m x.value) with same | ⟨c, inside, same⟩
      · rw [same]
        rcases Nat.le_total m x.value with low | high
        · exact .inr ⟨x, List.mem_cons_self, (Nat.max_eq_right low).symm⟩
        · exact .inl (Nat.max_eq_left high)
      · exact .inr ⟨c, List.mem_cons_of_mem _ inside, same⟩

theorem foldl_max_spec {l : List Corrected} (h : l ≠ []) : (∃ c ∈ l, c.value = l.foldl (fun m c => max m c.value) 0)
    ∧ ∀ c ∈ l, c.value ≤ l.foldl (fun m c => max m c.value) 0 := by
  obtain ⟨-, above⟩ := foldl_max_ge l 0
  refine ⟨?_, above⟩
  rcases foldl_max_mem l 0 with zero | found
  · obtain ⟨c, inside⟩ := List.exists_mem_of_ne_nil l h
    exact ⟨c, inside, by have := above c inside; omega⟩
  · exact found

theorem any_flag_iff (l : List Corrected) (f : MoistureFlag) : l.any (fun c => c.flag == f) = true ↔ ∃ c ∈ l, c.flag = f := by
  simp only [List.any_eq_true, beq_iff_eq]

theorem Board.withZones_empty (l : LineSettings) {zones : List (Option Corrected)} (h : zones.filterMap id = []) (b : Board) :
    (b.withZones l zones).mc = none ∧ (b.withZones l zones).mean = none ∧ (b.withZones l zones).cls = some .noRead := by
  unfold Board.withZones
  dsimp only
  rw [h]
  exact ⟨rfl, rfl, rfl⟩

theorem Board.withZones_figures (l : LineSettings) {zones : List (Option Corrected)} (h : zones.filterMap id ≠ []) (b : Board) :
    (b.withZones l zones).mean = some ((((zones.filterMap id).map Corrected.value).sum + (zones.filterMap id).length / 2)
      / (zones.filterMap id).length)
    ∧ (b.withZones l zones).mc = some ((zones.filterMap id).foldl (fun m c => max m c.value) 0)
    ∧ (b.withZones l zones).cls = some (classify l (some ((zones.filterMap id).foldl (fun m c => max m c.value) 0))) := by
  have full : (zones.filterMap id).isEmpty = false := Bool.eq_false_iff.mpr (fun empty => h (List.isEmpty_iff.mp empty))
  unfold Board.withZones
  dsimp only
  rw [full]
  exact ⟨rfl, rfl, rfl⟩

theorem classify_cases (l : LineSettings) (m : Nat) :
    (m < l.overdry → classify l (some m) = .overdry)
    ∧ (l.overdry ≤ m → m ≤ l.wet → classify l (some m) = .target)
    ∧ (l.overdry ≤ l.wet → l.wet < m → m ≤ l.redry → classify l (some m) = .wet)
    ∧ (l.overdry ≤ l.wet → l.wet ≤ l.redry → l.redry < m → classify l (some m) = .redry) := by
  unfold classify
  dsimp only
  refine ⟨fun low => if_pos low, fun low high => ?_, fun _ low high => ?_, fun _ _ low => ?_⟩
  · rw [if_neg (by omega), if_pos high]
  · rw [if_neg (by omega), if_neg (by omega), if_pos high]
  · rw [if_neg (by omega), if_neg (by omega), if_neg (by omega)]

/-- Settles O44: the arrival by its distance, the boards by the waiting ones before them, the reading by its zones. -/
theorem scansPairBoards : Obligations.ScansPairBoards := by
  unfold Obligations.ScansPairBoards
  refine ⟨fun s x => ⟨State.scanArrival_stale, fun near => ?arrival⟩, fun s x b => ?paired, fun l zones b => ?figures⟩
  case arrival =>
    refine ⟨matchBoards (s.pairBoard x) (x.getD 0 0 - s.line.expected.getD (x.getD 0 0)).toNat s.line.queue,
      State.scanArrival_matches near, matchBoards_length _ _ _, fun i b hb => ?_⟩
    have reached := matchBoards_get (s.pairBoard x) (x.getD 0 0 - s.line.expected.getD (x.getD 0 0)).toNat s.line.queue i b hb
    refine ⟨fun other => reached.trans (congrArg some (if_pos other)), fun waits before => reached.trans (congrArg some ?_),
      fun waits same => reached.trans (congrArg some ?_), fun waits past => reached.trans (congrArg some ?_)⟩
    all_goals refine (if_neg (not_not.mpr waits)).trans ?_
    · exact if_pos before
    · exact (if_neg (Nat.not_lt.mpr (le_of_eq same.symm))).trans (if_pos same)
    · exact (if_neg (Nat.not_lt.mpr past.le)).trans (if_neg past.ne')
  case paired =>
    rcases Bool.eq_false_or_eq_true b.split with h | h
    · have whole : b.split ≠ false := by rw [h]; nofun
      rw [State.pairBoard_split s x h]
      exact ⟨rfl, rfl, rfl, rfl, rfl, rfl, fun _ => ⟨rfl, rfl, rfl, rfl⟩, fun _ => rfl, fun g => absurd g whole,
        fun g => absurd g whole⟩
    · have whole : b.split ≠ true := by rw [h]; nofun
      rw [State.pairBoard_reads s x h]
      exact ⟨rfl, rfl, rfl, rfl, rfl, rfl, fun g => absurd g whole, fun g => absurd g whole, fun _ => rfl,
        fun _ => ⟨congrArg (fun g => boardZones g x) (s.boardGroup_getD b), rfl⟩⟩
  case figures =>
    refine ⟨rfl, any_flag_iff _ _, any_flag_iff _ _, fun none => Board.withZones_empty l none b, fun some => ?_⟩
    obtain ⟨mean, mc, cls⟩ := Board.withZones_figures l some b
    obtain ⟨inside, above⟩ := foldl_max_spec some
    rw [cls]
    obtain ⟨overdry, target, wet, redry⟩ := classify_cases l ((zones.filterMap id).foldl (fun m c => max m c.value) 0)
    exact ⟨mean, _, mc, inside, above, fun h => congrArg Option.some (overdry h), fun h g => congrArg Option.some (target h g),
      fun h g k => congrArg Option.some (wet h g k), fun h g k => congrArg Option.some (redry h g k)⟩

end Sys2Proof.Machine
end

section
/-! PROOFS. The line tracker and its line-hold (chapter 8): what the line-hold's evaluation leaves, and the edges of the board-eye
(R140 to R144, R148, R155). -/

namespace Sys2Proof.Machine

/-! ### Updates of the line commute with the rest -/

theorem State.raise_withLine (n : Notice) (s : State) (l : Line) :
    ({ s with line := l } : State).raise n = { s.raise n with line := l } := by
  have whole : s.raise n = (s.raise n).amid s := State.raise_amid n s s
  refine (State.raise_amid n s { s with line := l }).trans ?_
  rw [whole]
  rfl

theorem State.modCharge_withLine (n : Nat) (f : Charge → Charge) (s : State) (l : Line) :
    ({ s with line := l } : State).modCharge n f = { s.modCharge n f with line := l } := by
  have found : ({ s with line := l } : State).findLive n = s.findLive n := rfl
  unfold State.modCharge
  rw [found]
  cases s.findLive n <;> rfl

theorem State.takeRef_withLine (c : Option Nat) (s : State) (l : Line) :
    ({ s with line := l } : State).takeRef c = { s.takeRef c with line := l } := by
  cases c with
  | none => rfl
  | some n => exact State.modCharge_withLine n (fun r => { r with refs := r.refs + 1 }) s l

theorem State.releaseRef_withLine (c : Option Nat) (s : State) (l : Line) :
    ({ s with line := l } : State).releaseRef c = { s.releaseRef c with line := l } := by
  cases c with
  | none => rfl
  | some n =>
      have found : ({ s with line := l } : State).findLive n = s.findLive n := rfl
      unfold State.releaseRef
      dsimp only
      rw [found]
      cases s.findLive n with
      | none => rfl
      | some i =>
          dsimp only
          split <;> rfl

theorem State.takeRef_line (c : Option Nat) (s : State) : (s.takeRef c).line = s.line ∧ (s.takeRef c).labels = s.labels := by
  cases c with
  | none => exact ⟨rfl, rfl⟩
  | some n => fun_cases State.modCharge n (fun r => { r with refs := r.refs + 1 }) s <;> simp_all [State.takeRef, State.modCharge]

/-! ### The evaluation of the line-hold (R155, R156) -/

/-- The line-hold that the queues of a part give. -/
def State.nextHold (s : State) : Bool := holdNext s.line.holdAsserted s.line.queue.length s.labels.queue.length

theorem State.evaluateHold_same {s : State} (h : s.nextHold = s.line.holdAsserted) : s.evaluateHold = s := if_pos h

theorem State.evaluateHold_turns {s : State} (h : s.nextHold ≠ s.line.holdAsserted) : s.evaluateHold =
    ({ s with line := { s.line with holdAsserted := s.nextHold, lostNotice := s.nextHold && s.line.lostNotice } } : State).raise
      ⟨.lineHold, none, be8 (if s.nextHold = true then 1 else 0) ++ be8 s.line.queue.length ++ be8 s.labels.queue.length⟩ := by
  refine (if_neg h).trans ?_
  rw [← beBool_eq]
  rfl

/-- Beyond the line-hold and its lost-notice flag the evaluation keeps the line. -/
theorem State.evaluateHold_line (s : State) : s.evaluateHold.line = { s.line with
    holdAsserted := s.nextHold
    lostNotice := if s.nextHold = s.line.holdAsserted then s.line.lostNotice else s.nextHold && s.line.lostNotice } := by
  by_cases h : s.nextHold = s.line.holdAsserted
  · rw [State.evaluateHold_same h, if_pos h, h]
  · rw [State.evaluateHold_turns h, State.raise_line, if_neg h]

theorem State.evaluateHold_charges (s : State) : s.evaluateHold.charges = s.charges ∧ s.evaluateHold.reuse = s.reuse
    ∧ s.evaluateHold.lots = s.lots ∧ s.evaluateHold.bins = s.bins ∧ s.evaluateHold.packLog = s.packLog := by
  by_cases h : s.nextHold = s.line.holdAsserted
  · rw [State.evaluateHold_same h]
    exact ⟨rfl, rfl, rfl, rfl, rfl⟩
  · rw [State.evaluateHold_turns h]
    exact ⟨State.raise_charges _ _, State.raise_reuse _ _, State.raise_lots _ _, State.raise_bins _ _, State.raise_packLog _ _⟩

/-- An evaluation can be read off the line after it. -/
theorem State.evaluateHold_eq_of_line {s t : State} {l : Line} (h : t = ({ s with line := l } : State).evaluateHold)
    {asserted lost : Bool} (ha : asserted = l.holdAsserted) (hl : lost = l.lostNotice) :
    t = ({ s with line := { t.line with holdAsserted := asserted, lostNotice := lost } } : State).evaluateHold := by
  have same : ({ t.line with holdAsserted := asserted, lostNotice := lost } : Line) = l := by
    rw [h, State.evaluateHold_line, ha, hl]
  rw [same]
  exact h

/-! ### The leading edge (R140 to R143, R148) -/

theorem Line.early_iff (l : Line) :
    l.early = true ↔ ∃ x, l.lastLeading = some x ∧ (l.position - x).toInt < l.settings.minSpacing := by
  unfold Line.early
  cases l.lastLeading <;> simp [signedDistance]

theorem Board.markSplit_eq (b : Board) : b.markSplit = if b.state = .read then { b with
      split := true, zones := [], mc := none, mean := none, clamped := false, overRange := false, cls := some .noRead }
    else { b with split := true } := by
  unfold Board.markSplit
  cases h : b.state <;> simp

/-- The tracking queue as a leading edge finds it, the last opened board flagged where the edge is early. -/
def Line.flagged (l : Line) : List Board :=
  l.queue.map (fun b => if l.early = true ∧ l.lastOpened = some b.serial then b.markSplit else b)

theorem Line.flagged_late {l : Line} (h : l.early = false) : l.flagged = l.queue := by
  unfold Line.flagged
  simp [h]

theorem Line.splitLast_eq {l : Line} (h : l.early = true) : l.splitLast = { l with queue := l.flagged } := by
  unfold Line.splitLast
  split
  · next last =>
      have same : l.flagged = l.queue := by
        unfold Line.flagged
        simp [last]
      rw [same]
  · next n last =>
      have same : l.flagged = l.queue.map (fun b => if b.serial = n then b.markSplit else b) := by
        unfold Line.flagged
        simp [h, last, eq_comm]
      rw [same]

/-- An edge that opens a board, or loses it. -/
theorem State.leadingEdge_opens {s : State} (clear : s.line.eyeBlocked = false) (forward : s.line.direction = .forward)
    (h : s.line.early = false ∨ s.line.settings.policy = .split) : s.leadingEdge =
      ({ s with line := { s.line with eyeBlocked := true, queue := s.line.flagged } } : State).openBoard := by
  have early : ({ s.line with eyeBlocked := true } : Line).early = s.line.early := rfl
  unfold State.leadingEdge
  rw [clear, if_neg Bool.false_ne_true]
  dsimp only
  rw [if_neg (by rw [forward]; nofun)]
  unfold State.takeLeading
  rw [State.modLine_line, early]
  rcases Bool.eq_false_or_eq_true s.line.early with soon | late
  · rw [if_pos soon, h.resolve_left (by rw [soon]; nofun)]
    have split := Line.splitLast_eq (l := { s.line with eyeBlocked := true }) soon
    exact congrArg (fun l : Line => ({ s with line := l } : State).openBoard) split
  · rw [if_neg (by rw [late]; nofun), Line.flagged_late late]
    rfl

/-- The line as a leading edge finds it, the eye blocked. -/
def Line.flaggedEdge (l : Line) : Line := { l with eyeBlocked := true, queue := l.flagged }

theorem Line.flagged_length (l : Line) : l.flagged.length = l.queue.length := List.length_map _

theorem State.openBoard_room {s : State} (h : s.line.queue.length < 64) :
    s.openBoard = ({ s.takeRef s.line.infeed with line := s.line.opened } : State).evaluateHold := by
  refine (if_pos h).trans ?_
  rw [State.modLine, State.takeRef_withLine]

theorem State.openBoard_full {s : State} (h : s.line.queue.length = 64) : s.openBoard =
    { (if s.line.lostNotice = true then s else s.raise
        ⟨.boardsLost, none, be24 s.line.position.toNat ++ be16 (s.line.infeed.getD 0) ++ be8 64⟩) with
      line := { s.line.lostOne with lostNotice := true } } := by
  refine (if_neg (by rw [h]; decide)).trans ?_
  unfold State.noteLost
  by_cases told : s.line.lostNotice = true
  · rw [if_pos told, if_pos (by exact told)]
    change ({ s with line := s.line.lostOne } : State) = _
    have kept : ({ s.line.lostOne with lostNotice := true } : Line) = s.line.lostOne := by
      rw [← told]
      rfl
    rw [kept]
  · rw [if_neg told, if_neg (by exact told), ← State.raise_withLine, ← h]
    rfl

theorem State.leadingEdge_room {s : State} (clear : s.line.eyeBlocked = false) (forward : s.line.direction = .forward)
    (h : s.line.early = false ∨ s.line.settings.policy = .split) (room : s.line.queue.length < 64) : s.leadingEdge =
      ({ s.takeRef s.line.infeed with line := s.line.flaggedEdge.opened } : State).evaluateHold := by
  have opened := State.openBoard_room (s := { s with line := s.line.flaggedEdge }) (by rwa [← Line.flagged_length] at room)
  rw [State.takeRef_withLine] at opened
  exact (State.leadingEdge_opens clear forward h).trans opened

theorem State.leadingEdge_full {s : State} (clear : s.line.eyeBlocked = false) (forward : s.line.direction = .forward)
    (h : s.line.early = false ∨ s.line.settings.policy = .split) (full : s.line.queue.length = 64) : s.leadingEdge =
      { (if s.line.lostNotice = true then s else s.raise
          ⟨.boardsLost, none, be24 s.line.position.toNat ++ be16 (s.line.infeed.getD 0) ++ be8 64⟩) with
        line := { s.line.flaggedEdge.lostOne with lostNotice := true } } := by
  have lost := State.openBoard_full (s := { s with line := s.line.flaggedEdge }) (by rwa [← Line.flagged_length] at full)
  rw [State.raise_withLine] at lost
  refine (State.leadingEdge_opens clear forward h).trans (lost.trans ?_)
  by_cases told : s.line.lostNotice = true
  · rw [if_pos told, if_pos (by exact told)]
  · rw [if_neg told, if_neg (by exact told)]
    rfl

/-! ### The trailing edge (R140, R144) -/

theorem clearFirst_none {l : List Board} (h : ∀ b ∈ l, b.state ≠ .inView) : clearFirst l = l := by
  induction l with
  | nil => rfl
  | cons b l ih =>
      obtain ⟨here, rest⟩ := List.forall_mem_cons.mp h
      rw [clearFirst, if_neg here, ih rest]

theorem clearFirst_append {before : List Board} (h : ∀ b ∈ before, b.state ≠ .inView) {b : Board} (here : b.state = .inView)
    (after : List Board) :
    clearFirst (before ++ b :: after) = before ++ { b with state := .awaitRead } :: after := by
  induction before with
  | nil => exact if_pos here
  | cons x before ih =>
      obtain ⟨first, rest⟩ := List.forall_mem_cons.mp h
      rw [List.cons_append, clearFirst, if_neg first, ih rest]
      rfl

theorem Line.takeTrailing_none {l : Line} (h : ∀ b ∈ l.queue, b.state ≠ .inView) : l.takeTrailing = l := by
  unfold Line.takeTrailing
  rw [clearFirst_none (fun b hb => h b (List.mem_reverse.mp hb)), List.reverse_reverse]

theorem Line.takeTrailing_newest {l : Line} {before after : List Board} {b : Board} (queue : l.queue = before ++ b :: after)
    (here : b.state = .inView) (newest : ∀ x ∈ after, x.state ≠ .inView) :
    l.takeTrailing = { l with queue := before ++ { b with state := .awaitRead } :: after } := by
  have turned : l.queue.reverse = after.reverse ++ b :: before.reverse := by
    rw [queue, List.reverse_append, List.reverse_cons, List.append_assoc]
    rfl
  unfold Line.takeTrailing
  rw [turned, clearFirst_append (fun x hx => newest x (List.mem_reverse.mp hx)) here, List.reverse_append, List.reverse_cons,
    List.reverse_reverse, List.reverse_reverse, List.append_assoc]
  rfl

theorem State.leadingEdge_blocked {s : State} (h : s.line.eyeBlocked = true) : s.leadingEdge = s := if_pos h

theorem State.leadingEdge_backward {s : State} (clear : s.line.eyeBlocked = false) (h : s.line.direction = .backward) :
    s.leadingEdge = { s with line := { s.line with
      eyeBlocked := true, counters := { s.line.counters with reverseEdges := bump16 s.line.counters.reverseEdges } } } :=
  (if_neg (by rw [clear]; nofun)).trans (if_pos h)

theorem State.leadingEdge_merges {s : State} (clear : s.line.eyeBlocked = false) (forward : s.line.direction = .forward)
    (early : s.line.early = true) (merge : s.line.settings.policy = .merge) :
    s.leadingEdge = { s with line := { s.line with eyeBlocked := true } } := by
  have same : ({ s.line with eyeBlocked := true } : Line).early = s.line.early := rfl
  refine (if_neg (by rw [clear]; nofun)).trans ((if_neg (by rw [forward]; nofun)).trans ?_)
  unfold State.takeLeading
  rw [State.modLine_line, same, if_pos early, merge]
  rfl

theorem State.trailingEdge_clear {s : State} (h : s.line.eyeBlocked = false) : s.trailingEdge = s :=
  if_neg (by rw [h]; nofun)

theorem State.trailingEdge_backward {s : State} (blocked : s.line.eyeBlocked = true) (h : s.line.direction = .backward) :
    s.trailingEdge = { s with line := { s.line with
      eyeBlocked := false, counters := { s.line.counters with reverseEdges := bump16 s.line.counters.reverseEdges } } } :=
  (if_pos blocked).trans (if_pos h)

theorem State.trailingEdge_forward {s : State} (blocked : s.line.eyeBlocked = true) (h : s.line.direction = .forward) :
    s.trailingEdge = { s with line := ({ s.line with eyeBlocked := false } : Line).takeTrailing } :=
  (if_pos blocked).trans (if_neg (by rw [h]; nofun))

/-- Settles O43: the edges by the eye, the direction and the policy; an opened or lost board by the room in the queue. -/
theorem eyeEdgesOpenAndCloseBoards : Obligations.EyeEdgesOpenAndCloseBoards := by
  unfold Obligations.EyeEdgesOpenAndCloseBoards
  refine ⟨fun s => ⟨fun h => congrArg Host.Outcome.next (State.leadingEdge_blocked h),
    fun clear h => congrArg Host.Outcome.next (State.leadingEdge_backward clear h),
    fun clear forward early merge => congrArg Host.Outcome.next
      (State.leadingEdge_merges clear forward ((Line.early_iff _).mpr early) merge), fun opens room => ?opened,
    fun opens full => ?lost, Board.markSplit_eq⟩,
    fun s => ⟨fun h => congrArg Host.Outcome.next (State.trailingEdge_clear h),
      fun blocked h => congrArg Host.Outcome.next (State.trailingEdge_backward blocked h),
      fun blocked forward h => congrArg Host.Outcome.next ?none,
      fun before b after blocked forward queue here newest => congrArg Host.Outcome.next ?newest⟩⟩
  case opened =>
    obtain ⟨clear, forward, timely⟩ := opens
    have late := timely.imp_left (fun h => Bool.eq_false_iff.mpr (fun early => h ((Line.early_iff _).mp early)))
    have edge := State.leadingEdge_room clear forward late room
    have line := (congrArg State.line edge).trans (State.evaluateHold_line _)
    have charges := (congrArg State.charges edge).trans (State.evaluateHold_charges _).1
    have labels := (State.takeRef_line s.line.infeed s).2
    refine ⟨s.leadingEdge, rfl, (congrArg Line.eyeBlocked line :), (congrArg Line.queue line :).trans ?_,
      (congrArg Line.nextSerial line :), (congrArg Line.lastLeading line :), (congrArg Line.lastOpened line :),
      (congrArg Line.counters line :), charges, (congrArg Line.holdAsserted line :).trans ?_,
      State.evaluateHold_eq_of_line edge rfl rfl⟩
    · exact congrArg (· ++ [_]) (List.map_congr_left (fun b _ => if_congr (and_congr_left' (Line.early_iff _)) rfl rfl))
    · unfold State.nextHold
      rw [labels]
      simp [Line.opened, Line.flaggedEdge, Line.flagged]
  case lost =>
    obtain ⟨clear, forward, timely⟩ := opens
    have late := timely.imp_left (fun h => Bool.eq_false_iff.mpr (fun early => h ((Line.early_iff _).mp early)))
    have edge := State.leadingEdge_full clear forward late full
    have line : s.leadingEdge.line = { s.line.flaggedEdge.lostOne with lostNotice := true } := congrArg State.line edge
    refine ⟨s.leadingEdge, rfl, (congrArg Line.eyeBlocked line :), (congrArg Line.queue line :).trans ?_,
      (congrArg Line.nextSerial line :), (congrArg Line.lastLeading line :), (congrArg Line.lastOpened line :),
      (congrArg Line.counters line :), (congrArg Line.lostNotice line :), (congrArg State.charges edge).trans ?_, ?_⟩
    · exact List.map_congr_left (fun b _ => if_congr (and_congr_left' (Line.early_iff _)) rfl rfl)
    · dsimp only
      split
      · rfl
      · exact State.raise_charges _ _
    · rw [line]
      exact edge
  case none =>
    rw [State.trailingEdge_forward blocked forward, Line.takeTrailing_none (l := { s.line with eyeBlocked := false }) h]
  case newest =>
    rw [State.trailingEdge_forward blocked forward, Line.takeTrailing_newest (l := { s.line with eyeBlocked := false }) queue here newest]

end Sys2Proof.Machine
end

section
/-! PROOFS. What the finishing side leaves of the line tracker (chapters 8 and 9): the labels, the packs and the records work beside
the tracking queue. -/

namespace Sys2Proof.Machine

/-- The line without its line-hold and lost-notice flag. -/
def Line.track (l : Line) : Line := { l with holdAsserted := false, lostNotice := false }

/-- The line apart from its line-hold, as the work beside it leaves it. -/
def State.track (s : State) : Line := s.line.track

theorem State.raise_track (n : Notice) (s : State) : (s.raise n).track = s.track := by
  unfold State.track
  rw [State.raise_line]

theorem State.evaluateHold_track (s : State) : s.evaluateHold.track = s.track := by
  unfold State.track
  rw [State.evaluateHold_line]
  rfl

theorem State.startHead_track (s : State) : s.startHead.track = s.track := by
  unfold State.startHead
  split
  · rfl
  · split
    · exact congrArg Line.track (State.produceRows_line _)
    · rfl

theorem State.handOff_track (p : Pack) (bin : Fin 16) (r : CloseReason) (s : State) : (s.handOff p bin r).track = s.track := by
  unfold State.handOff
  split
  · dsimp only
    split
    · rw [State.startHead_track, State.evaluateHold_track]
      rfl
    · rw [State.evaluateHold_track]
      rfl
  · rfl

theorem State.makeLot_track (p : Pack) (s : State) : (s.makeLot p).track = s.track := by
  unfold State.makeLot
  split <;> rfl

theorem State.raiseLotLost_track (p : Pack) (c : Option Nat) (s : State) : (s.raiseLotLost p c).track = s.track := by
  unfold State.raiseLotLost
  split
  · exact State.raise_track _ s
  · rfl

theorem State.raiseNoLabel_track (p : Pack) (bin : Fin 16) (o : LabelOutcome) (s : State) :
    (s.raiseNoLabel p bin o).track = s.track := by
  unfold State.raiseNoLabel
  split
  · exact State.raise_track _ s
  · rfl

theorem State.modCharge_line (n : Nat) (f : Charge → Charge) (s : State) : (s.modCharge n f).line = s.line :=
  (State.modCharge_sides n f s).1

/-- A release touches the records and the reuse order only. -/
theorem State.releaseRef_rest (c : Option Nat) (s : State) : (s.releaseRef c).line = s.line
    ∧ (s.releaseRef c).labels = s.labels ∧ (s.releaseRef c).lots = s.lots ∧ (s.releaseRef c).bins = s.bins
    ∧ (s.releaseRef c).packLog = s.packLog ∧ (s.releaseRef c).nextPack = s.nextPack := by
  unfold State.releaseRef
  split
  · exact ⟨rfl, rfl, rfl, rfl, rfl, rfl⟩
  · split
    · exact ⟨rfl, rfl, rfl, rfl, rfl, rfl⟩
    · dsimp only
      split <;> exact ⟨rfl, rfl, rfl, rfl, rfl, rfl⟩

theorem State.releaseRef_foldl_rest (l : List (Option Nat)) (s : State) :
    (l.foldl (fun t c => t.releaseRef c) s).line = s.line ∧ (l.foldl (fun t c => t.releaseRef c) s).labels = s.labels
    ∧ (l.foldl (fun t c => t.releaseRef c) s).lots = s.lots ∧ (l.foldl (fun t c => t.releaseRef c) s).bins = s.bins
    ∧ (l.foldl (fun t c => t.releaseRef c) s).packLog = s.packLog
    ∧ (l.foldl (fun t c => t.releaseRef c) s).nextPack = s.nextPack := by
  induction l generalizing s with
  | nil => exact ⟨rfl, rfl, rfl, rfl, rfl, rfl⟩
  | cons c l ih =>
      obtain ⟨line, labels, lots, bins, log, next⟩ := s.releaseRef_rest c
      obtain ⟨line', labels', lots', bins', log', next'⟩ := ih (s.releaseRef c)
      exact ⟨line'.trans line, labels'.trans labels, lots'.trans lots, bins'.trans bins, log'.trans log, next'.trans next⟩

theorem State.releaseRefs_track (l : List (Option Nat)) (s : State) : (s.releaseRefs l).track = s.track :=
  congrArg Line.track (State.releaseRef_foldl_rest _ s).1

theorem State.closePack_track (bin : Fin 16) (p : Pack) (r : CloseReason) (s : State) :
    (s.closePack bin p r).track = s.track := by
  unfold State.closePack
  change (State.releaseRefs p.charges _).track = _
  rw [State.releaseRefs_track, State.raiseLotLost_track, State.raiseNoLabel_track, State.raise_track]
  exact (State.makeLot_track p _).trans (State.handOff_track p bin r s)

theorem State.joined_track (bin : Fin 16) (b : Board) (charges : List (Option Nat)) (q : Pack) (s : State) :
    (s.joined bin b charges q).track = s.track := by
  unfold State.joined
  split
  · rfl
  · exact congrArg Line.track (State.takeRef_line b.charge s).1

theorem State.addBoard_track (bin : Fin 16) (b : Board) (p : Pack) (s : State) : (s.addBoard bin b p).track = s.track := by
  rw [State.addBoard_eq]
  split
  · rw [State.closePack_track, State.joined_track]
  · exact State.joined_track ..

theorem State.openWith_track (bin : Fin 16) (b : Board) (s : State) : (s.openWith bin b).track = s.track := by
  unfold State.openWith
  split
  · rfl
  · exact State.addBoard_track bin b _ _

theorem State.placeBoard_track (bin : Fin 16) (b : Board) (s : State) : (s.placeBoard bin b).track = s.track := by
  unfold State.placeBoard
  split
  · exact State.openWith_track bin b s
  · split
    · rw [State.openWith_track, State.closePack_track]
    · exact State.addBoard_track bin b _ s

theorem State.countInCharge_line (b : Board) (s : State) : (s.countInCharge b).line = s.line := by
  unfold State.countInCharge
  split
  · exact State.modCharge_line _ _ s
  · rfl

/-! ### The marks (R150, R151) -/

theorem foldl_or_bit {w : Nat} (l : List (BitVec w)) (m : BitVec w) (j : Nat) :
    (l.foldl (· ||| ·) m).getLsbD j = true ↔ m.getLsbD j = true ∨ ∃ x ∈ l, x.getLsbD j = true := by
  induction l generalizing m with
  | nil => simp
  | cons x l ih =>
      rw [List.foldl_cons, ih, BitVec.getLsbD_or, Bool.or_eq_true, or_assoc]
      simp

theorem zero_bit (w j : Nat) : (0 : BitVec w).getLsbD j = false := by simp

theorem Line.boardMarks_bit (l : Line) (b : Board) (j : Nat) : (l.boardMarks b).getLsbD j = true ↔
    ∃ x, b.pattern = some x ∧ x.mask.getLsbD j = true
      ∧ (l.settings.markDistance : Int) + x.first ≤ (l.position - b.leading).toInt
      ∧ (l.position - b.leading).toInt < (l.settings.markDistance : Int) + x.last := by
  unfold Line.boardMarks
  cases b.pattern with
  | none => simp
  | some x =>
      have inside : l.inWindow b x = true ↔ (l.settings.markDistance : Int) + x.first ≤ (l.position - b.leading).toInt
          ∧ (l.position - b.leading).toInt < (l.settings.markDistance : Int) + x.last := by
        simp [Line.inWindow, Line.travel, signedDistance]
      simp only [Option.some.injEq, exists_eq_left', ← inside]
      by_cases h : l.inWindow b x = true <;> simp [h]

theorem Line.evaluateMarks_bit (l : Line) (j : Nat) : l.evaluateMarks.marks.getLsbD j = true ↔
    ∃ b ∈ l.queue, ∃ x, b.pattern = some x ∧ x.mask.getLsbD j = true
      ∧ (l.settings.markDistance : Int) + x.first ≤ (l.position - b.leading).toInt
      ∧ (l.position - b.leading).toInt < (l.settings.markDistance : Int) + x.last := by
  change ((l.queue.map l.boardMarks).foldl (· ||| ·) 0).getLsbD j = true ↔ _
  rw [foldl_or_bit]
  simp only [zero_bit, Bool.false_eq_true, false_or, List.mem_map, exists_exists_and_eq_and, Line.boardMarks_bit]

/-! ### A departure (R152, R153) -/

theorem Board.settleAtDeparture_eq (b : Board) : b.settleAtDeparture =
    if b.state = .inView then { b with cls := some .noRead, long := true }
    else if b.state = .awaitRead then { b with cls := some .noRead } else b := by
  unfold Board.settleAtDeparture
  cases h : b.state <;> simp

theorem Board.settleAtDeparture_keeps (b : Board) : b.settleAtDeparture.charge = b.charge ∧ b.settleAtDeparture.mc = b.mc := by
  unfold Board.settleAtDeparture
  split <;> exact ⟨rfl, rfl⟩

theorem BoardState.unread_iff (x : BoardState) : x.unread = true ↔ x = .inView ∨ x = .awaitRead := by cases x <;> decide

theorem Line.passUnread_eq (b : Board) (l : Line) : l.passUnread b = { l with
    expected := if b.state = .inView ∨ b.state = .awaitRead then l.expected.map (fun e => e + 1) else l.expected } := by
  unfold Line.passUnread
  by_cases h : b.state = .inView ∨ b.state = .awaitRead
  · rw [if_pos ((BoardState.unread_iff _).mpr h), if_pos h]
  · rw [if_neg (mt (BoardState.unread_iff _).mp h), if_neg h]

/-- The part with a departing board passed and counted. -/
def State.departing (b : Board) (s : State) : State :=
  ({ s with line := { s.line with
    expected := if b.state = .inView ∨ b.state = .awaitRead then s.line.expected.map (fun e => e + 1) else s.line.expected }
    } : State).countInCharge b.settleAtDeparture

theorem State.departing_line (b : Board) (s : State) : (s.departing b).line = { s.line with
    expected := if b.state = .inView ∨ b.state = .awaitRead then s.line.expected.map (fun e => e + 1) else s.line.expected } :=
  State.countInCharge_line _ _

/-- The part with a departing board placed in its bin. -/
def State.placing (b : Board) (s : State) : State :=
  (s.departing b).placeBoard ((s.departing b).chooseBin b.settleAtDeparture) b.settleAtDeparture

theorem State.depart_eq {s : State} {b : Board} {rest : List Board} (h : s.line.queue = b :: rest) : s.depart =
    ({ (s.placing b).releaseRef b.charge with line := (s.placing b).line.dropHead } : State).evaluateHold := by
  have passed : s.modLine (Line.passUnread b) = { s with line := { s.line with
      expected := if b.state = .inView ∨ b.state = .awaitRead then s.line.expected.map (fun e => e + 1)
        else s.line.expected } } := by
    unfold State.modLine
    rw [Line.passUnread_eq]
  unfold State.depart
  rw [h]
  dsimp only
  rw [passed, b.settleAtDeparture_keeps.1]
  exact congrArg State.evaluateHold (State.releaseRef_withLine b.charge (s.placing b) (s.placing b).line.dropHead)

/-- The tracking queue without its head, the marks re-evaluated. -/
def Line.departed (b : Board) (l : Line) : Line :=
  ({ l with
    expected := if b.state = .inView ∨ b.state = .awaitRead then l.expected.map (fun e => e + 1) else l.expected
    } : Line).dropHead

theorem State.depart_track {s : State} {b : Board} {rest : List Board} (h : s.line.queue = b :: rest) :
    s.depart.track = (s.line.departed b).track := by
  have placed : (s.placing b).line.track = (s.departing b).line.track := State.placeBoard_track _ _ _
  rw [State.depart_eq h, State.evaluateHold_track]
  change (s.placing b).line.track.dropHead.track = _
  rw [placed, State.departing_line]
  rfl

end Sys2Proof.Machine
end

section
/-! PROOFS. Departures, the line-hold and the encoder's counts (chapter 8). -/

namespace Sys2Proof.Machine

/-! ### What a departure leaves (R134, R151 to R153) -/

theorem Line.eq_of_track {l m : Line} (h : l.track = m.track) : l = { m with holdAsserted := l.holdAsserted, lostNotice := l.lostNotice } := by
  have same : ({ l.track with holdAsserted := l.holdAsserted, lostNotice := l.lostNotice } : Line)
      = { m.track with holdAsserted := l.holdAsserted, lostNotice := l.lostNotice } := by rw [h]
  exact same

theorem State.depart_line {s : State} {b : Board} {rest : List Board} (h : s.line.queue = b :: rest) :
    s.depart.line = { s.line.departed b with
      holdAsserted := s.depart.line.holdAsserted, lostNotice := s.depart.line.lostNotice } :=
  Line.eq_of_track (State.depart_track h)

theorem State.departing_charge {s : State} {b : Board} {n : Nat} {c : Charge} (named : b.charge = some n)
    (live : s.charge? n = some c) : (s.departing b).charge? n =
      some { c with stats := c.stats.take (b.settleAtDeparture.cls.getD .noRead) b.mc } := by
  have keeps : Charge.KeepsLedger (fun c => { c with stats := c.stats.take b.settleAtDeparture.settled b.settleAtDeparture.mc }) :=
    fun _ => ⟨rfl, rfl, rfl, rfl, rfl, id, id⟩
  unfold State.departing State.countInCharge
  rw [b.settleAtDeparture_keeps.1, named]
  dsimp only
  rw [State.modCharge_charge? keeps]
  refine (congrArg (Option.map _) live).trans ?_
  rw [← b.settleAtDeparture_keeps.2]
  rfl

theorem State.departing_charges {s : State} {b : Board} (h : b.charge = none) : (s.departing b).charges = s.charges := by
  unfold State.departing State.countInCharge
  rw [b.settleAtDeparture_keeps.1, h]

theorem State.depart_sides {s : State} {b : Board} {rest : List Board} (h : s.line.queue = b :: rest) :
    s.depart.bins = (s.placing b).bins ∧ s.depart.packLog = (s.placing b).packLog ∧ s.depart.lots = (s.placing b).lots
    ∧ s.depart.labels.queue = (s.placing b).labels.queue
    ∧ s.depart.charges = ((s.placing b).releaseRef b.charge).charges
    ∧ s.depart.reuse = ((s.placing b).releaseRef b.charge).reuse := by
  obtain ⟨-, labels, lots, bins, log, -⟩ := (s.placing b).releaseRef_rest b.charge
  rw [State.depart_eq h]
  obtain ⟨charges, reuse, lots', bins', log'⟩ := State.evaluateHold_charges
    { (s.placing b).releaseRef b.charge with line := (s.placing b).line.dropHead }
  refine ⟨bins'.trans bins, log'.trans log, lots'.trans lots, (State.evaluateHold_labels _).trans ?_, charges, reuse⟩
  exact congrArg LabelUnit.queue labels

theorem State.placing_queue {s : State} {b : Board} {rest : List Board} (h : s.line.queue = b :: rest) :
    (s.placing b).line.dropHead.queue = rest := by
  have placed : (s.placing b).line.track = (s.departing b).line.track := State.placeBoard_track _ _ _
  have queue : (s.placing b).line.queue = (s.departing b).line.queue := (congrArg Line.queue placed :)
  have tail : (s.departing b).line.queue = b :: rest := (congrArg Line.queue (State.departing_line b s) :).trans h
  change (s.placing b).line.queue.tail = rest
  rw [queue, tail, List.tail_cons]

theorem State.depart_hold {s : State} {b : Board} {rest : List Board} (h : s.line.queue = b :: rest) :
    s.depart.line.holdAsserted =
      holdNext (s.placing b).line.holdAsserted rest.length (s.placing b).labels.queue.length := by
  obtain ⟨-, labels, -⟩ := (s.placing b).releaseRef_rest b.charge
  rw [State.depart_eq h, State.evaluateHold_asserted]
  dsimp only
  rw [State.placing_queue h, labels]
  rfl

theorem PlanerStats.take_counts (x : PlanerStats) (cls : MoistureClass) (mc : Option Nat) :
    (x.take cls mc).boards = bump16 x.boards
    ∧ (x.take cls mc).target = (if cls = .target then bump16 x.target else x.target)
    ∧ (x.take cls mc).noRead = (if cls = .noRead then bump16 x.noRead else x.noRead)
    ∧ (x.take cls mc).overdry = (if cls = .overdry then bump16 x.overdry else x.overdry)
    ∧ (x.take cls mc).wet = (if cls = .wet then bump16 x.wet else x.wet)
    ∧ (x.take cls mc).redry = (if cls = .redry then bump16 x.redry else x.redry)
    ∧ (mc = none → (x.take cls mc).mcSum = x.mcSum ∧ (x.take cls mc).reads = x.reads)
    ∧ (∀ m, mc = some m → (x.take cls mc).mcSum = min 4294967295 (x.mcSum + m) ∧ (x.take cls mc).reads = bump16 x.reads) := by
  cases mc with
  | none => cases cls <;> exact ⟨rfl, rfl, rfl, rfl, rfl, rfl, fun _ => ⟨rfl, rfl⟩, nofun⟩
  | some m => cases cls <;> exact ⟨rfl, rfl, rfl, rfl, rfl, rfl, nofun, fun _ h => Option.some.inj h ▸ ⟨rfl, rfl⟩⟩

/-! ### The points that a count's boards reach (R150, R152) -/

theorem Board.patternIndex_eq (b : Board) : b.patternIndex = if b.cls = some .noRead then 0 else if b.cls = some .overdry then 1
    else if b.cls = some .target then 2 else if b.cls = some .wet then 3 else if b.cls = some .redry then 4 else 5 := by
  unfold Board.patternIndex
  rcases b.cls with _ | c
  · rfl
  · cases c <;> rfl

/-- The pattern that a class is marked with. -/
def Line.patternOf (l : Line) (i : Fin 6) : FixedPattern := ⟨i.val, l.patterns[i].mask, l.patterns[i].first, l.patterns[i].last⟩

theorem Line.reach_eq (l : Line) (b : Board) : l.noteStacker (l.fixIfReached b) = { b with
    pattern := if b.pattern = none ∧ (l.settings.markDistance : Int) ≤ (l.position - b.leading).toInt
      then some (l.patternOf b.patternIndex) else b.pattern
    reachedStacker := b.reachedStacker || decide ((l.settings.stackerDistance : Int) ≤ (l.position - b.leading).toInt) } := by
  have reached : (b.pattern.isNone && decide ((l.settings.markDistance : Int) ≤ l.travel b)) = true
      ↔ b.pattern = none ∧ (l.settings.markDistance : Int) ≤ (l.position - b.leading).toInt := by
    rw [Bool.and_eq_true, Option.isNone_iff_eq_none, decide_eq_true_iff]
    rfl
  unfold Line.fixIfReached
  by_cases h : b.pattern = none ∧ (l.settings.markDistance : Int) ≤ (l.position - b.leading).toInt
  · rw [if_pos (reached.mpr h), if_pos h]
    rfl
  · rw [if_neg (mt reached.mp h), if_neg h]
    rfl

/-- The line after a count, before any departure. -/
def Line.counted (x y : Bool) (d : Direction) (l : Line) : Line :=
  ({ l with encA := x, encB := y, position := d.move l.position, direction := d } : Line).reachPoints

theorem State.encoderChange_counts {s : State} {x y : Bool} {d : Direction}
    (h : countDirection s.line.encA s.line.encB x y = some d) :
    s.encoderChange x y = ({ s with line := s.line.counted x y d } : State).departures := by
  unfold State.encoderChange
  rw [h]
  rfl

theorem State.encoderChange_still {s : State} {x y : Bool} (h : countDirection s.line.encA s.line.encB x y = none) :
    s.encoderChange x y = { s with line := { s.line with encA := x, encB := y } } := by
  unfold State.encoderChange
  rw [h]
  rfl

theorem Line.headReached_nil {l : Line} (h : l.queue = []) : l.headReached = false := by
  unfold Line.headReached
  rw [h]

theorem Line.headReached_cons {l : Line} {b : Board} {rest : List Board} (h : l.queue = b :: rest) :
    l.headReached = b.reachedStacker := by
  unfold Line.headReached
  rw [h]

/-- Boards depart from the head while the head has reached its stacker point. -/
theorem departuresFuel_eq (n : Nat) (s : State) (h : s.line.queue.length ≤ n) :
    departuresFuel n s = State.depart^[(s.line.queue.takeWhile Board.reachedStacker).length] s := by
  induction n generalizing s with
  | zero =>
      rw [List.length_eq_zero_iff.mp (Nat.le_zero.mp h)]
      rfl
  | succ n ih =>
      unfold departuresFuel
      cases queue : s.line.queue with
      | nil => exact if_neg (by rw [Line.headReached_nil queue]; nofun)
      | cons b rest =>
          cases reached : b.reachedStacker with
          | false =>
              rw [List.takeWhile_cons_of_neg (by rw [reached]; nofun)]
              exact if_neg (by rw [Line.headReached_cons queue, reached]; nofun)
          | true =>
              have left : s.depart.line.queue = rest := by
                rw [State.depart_line queue]
                exact congrArg List.tail queue
              have short : s.depart.line.queue.length ≤ n := by
                rw [queue] at h
                rw [left]
                exact Nat.le_of_succ_le_succ h
              rw [List.takeWhile_cons_of_pos reached, List.length_cons, Function.iterate_succ_apply, ← left, ← ih _ short]
              exact if_pos ((Line.headReached_cons queue).trans reached)

theorem State.departures_eq (s : State) :
    s.departures = State.depart^[(s.line.queue.takeWhile Board.reachedStacker).length] s := departuresFuel_eq _ s le_rfl

/-- What no departure changes of the line. -/
theorem State.depart_keeps (s : State) : s.depart.line.position = s.line.position ∧ s.depart.line.direction = s.line.direction
    ∧ s.depart.line.encA = s.line.encA ∧ s.depart.line.encB = s.line.encB ∧ s.depart.line.settings = s.line.settings := by
  cases queue : s.line.queue with
  | nil =>
      have stays : s.depart = s := by
        unfold State.depart
        rw [queue]
      rw [stays]
      exact ⟨rfl, rfl, rfl, rfl, rfl⟩
  | cons b rest =>
      rw [State.depart_line queue]
      exact ⟨rfl, rfl, rfl, rfl, rfl⟩

theorem State.departs_keep (n : Nat) (s : State) : (State.depart^[n] s).line.position = s.line.position
    ∧ (State.depart^[n] s).line.direction = s.line.direction ∧ (State.depart^[n] s).line.encA = s.line.encA
    ∧ (State.depart^[n] s).line.encB = s.line.encB ∧ (State.depart^[n] s).line.settings = s.line.settings := by
  induction n generalizing s with
  | zero => exact ⟨rfl, rfl, rfl, rfl, rfl⟩
  | succ n ih =>
      obtain ⟨position, direction, a, b, settings⟩ := s.depart_keeps
      obtain ⟨position', direction', a', b', settings'⟩ := ih s.depart
      rw [Function.iterate_succ_apply]
      exact ⟨position'.trans position, direction'.trans direction, a'.trans a, b'.trans b, settings'.trans settings⟩

/-- A count moves the line. -/
theorem State.encoderChange_moves {s : State} {x y : Bool} {d : Direction}
    (h : countDirection s.line.encA s.line.encB x y = some d) :
    (s.encoderChange x y).line.position = d.move s.line.position ∧ (s.encoderChange x y).line.direction = d
    ∧ (s.encoderChange x y).line.encA = x ∧ (s.encoderChange x y).line.encB = y
    ∧ (s.encoderChange x y).line.settings = s.line.settings := by
  rw [State.encoderChange_counts h, State.departures_eq]
  exact State.departs_keep _ _

end Sys2Proof.Machine
end

section
/-! PROOFS. The statements on the encoder and on departures (chapter 8). -/

namespace Sys2Proof.Machine

theorem quadrature_eq (x y : Bool) :
    quadrature x y = if x = true then (if y = true then 2 else 1) else (if y = true then 3 else 0) := by
  cases x <;> cases y <;> rfl

theorem countDirection_turn {a b x y : Bool} {n : Nat} (h : (quadrature x y + 4 - quadrature a b) % 4 = n) :
    (n = 0 ∨ n = 2 → countDirection a b x y = none) ∧ (n = 1 → countDirection a b x y = some .forward)
    ∧ (n = 3 → countDirection a b x y = some .backward) := by
  unfold countDirection
  rw [h]
  refine ⟨?_, ?_, ?_⟩
  · rintro (rfl | rfl) <;> rfl
  · rintro rfl
    rfl
  · rintro rfl
    rfl

/-- The boards of a line that a count in direction `d` reaches. -/
def Line.reached (d : Direction) (l : Line) (b : Board) : Board := { b with
  pattern := if b.pattern = none ∧ (l.settings.markDistance : Int) ≤ (d.move l.position - b.leading).toInt
    then some (l.patternOf b.patternIndex) else b.pattern
  reachedStacker := b.reachedStacker || decide ((l.settings.stackerDistance : Int) ≤ (d.move l.position - b.leading).toInt) }

theorem Line.counted_queue (x y : Bool) (d : Direction) (l : Line) : (l.counted x y d).queue = l.queue.map (l.reached d) :=
  List.map_congr_left (fun b _ => Line.reach_eq { l with encA := x, encB := y, position := d.move l.position, direction := d } b)

theorem Line.counted_eq (x y : Bool) (d : Direction) (l : Line) : l.counted x y d = { l with
    encA := x, encB := y, position := d.move l.position, direction := d, queue := l.queue.map (l.reached d)
    marks := (l.counted x y d).marks } := by
  rw [← Line.counted_queue x y]
  rfl

theorem Line.counted_marks (x y : Bool) (d : Direction) (l : Line) (j : Nat) : (l.counted x y d).marks.getLsbD j = true ↔
    ∃ b ∈ (l.counted x y d).queue, ∃ z, b.pattern = some z ∧ z.mask.getLsbD j = true
      ∧ (l.settings.markDistance : Int) + z.first ≤ (d.move l.position - b.leading).toInt
      ∧ (d.move l.position - b.leading).toInt < (l.settings.markDistance : Int) + z.last :=
  Line.evaluateMarks_bit _ j

theorem Line.departed_marks (b : Board) (l : Line) (j : Nat) : (l.departed b).marks.getLsbD j = true ↔
    ∃ x ∈ l.queue.tail, ∃ y, x.pattern = some y ∧ y.mask.getLsbD j = true
      ∧ (l.settings.markDistance : Int) + y.first ≤ (l.position - x.leading).toInt
      ∧ (l.position - x.leading).toInt < (l.settings.markDistance : Int) + y.last :=
  Line.evaluateMarks_bit _ j

/-- Where the head has not reached its stacker point, a count moves no board off the chain. -/
theorem State.encoderChange_stays {s : State} {x y : Bool} {d : Direction}
    (h : countDirection s.line.encA s.line.encB x y = some d)
    (head : ∀ b rest, s.line.queue = b :: rest → b.reachedStacker = false
      ∧ (d.move s.line.position - b.leading).toInt < s.line.settings.stackerDistance) :
    s.encoderChange x y = { s with line := s.line.counted x y d } := by
  have none : ((s.line.counted x y d).queue.takeWhile Board.reachedStacker).length = 0 := by
    rw [Line.counted_queue]
    cases queue : s.line.queue with
    | nil => rfl
    | cons b rest =>
        obtain ⟨fresh, near⟩ := head b rest queue
        have before : (s.line.reached d b).reachedStacker = false := by
          simp only [Line.reached, fresh, Bool.false_or, decide_eq_false_iff_not]
          omega
        rw [List.map_cons, List.takeWhile_cons_of_neg (by rw [before]; nofun)]
        rfl
  rw [State.encoderChange_counts h, State.departures_eq]
  exact congrArg (fun n => State.depart^[n] ({ s with line := s.line.counted x y d } : State)) none

/-- Settles O42: a count by its turn of the inputs, the boards by the points that their travel reaches. -/
theorem encoderCountsMoveTheBoards : Obligations.EncoderCountsMoveTheBoards := by
  unfold Obligations.EncoderCountsMoveTheBoards
  refine ⟨fun s x y => ?moves, fun s x y d counts => ?boards⟩
  case moves =>
    dsimp only
    simp only [← quadrature_eq]
    obtain ⟨still, forward, backward⟩ := countDirection_turn (a := s.line.encA) (b := s.line.encB) (x := x) (y := y) rfl
    refine ⟨fun h => congrArg Host.Outcome.next (State.encoderChange_still (still h)), fun h => ?_, fun h => ?_⟩
    · exact ⟨_, rfl, State.encoderChange_moves (forward h)⟩
    · exact ⟨_, rfl, State.encoderChange_moves (backward h)⟩
  case boards =>
    intro l position travel index head
    have moved := State.encoderChange_stays counts head
    refine ⟨_, congrArg Host.Outcome.next moved, ?_, fun i b hb => ⟨l.reached d b, ?_, rfl, rfl, rfl, rfl, rfl, fun fixed => ?_,
      fun free before => ?_, fun free past => ?_⟩, fun j => Line.counted_marks x y d l j.val⟩
    · rw [Line.counted_queue, List.length_map]
    · rw [Line.counted_queue, List.getElem?_map, hb]
      rfl
    · exact if_neg (fun both => fixed both.1)
    · exact (if_neg (fun both => absurd before (not_lt.mpr both.2))).trans free
    · refine (if_pos ⟨free, past⟩).trans ?_
      rw [Board.patternIndex_eq]
      rfl

/-- Settles O45: the departure by its placing and its line, the line-hold by its next value, a count by the boards that go. -/
theorem departuresAndTheLineHold : Obligations.DeparturesAndTheLineHold := by
  unfold Obligations.DeparturesAndTheLineHold
  refine ⟨fun s b rest queue => ?departs, fun s => ⟨State.evaluateHold_same, State.evaluateHold_turns⟩,
    fun s x y d counts => ⟨(s.line.counted x y d).marks, ?counts⟩⟩
  case departs =>
    have line := State.depart_line queue
    obtain ⟨bins, log, lots, labels, charges, reuse⟩ := State.depart_sides queue
    have hold := State.depart_hold queue
    dsimp only
    simp only [← Board.settleAtDeparture_eq]
    refine ⟨?_, ?_, fun unread => ?_, fun read => ?_, ?_, ?_, ?_, fun n c named live => State.departing_charge named live,
      State.departing_charges, fun bin chosen => ?_, fun j => ?_, PlanerStats.take_counts⟩
    · rw [line]
      exact congrArg List.tail queue
    · rw [line]
      rfl
    · rw [line]
      exact if_pos unread
    · rw [line]
      exact if_neg read
    · rw [line]
      rfl
    · rw [line]
      rfl
    · rw [line]
      rfl
    · subst chosen
      exact ⟨bins, log, lots, labels, charges, reuse, hold, State.evaluateHold_eq_of_line (State.depart_eq queue) rfl rfl⟩
    · rw [line]
      have bits := Line.departed_marks b s.line j.val
      rw [queue] at bits
      exact bits
  case counts =>
    have counted := (State.encoderChange_counts counts).trans (State.departures_eq _)
    rw [Line.counted_eq x y d] at counted
    dsimp only
    simp only [← Board.patternIndex_eq]
    exact congrArg Host.Outcome.next counted

end Sys2Proof.Machine
end

section
/-! PROOFS. References given back (chapter 7): what any number of releases, in any order, make of the charge records (R127, R131). -/

namespace Sys2Proof.Machine

/-- A record closes once `g` of its references are given back. -/
def Charge.ClosesAt (g : Nat) (c : Charge) : Prop := c.state = .planed ∧ 1 ≤ c.refs ∧ c.refs ≤ g

/-- A PLANED record whose count has come to 0. -/
def Charge.closedAt (stamp : Stamp) (c : Charge) : Charge :=
  { c with refs := 0, state := .closed, closedStamp := some stamp }

/-- From `s` to `t` the references `g` have been given back, by charge number. -/
structure State.Releases (g : Nat → Nat) (s t : State) : Prop where
  open_ : ∀ n i, s.findLive n = some i → ¬ s.charges[i].ClosesAt (g n) →
    t.charges[i] = { s.charges[i] with refs := s.charges[i].refs - g n } ∧ t.findLive n = some i
  closes : ∀ n i, s.findLive n = some i → s.charges[i].ClosesAt (g n) →
    t.charges[i] = s.charges[i].closedAt s.stamp ∧ i ∈ t.reuse
  closed : ∀ i : Fin 48, s.charges[i].state = .closed → t.charges[i] = s.charges[i]
  reuse : ∃ joined, t.reuse = s.reuse ++ joined
  stamp : t.stamp = s.stamp

/-- The number of a record is found by whether each record holds it. -/
theorem State.findLive_congr {s t : State} {n : Nat} (h : ∀ j : Fin 48, (t.charges[j].number = n ∧ t.charges[j].state ≠ .closed)
    ↔ (s.charges[j].number = n ∧ s.charges[j].state ≠ .closed)) : t.findLive n = s.findLive n := by
  have same : t.charges.toList.findIdx? (fun c => c.number == n && c.state != .closed)
      = s.charges.toList.findIdx? (fun c => c.number == n && c.state != .closed) := by
    have by_map (l : List Charge) : l.findIdx? (fun c => c.number == n && c.state != .closed)
        = (l.map (fun c => c.number == n && c.state != .closed)).findIdx? id := by
      rw [List.findIdx?_map]
      rfl
    rw [by_map, by_map]
    congr 1
    refine List.ext_getElem (by simp) (fun i hi _ => ?_)
    have here := h ⟨i, by simpa using hi⟩
    rw [Bool.eq_iff_iff]
    simpa using here
  unfold State.findLive
  rw [same]

namespace State.Releases

theorem of_same {s t : State} (charges : t.charges = s.charges) (reuse : t.reuse = s.reuse) (stamp : t.stamp = s.stamp) :
    State.Releases (fun _ => 0) s t where
  open_ n i found _ := by
    rw [charges]
    refine ⟨rfl, ?_⟩
    unfold State.findLive at found ⊢
    rwa [charges]
  closes n i _ h := absurd h.2.2 (by have := h.2.1; omega)
  closed i _ := by rw [charges]
  reuse := ⟨[], by rw [reuse, List.append_nil]⟩
  stamp := stamp

/-- References given back one lot after the other are given back together. -/
theorem trans {g h : Nat → Nat} {s t u : State} (first : State.Releases g s t) (next : State.Releases h t u) :
    State.Releases (fun n => g n + h n) s u where
  open_ n i found stays := by
    have before : ¬ s.charges[i].ClosesAt (g n) := fun ⟨planed, held, most⟩ =>
      stays ⟨planed, held, most.trans (Nat.le_add_right ..)⟩
    obtain ⟨entry, live⟩ := first.open_ n i found before
    have after : ¬ t.charges[i].ClosesAt (h n) := by
      rw [entry]
      rintro ⟨planed, held, most⟩
      dsimp only at planed held most
      exact stays ⟨planed, by omega, by omega⟩
    obtain ⟨entry', live'⟩ := next.open_ n i live after
    rw [entry', entry]
    refine ⟨?_, live'⟩
    dsimp only
    rw [Nat.sub_sub]
  closes n i found closes := by
    by_cases before : s.charges[i].ClosesAt (g n)
    · obtain ⟨entry, joined⟩ := first.closes n i found before
      obtain ⟨more, reuse⟩ := next.reuse
      refine ⟨(next.closed i (by rw [entry]; rfl)).trans entry, ?_⟩
      rw [reuse]
      exact List.mem_append_left _ joined
    · obtain ⟨entry, live⟩ := first.open_ n i found before
      obtain ⟨planed, held, most⟩ := closes
      have after : t.charges[i].ClosesAt (h n) := by
        rw [entry]
        refine ⟨planed, ?_, ?_⟩ <;> dsimp only
        · exact Nat.pos_of_ne_zero (fun zero => before ⟨planed, held, by omega⟩)
        · omega
      obtain ⟨entry', joined⟩ := next.closes n i live after
      refine ⟨?_, joined⟩
      rw [entry', entry, first.stamp]
      rfl
  closed i h := by
    have kept := first.closed i h
    rw [next.closed i (by rw [kept]; exact h), kept]
  reuse := by
    obtain ⟨a, ha⟩ := first.reuse
    obtain ⟨b, hb⟩ := next.reuse
    exact ⟨a ++ b, by rw [hb, ha, List.append_assoc]⟩
  stamp := next.stamp.trans first.stamp

theorem congr {g h : Nat → Nat} {s t : State} (r : State.Releases g s t) (same : ∀ n, g n = h n) : State.Releases h s t :=
  funext same ▸ r

end State.Releases

/-! ### One reference -/

theorem State.setCharge_findLive_other {s : State} {m n : Nat} (ne : m ≠ n) {i : Fin 48} {c : Charge}
    (was : s.charges[i].number = m) (number : c.number = m) : (s.setCharge i c).findLive n = s.findLive n := by
  refine State.findLive_congr (fun j => ?_)
  rw [State.setCharge_entry]
  split
  · next same =>
      subst same
      exact ⟨fun h => absurd (number.symm.trans h.1) ne, fun h => absurd (was.symm.trans h.1) ne⟩
  · exact Iff.rfl

theorem State.setCharge_findLive_same {s : State} {i : Fin 48} {c : Charge} (number : c.number = s.charges[i].number)
    (state : c.state = s.charges[i].state) (n : Nat) : (s.setCharge i c).findLive n = s.findLive n := by
  refine State.findLive_congr (fun j => ?_)
  rw [State.setCharge_entry]
  split
  · next same =>
      subst same
      rw [number, state]
  · exact Iff.rfl

theorem State.releaseRef_absent {s : State} {n : Nat} (h : s.findLive n = none) : s.releaseRef (some n) = s := by
  unfold State.releaseRef
  dsimp only
  rw [h]

theorem Charge.closesAt_one (c : Charge) : c.ClosesAt 1 ↔ c.state = .planed ∧ c.refs = 1 :=
  ⟨fun ⟨planed, held, most⟩ => ⟨planed, le_antisymm most held⟩, fun ⟨planed, one⟩ => ⟨planed, one.ge, one.le⟩⟩

theorem State.releaseRef_closes {s : State} {m : Nat} {i : Fin 48} (found : s.findLive m = some i)
    (closes : s.charges[i].ClosesAt 1) : s.releaseRef (some m) =
      { s.setCharge i (s.charges[i].closedAt s.stamp) with reuse := s.reuse ++ [i] } := by
  have one := ((Charge.closesAt_one _).mp closes).2
  rw [State.releaseRef_found found, if_pos ((Charge.closesAt_one _).mp closes), State.closeRecord_setCharge, one]
  rfl

theorem State.releaseRef_counts {s : State} {m : Nat} {i : Fin 48} (found : s.findLive m = some i)
    (stays : ¬ s.charges[i].ClosesAt 1) : s.releaseRef (some m) =
      s.setCharge i { s.charges[i] with refs := s.charges[i].refs - 1 } :=
  (State.releaseRef_found found).trans (if_neg (mt (Charge.closesAt_one _).mpr stays))

/-- One release of a record that is found. -/
theorem State.releaseRef_releases_found {s : State} {m : Nat} {i : Fin 48} (found : s.findLive m = some i) :
    State.Releases (fun n => if some m = some n then 1 else 0) s (s.releaseRef (some m)) := by
  obtain ⟨number, live⟩ := State.findLive_eq_some found
  have apart (n : Nat) (ne : m ≠ n) (j : Fin 48) (h : s.findLive n = some j) : j ≠ i := fun same =>
    ne (number.symm.trans (same ▸ (State.findLive_eq_some h).1))
  have none (n : Nat) (ne : m ≠ n) : (if some m = some n then 1 else 0) = 0 := if_neg (fun same => ne (Option.some.inj same))
  by_cases closes : s.charges[i].ClosesAt 1
  · rw [State.releaseRef_closes found closes]
    have entry (j : Fin 48) : (s.setCharge i (s.charges[i].closedAt s.stamp)).charges[j] =
        if j = i then s.charges[i].closedAt s.stamp else s.charges[j] := State.setCharge_entry s i j _
    refine ⟨fun n j h stays => ?_, fun n j h closing => ?_, fun j h => (entry j).trans (if_neg ?_), ⟨[i], rfl⟩, rfl⟩
    · by_cases same : m = n
      · subst same
        rw [found] at h
        rw [if_pos rfl, ← Option.some.inj h] at stays
        exact absurd closes stays
      · rw [none n same]
        exact ⟨(entry j).trans (if_neg (apart n same j h)),
          (State.setCharge_findLive_other (c := s.charges[i].closedAt s.stamp) same number number).trans h⟩
    · by_cases same : m = n
      · subst same
        rw [found] at h
        rw [← Option.some.inj h]
        exact ⟨(entry i).trans (if_pos rfl), List.mem_append_right _ (List.mem_singleton.mpr rfl)⟩
      · rw [none n same] at closing
        exact absurd closing.2.1 (by have := closing.2.2; omega)
    · intro same
      exact live (same ▸ h)
  · rw [State.releaseRef_counts found closes]
    have entry (j : Fin 48) : (s.setCharge i { s.charges[i] with refs := s.charges[i].refs - 1 }).charges[j] =
        if j = i then { s.charges[i] with refs := s.charges[i].refs - 1 } else s.charges[j] := State.setCharge_entry s i j _
    have kept : (s.setCharge i { s.charges[i] with refs := s.charges[i].refs - 1 }).findLive m = s.findLive m :=
      State.setCharge_findLive_same (by exact rfl) (by exact rfl) m
    have other (n : Nat) (ne : m ≠ n) :
        (s.setCharge i { s.charges[i] with refs := s.charges[i].refs - 1 }).findLive n = s.findLive n :=
      State.setCharge_findLive_other ne number (by exact number)
    refine ⟨fun n j h stays => ?_, fun n j h closing => ?_, fun j h => (entry j).trans (if_neg ?_), ⟨[], ?_⟩, rfl⟩
    · by_cases same : m = n
      · subst same
        rw [found] at h
        rw [← Option.some.inj h, if_pos rfl]
        exact ⟨(entry i).trans (if_pos rfl), kept.trans found⟩
      · rw [none n same]
        exact ⟨(entry j).trans (if_neg (apart n same j h)), (other n same).trans h⟩
    · by_cases same : m = n
      · subst same
        rw [found] at h
        rw [if_pos rfl, ← Option.some.inj h] at closing
        exact absurd closing closes
      · rw [none n same] at closing
        exact absurd closing.2.1 (by have := closing.2.2; omega)
    · intro same
      exact live (same ▸ h)
    · exact (List.append_nil _).symm

/-- One release. -/
theorem State.releaseRef_releases (c : Option Nat) (s : State) :
    State.Releases (fun n => if c = some n then 1 else 0) s (s.releaseRef c) := by
  cases c with
  | none => exact (State.Releases.of_same rfl rfl rfl).congr (fun n => (if_neg nofun).symm)
  | some m =>
      cases found : s.findLive m with
      | none =>
          rw [State.releaseRef_absent found]
          have idle := State.Releases.of_same (s := s) (t := s) rfl rfl rfl
          refine ⟨fun n i live => ?_, fun n i live => ?_, idle.closed, idle.reuse, rfl⟩
          all_goals
            have apart : some m ≠ some n := fun same => by
              rw [Option.some.inj same, live] at found
              exact nomatch found
            rw [if_neg apart]
          · exact idle.open_ n i live
          · exact idle.closes n i live
      | some i => exact State.releaseRef_releases_found found

/-- Many releases, in any order. -/
theorem State.releaseRef_foldl_releases (l : List (Option Nat)) (s : State) :
    State.Releases (fun n => l.count (some n)) s (l.foldl (fun t c => t.releaseRef c) s) := by
  induction l generalizing s with
  | nil => exact State.Releases.of_same rfl rfl rfl
  | cons c l ih =>
      refine ((s.releaseRef_releases c).trans (ih (s.releaseRef c))).congr (fun n => ?_)
      rw [List.count_cons, Nat.add_comm]
      simp only [beq_iff_eq]

theorem State.releaseRefs_releases (l : List (Option Nat)) (s : State) :
    State.Releases (fun n => l.count (some n)) s (s.releaseRefs l) := by
  have perm := s.freeOrder_perm l
  have folded := State.releaseRef_foldl_releases (s.freeOrder l) s
  have drawn : State.Releases (fun _ => 0) ((s.freeOrder l).foldl (fun t c => t.releaseRef c) s) (s.releaseRefs l) :=
    State.Releases.of_same rfl rfl rfl
  exact (folded.trans drawn).congr (fun n => perm.count_eq (some n))

end Sys2Proof.Machine
end

section
/-! PROOFS. What a close is made of (chapter 9): the hand-over of the label, the lot and the log entry, the notices, the references
(R171 to R173, R175). -/

namespace Sys2Proof.Machine

/-! ### What handing a label over leaves -/

/-- The part beside its line tracker, its label unit and its outgoing traffic. -/
def State.beside (s : State) : State := { s.inner with line := {}, labels := {} }

theorem State.beside_of_inner {s t : State} (h : t.inner = s.inner) : t.beside = s.beside :=
  congrArg (fun u : State => { u with line := {}, labels := {} }) h

theorem State.evaluateHold_beside (s : State) : s.evaluateHold.beside = s.beside := by
  by_cases h : s.nextHold = s.line.holdAsserted
  · rw [State.evaluateHold_same h]
  · rw [State.evaluateHold_turns h, State.beside_of_inner (State.raise_inner _ _)]
    rfl

theorem State.startHead_beside (s : State) : s.startHead.beside = s.beside := by
  unfold State.startHead
  split
  · rfl
  · split
    · rw [State.beside_of_inner (State.produceRows_inner _)]
      rfl
    · rfl

theorem State.handOff_beside (p : Pack) (bin : Fin 16) (r : CloseReason) (s : State) : (s.handOff p bin r).beside = s.beside := by
  unfold State.handOff
  split
  · dsimp only
    split
    · rw [State.startHead_beside, State.evaluateHold_beside]
      rfl
    · rw [State.evaluateHold_beside]
      rfl
  · rfl

theorem State.beside_tables {s t : State} (h : t.beside = s.beside) : t.lots = s.lots ∧ t.packLog = s.packLog ∧ t.bins = s.bins
    ∧ t.charges = s.charges ∧ t.reuse = s.reuse ∧ t.clock = s.clock :=
  ⟨(congrArg State.lots h :), (congrArg State.packLog h :), (congrArg State.bins h :), (congrArg State.charges h :),
    (congrArg State.reuse h :), (congrArg State.clock h :)⟩

/-! ### The label that joins (R172, R180) -/

theorem State.renderField_length (s : State) (p : Pack) (bin : Fin 16) (r : CloseReason) (rows : List (List Byte))
    (e : Option LabelField) : (s.renderField p bin r rows e).length = rows.length := by
  unfold State.renderField
  split
  · rfl
  · exact List.length_modify _ _ _

theorem State.render_rows (s : State) (p : Pack) (bin : Fin 16) (r : CloseReason) : (s.render p bin r).rows.length = 8 := by
  have folded (l : List (Option LabelField)) (rows : List (List Byte)) :
      (l.foldl (s.renderField p bin r) rows).length = rows.length := by
    induction l generalizing rows with
    | nil => rfl
    | cons e l ih => rw [List.foldl_cons, ih, State.renderField_length]
  exact folded _ _

theorem State.handOff_joins {p : Pack} {bin : Fin 16} {r : CloseReason} {s : State} (room : s.labels.queue.length < 8) :
    s.handOff p bin r =
      let joined := ({ s with labels := { s.labels with queue := s.labels.queue ++ [s.render p bin r] } } : State).evaluateHold
      if s.labels.queue = [] then joined.startHead else joined := by
  refine (if_pos room).trans ?_
  exact if_congr List.isEmpty_iff rfl rfl

theorem State.handOff_full {p : Pack} {bin : Fin 16} {r : CloseReason} {s : State} (full : 8 ≤ s.labels.queue.length) :
    s.handOff p bin r = s := if_neg (Nat.not_lt.mpr full)

theorem State.handOff_queue (p : Pack) (bin : Fin 16) (r : CloseReason) (s : State) : (s.handOff p bin r).labels.queue =
    if s.labels.queue.length < 8 then s.labels.queue ++ [s.render p bin r] else s.labels.queue := by
  by_cases room : s.labels.queue.length < 8
  · rw [State.handOff_joins room, if_pos room]
    dsimp only
    split
    · rw [State.startHead_queue, State.evaluateHold_labels]
    · rw [State.evaluateHold_labels]
  · rw [State.handOff_full (Nat.not_lt.mp room), if_neg room]

/-! ### The lot and the log entry (R173, R175) -/

/-- A lot of a pack is refused. -/
def State.LotRefused (s : State) (p : Pack) : Prop := 32 ≤ s.lots.length ∨ ∃ l ∈ s.lots, l.id = p.number

theorem State.lotRefusal_eq (s : State) (p : Pack) : s.lotRefusal p =
    if 32 ≤ s.lots.length then some 0 else if ∃ l ∈ s.lots, l.id = p.number then some 1 else none := by
  unfold State.lotRefusal
  simp only [List.any_eq_true, beq_iff_eq]
  rfl

theorem State.lotRefusal_iff (s : State) (p : Pack) : (s.lotRefusal p).isSome = true ↔ s.LotRefused p := by
  rw [State.lotRefusal_eq]
  unfold State.LotRefused
  split
  · next full => simp [full]
  · next room => split <;> simp_all

theorem State.lotCause_eq (s : State) (p : Pack) : s.lotCause p = if p.kind = .redry then s.lotRefusal p else none := by
  unfold State.lotCause
  cases h : p.kind <;> rfl

theorem State.createsLot_iff (s : State) (p : Pack) : s.createsLot p = true ↔ p.kind = .redry ∧ ¬ s.LotRefused p := by
  rw [← State.lotRefusal_iff, State.createsLot, Bool.and_eq_true, beq_iff_eq]
  cases s.lotRefusal p <;> simp

/-- What the lots and the log hold decides what a close makes of them. -/
theorem State.lots_congr {s t : State} (lots : t.lots = s.lots) (p : Pack) :
    t.lotCause p = s.lotCause p ∧ t.createsLot p = s.createsLot p := by
  have refusal : t.lotRefusal p = s.lotRefusal p := by
    unfold State.lotRefusal
    rw [lots]
  constructor
  · rw [State.lotCause_eq, State.lotCause_eq, refusal]
  · unfold State.createsLot
    rw [refusal]

theorem State.packSpecies_congr {s t : State} (charges : t.charges = s.charges)
    (species : t.line.settings.defaultSpecies = s.line.settings.defaultSpecies) (p : Pack) :
    t.packSpecies p = s.packSpecies p := by
  unfold State.packSpecies
  rw [species]
  simp only [State.charge?_congr charges]

theorem State.handOff_lotOf (p : Pack) (bin : Fin 16) (r : CloseReason) (s : State) :
    (s.handOff p bin r).lotOf p = s.lotOf p := by
  obtain ⟨-, -, -, charges, -, -⟩ := State.beside_tables (State.handOff_beside p bin r s)
  have settings : (s.handOff p bin r).line.settings = s.line.settings := (congrArg Line.settings (State.handOff_track p bin r s) :)
  unfold State.lotOf
  rw [State.packSpecies_congr charges (congrArg LineSettings.defaultSpecies settings)]

/-- The log entry of a close. -/
def State.entryOf (bin : Fin 16) (p : Pack) (r : CloseReason) (s : State) : LogEntry :=
  ⟨p, bin, r, s.outcomeAtClose, (s.lotCause p).isSome, s.stamp⟩

/-- The lots after a close. -/
def State.lotsAfter (p : Pack) (s : State) : List Lot := if s.createsLot p then s.lots ++ [s.lotOf p] else s.lots

/-- The log after a close. -/
def State.logAfter (bin : Fin 16) (p : Pack) (r : CloseReason) (s : State) : List LogEntry :=
  (if 64 ≤ s.packLog.length then s.packLog.tail else s.packLog) ++ [s.entryOf bin p r]

/-- The part with a closing pack's label handed over, its lot and its log entry written. -/
def State.logged (bin : Fin 16) (p : Pack) (r : CloseReason) (s : State) : State :=
  { s.handOff p bin r with lots := s.lotsAfter p, packLog := s.logAfter bin p r }

theorem State.makeLot_eq (p : Pack) (s : State) : s.makeLot p = { s with lots := s.lotsAfter p } := by
  unfold State.makeLot State.lotsAfter
  split <;> rfl

theorem State.writeLog_eq (e : LogEntry) (s : State) : s.writeLog e =
    { s with packLog := (if 64 ≤ s.packLog.length then s.packLog.tail else s.packLog) ++ [e] } := rfl

theorem State.logged_eq (bin : Fin 16) (p : Pack) (r : CloseReason) (s : State) :
    ((s.handOff p bin r).makeLot p).writeLog
      ⟨p, bin, r, s.outcomeAtClose, ((s.handOff p bin r).lotCause p).isSome, s.stamp⟩ = s.logged bin p r := by
  obtain ⟨lots, log, -⟩ := State.beside_tables (State.handOff_beside p bin r s)
  obtain ⟨cause, creates⟩ := State.lots_congr lots p
  have after : (s.handOff p bin r).lotsAfter p = s.lotsAfter p := by
    unfold State.lotsAfter
    rw [creates, lots, State.handOff_lotOf]
  rw [State.makeLot_eq, after, cause, State.writeLog_eq]
  dsimp only
  rw [log]
  rfl

/-! ### The notices of a close -/

/-- PACK_CLOSED of a close. -/
def State.closedNotice (bin : Fin 16) (p : Pack) (r : CloseReason) (s : State) : Notice where
  kind := .packClosed
  data := packClosedData p bin r s.outcomeAtClose (s.createsLot p)

/-- The part with the notices of a close raised. -/
def State.noted (bin : Fin 16) (p : Pack) (r : CloseReason) (s : State) : State :=
  (((s.logged bin p r).raise (s.closedNotice bin p r)).raiseNoLabel p bin s.outcomeAtClose).raiseLotLost p (s.lotCause p)

theorem State.closePack_noted (bin : Fin 16) (p : Pack) (r : CloseReason) (s : State) : s.closePack bin p r =
    ((s.noted bin p r).releaseRefs p.charges).modBin bin (fun b => { b with pack := none }) := by
  obtain ⟨lots, -⟩ := State.beside_tables (State.handOff_beside p bin r s)
  obtain ⟨cause, creates⟩ := State.lots_congr lots p
  unfold State.closePack
  dsimp only
  rw [State.logged_eq, cause, creates]
  rfl

theorem State.noted_inner (bin : Fin 16) (p : Pack) (r : CloseReason) (s : State) :
    (s.noted bin p r).inner = (s.logged bin p r).inner := by
  have label (t : State) (o : LabelOutcome) : (t.raiseNoLabel p bin o).inner = t.inner := by
    unfold State.raiseNoLabel
    split
    · exact State.raise_inner _ t
    · rfl
  have lot (t : State) (c : Option Nat) : (t.raiseLotLost p c).inner = t.inner := by
    unfold State.raiseLotLost
    split
    · exact State.raise_inner _ t
    · rfl
  unfold State.noted
  rw [lot, label, State.raise_inner]

theorem State.inner_tables {s t : State} (h : t.inner = s.inner) : t.lots = s.lots ∧ t.packLog = s.packLog ∧ t.bins = s.bins
    ∧ t.charges = s.charges ∧ t.reuse = s.reuse ∧ t.stamp = s.stamp ∧ t.labels.queue = s.labels.queue :=
  ⟨(congrArg State.lots h :), (congrArg State.packLog h :), (congrArg State.bins h :), (congrArg State.charges h :),
    (congrArg State.reuse h :), (congrArg State.stamp h :), (congrArg (fun u => u.labels.queue) h :)⟩

/-- The collections after a close. -/
theorem State.closePack_collections (bin : Fin 16) (p : Pack) (r : CloseReason) (s : State) :
    (s.closePack bin p r).lots = s.lotsAfter p ∧ (s.closePack bin p r).packLog = s.logAfter bin p r
    ∧ (s.closePack bin p r).labels.queue =
      (if s.labels.queue.length < 8 then s.labels.queue ++ [s.render p bin r] else s.labels.queue)
    ∧ (s.closePack bin p r).bins = s.bins.set bin { s.bins[bin] with pack := none } := by
  obtain ⟨lots, log, bins, -, -, -, queue⟩ := State.inner_tables (State.noted_inner bin p r s)
  obtain ⟨-, -, handedBins, -⟩ := State.beside_tables (State.handOff_beside p bin r s)
  obtain ⟨-, labels', lots', bins', log', -⟩ :=
    State.releaseRef_foldl_rest ((s.noted bin p r).freeOrder p.charges) (s.noted bin p r)
  have whole : ((s.noted bin p r).releaseRefs p.charges).bins = s.bins := bins'.trans (bins.trans handedBins)
  rw [State.closePack_noted]
  refine ⟨lots'.trans lots, log'.trans log,
    (congrArg LabelUnit.queue labels').trans (queue.trans (State.handOff_queue p bin r s)), ?_⟩
  unfold State.modBin
  rw [whole]

/-- The references that a close gives back. -/
theorem State.closePack_releases (bin : Fin 16) (p : Pack) (r : CloseReason) (s : State) :
    State.Releases (fun n => p.charges.count (some n)) s (s.closePack bin p r) := by
  obtain ⟨-, -, -, charges, reuse, stamp, -⟩ := State.inner_tables (State.noted_inner bin p r s)
  obtain ⟨-, -, -, charges', reuse', clock⟩ := State.beside_tables (State.handOff_beside p bin r s)
  have stamp' : (s.logged bin p r).stamp = s.stamp := congrArg (fun c : MillClock => (⟨c.value, c.isSet⟩ : Stamp)) clock
  have noted : State.Releases (fun _ => 0) s (s.noted bin p r) :=
    State.Releases.of_same (charges.trans charges') (reuse.trans reuse') (stamp.trans stamp')
  rw [State.closePack_noted]
  have emptied : State.Releases (fun _ => 0) ((s.noted bin p r).releaseRefs p.charges)
      (((s.noted bin p r).releaseRefs p.charges).modBin bin (fun b => { b with pack := none })) :=
    State.Releases.of_same rfl rfl rfl
  exact ((noted.trans (State.releaseRefs_releases p.charges _)).trans emptied).congr
    (fun n => by rw [Nat.zero_add, Nat.add_zero])

end Sys2Proof.Machine
end

section
/-! PROOFS. CLOSE_PACK and the statement on closes (chapter 9). -/

namespace Sys2Proof.Machine

theorem serveClosePack_refused (r : Request) (s : State) (h : r.args.length ≠ 1 ∨ 15 < u8 r.args 0) :
    serveClosePack r s = refuse s .badArgument := by
  unfold serveClosePack
  split
  · rfl
  · next layout => rw [index?_of_le 16 _ (h.resolve_left layout)]

theorem serveClosePack_bin (r : Request) (s : State) (i : Fin 16) (layout : r.args.length = 1) (hi : u8 r.args 0 = i.val) :
    (s.bins[i].pack = none → serveClosePack r s = refuse s .wrongState)
    ∧ ∀ k, s.bins[i].pack = some k → serveClosePack r s =
      okWith (s.closePack i k .forced) (be32 k.number.toNat ++ be16 k.count ++ be8 s.outcomeAtClose.code) := by
  unfold serveClosePack
  rw [if_neg (not_not.mpr layout), (index?_eq_some_iff _ i).mpr hi]
  dsimp only
  exact ⟨fun none => by rw [none], fun k held => by rw [held]⟩

theorem State.outcomeAtClose_eq (s : State) : s.outcomeAtClose = if s.labels.queue.length < 8 then .pending else .noLabel := rfl

theorem State.outcomeAtClose_code (s : State) : s.outcomeAtClose.code = if s.labels.queue.length < 8 then 0 else 4 := by
  rw [State.outcomeAtClose_eq]
  split <;> rfl

theorem CloseReason.code_eq (r : CloseReason) : r.code =
    if r = .countReached then 0 else if r = .chargeMix then 1 else if r = .forced then 2 else 3 := by cases r <;> rfl

theorem PackKind.code_eq (x : PackKind) : x.code = if x = .redry then 1 else 0 := by cases x <;> rfl

theorem State.closedNotice_eq (bin : Fin 16) (k : Pack) (r : CloseReason) (s : State) : s.closedNotice bin k r =
    ⟨.packClosed, none, be32 k.number.toNat ++ be8 bin.val ++ be8 (if k.kind = .redry then 1 else 0)
      ++ be8 (if r = .countReached then 0 else if r = .chargeMix then 1 else if r = .forced then 2 else 3) ++ be16 k.count
      ++ be8 (if s.labels.queue.length < 8 then 0 else 4)
      ++ be8 (if k.kind = .redry ∧ s.lots.length < 32 ∧ ∀ l ∈ s.lots, l.id ≠ k.number then 1 else 0)⟩ := by
  have made : (s.createsLot k = true) = (k.kind = .redry ∧ s.lots.length < 32 ∧ ∀ l ∈ s.lots, l.id ≠ k.number) := by
    refine propext ((s.createsLot_iff k).trans (and_congr_right' ?_))
    simp [State.LotRefused]
  unfold State.closedNotice packClosedData
  rw [beBool_eq, s.outcomeAtClose_code, CloseReason.code_eq, PackKind.code_eq]
  simp only [made]

/-- LABEL_FAILED where no label joined. -/
theorem State.raiseNoLabel_eq (k : Pack) (bin : Fin 16) (s t : State) : t.raiseNoLabel k bin s.outcomeAtClose =
    if s.labels.queue.length < 8 then t else t.raise ⟨.labelFailed, none, be32 k.number.toNat ++ be8 4 ++ be8 bin.val⟩ := by
  rw [State.outcomeAtClose_eq]
  split <;> rfl

/-- LOT_LOST where a lot was refused. -/
theorem State.raiseLotLost_eq (k : Pack) (s t : State) : t.raiseLotLost k (s.lotCause k) =
    if k.kind = .redry ∧ 32 ≤ s.lots.length then t.raise ⟨.lotLost, none, be32 k.number.toNat ++ be8 0⟩
    else if k.kind = .redry ∧ ∃ l ∈ s.lots, l.id = k.number then t.raise ⟨.lotLost, none, be32 k.number.toNat ++ be8 1⟩
    else t := by
  rw [State.lotCause_eq, State.lotRefusal_eq]
  by_cases redry : k.kind = .redry
  · simp only [redry, true_and, if_true]
    split
    · rfl
    · split <;> rfl
  · simp only [redry, false_and, if_false]
    rfl

/-- The notices of a close, spelled out. -/
theorem State.noted_eq (bin : Fin 16) (k : Pack) (r : CloseReason) (s : State) : s.noted bin k r =
    let told := (s.logged bin k r).raise ⟨.packClosed, none, be32 k.number.toNat ++ be8 bin.val
      ++ be8 (if k.kind = .redry then 1 else 0)
      ++ be8 (if r = .countReached then 0 else if r = .chargeMix then 1 else if r = .forced then 2 else 3) ++ be16 k.count
      ++ be8 (if s.labels.queue.length < 8 then 0 else 4)
      ++ be8 (if k.kind = .redry ∧ s.lots.length < 32 ∧ ∀ l ∈ s.lots, l.id ≠ k.number then 1 else 0)⟩
    let failed := if s.labels.queue.length < 8 then told
      else told.raise ⟨.labelFailed, none, be32 k.number.toNat ++ be8 4 ++ be8 bin.val⟩
    if k.kind = .redry ∧ 32 ≤ s.lots.length then failed.raise ⟨.lotLost, none, be32 k.number.toNat ++ be8 0⟩
    else if k.kind = .redry ∧ ∃ l ∈ s.lots, l.id = k.number then failed.raise ⟨.lotLost, none, be32 k.number.toNat ++ be8 1⟩
    else failed := by
  unfold State.noted
  rw [State.raiseLotLost_eq, State.raiseNoLabel_eq, State.closedNotice_eq]

theorem State.packSpecies_default {s : State} {k : Pack} (h : ∀ c ∈ k.charges, c = none) :
    s.packSpecies k = s.line.settings.defaultSpecies := by
  have none : k.charges.find? Option.isSome = none :=
    List.find?_eq_none.mpr (fun c hc => by rw [h c hc]; nofun)
  unfold State.packSpecies
  rw [none]

theorem State.packSpecies_first {s : State} {k : Pack} {before after : List (Option Nat)} {n : Nat} {c : Charge}
    (charges : k.charges = before ++ some n :: after) (h : ∀ x ∈ before, x = none) (live : s.charge? n = some c) :
    s.packSpecies k = c.species := by
  have first : k.charges.find? Option.isSome = some (some n) := by
    rw [charges, List.find?_append, List.find?_eq_none.mpr (fun x hx => by rw [h x hx]; nofun)]
    rfl
  unfold State.packSpecies
  rw [first]
  dsimp only
  rw [live]
  rfl

theorem State.lotsAfter_made {s : State} {k : Pack} (redry : k.kind = .redry) (h : ¬ s.LotRefused k) :
    s.lotsAfter k = s.lots ++ [s.lotOf k] := if_pos ((s.createsLot_iff k).mpr ⟨redry, h⟩)

theorem State.lotsAfter_same {s : State} {k : Pack} (h : k.kind = .normal ∨ s.LotRefused k) : s.lotsAfter k = s.lots :=
  if_neg (fun made => by
    obtain ⟨redry, free⟩ := (s.createsLot_iff k).mp made
    exact h.elim (fun normal => nomatch (redry.symm.trans normal : PackKind.redry = .normal)) free)

theorem State.lotCause_iff (s : State) (k : Pack) : (s.lotCause k).isSome = true ↔ k.kind = .redry ∧ s.LotRefused k := by
  rw [State.lotCause_eq, ← State.lotRefusal_iff]
  by_cases redry : k.kind = .redry <;> simp [redry]

/-- A close as one chain: the label handed over, the lot and the entry written, the notices, the references, the bin. -/
theorem State.closePack_chain (bin : Fin 16) (k : Pack) (reason : CloseReason) (s : State) :
    s.closePack bin k reason =
      { ((s.noted bin k reason).freeOrder k.charges).foldl (fun u c => u.releaseRef c) (s.noted bin k reason) with
        bins := (s.closePack bin k reason).bins
        freeCount := (((s.noted bin k reason).freeOrder k.charges).foldl (fun u c => u.releaseRef c)
          (s.noted bin k reason)).freeCount + k.charges.length } := by
  rw [State.closePack_noted]
  rfl

/-- Settles O50: the request by its bin, a close by its collections, its references and the chain of its parts. -/
theorem closePackRecordsThePack : Obligations.ClosePackRecordsThePack := by
  unfold Obligations.ClosePackRecordsThePack
  refine ⟨rfl, fun s d p g a ready => ⟨fun h => exec_reply rfl ready (serveClosePack_refused (requestFor .closePack d p g a) s h),
    fun i layout hi => ?request⟩, fun s bin k reason => ?close, fun s k =>
      ⟨State.packSpecies_default, fun before n after c charges h live => State.packSpecies_first charges h live⟩⟩
  case request =>
    obtain ⟨empty, held⟩ := serveClosePack_bin (requestFor .closePack d p g a) s i layout hi
    refine ⟨fun none => exec_reply rfl ready (empty none), fun k pack => ?_⟩
    have served := held k pack
    rw [State.outcomeAtClose_code] at served
    exact exec_reply rfl ready served
  case close =>
    obtain ⟨lots, log, queue, bins⟩ := State.closePack_collections bin k reason s
    have releases := State.closePack_releases bin k reason s
    have queued (room : s.labels.queue.length < 8) : (s.closePack bin k reason).labels.queue =
        s.labels.queue ++ [s.render k bin reason] := queue.trans (if_pos room)
    refine ⟨fun room => ⟨s.render k bin reason, queued room, rfl, rfl, s.render_rows k bin reason⟩,
      fun full => queue.trans (if_neg (Nat.not_lt.mpr full)), fun redry free => lots.trans (State.lotsAfter_made redry free),
      fun h => lots.trans (State.lotsAfter_same h), ⟨s.entryOf bin k reason, log, rfl, rfl, rfl, rfl, s.lotCause_iff k, rfl⟩,
      bins, State.closePack_nextPack bin k reason s, (congrArg Line.queue (State.closePack_track bin k reason s) :),
      (congrArg State.kilns (State.closePack_beyond bin k reason s) :), queued,
      fun n i found => ⟨fun stays => (releases.open_ n i found stays).1, fun closes => releases.closes n i found closes⟩,
      s.handOff k bin reason, (s.noted bin k reason).freeOrder k.charges,
      (((s.noted bin k reason).freeOrder k.charges).foldl (fun u c => u.releaseRef c) (s.noted bin k reason)).freeCount
        + k.charges.length, fun full => State.handOff_full full, ?_,
      State.freeOrder_perm _ _, ?_⟩
    · refine ⟨fun room some => (State.handOff_joins room).trans (if_neg some), fun empty => ?_⟩
      exact (State.handOff_joins (by rw [empty]; decide)).trans (if_pos empty)
    · dsimp only
      rw [lots, log]
      exact (State.closePack_chain bin k reason s).trans (congrArg (fun u : State =>
        { ((s.noted bin k reason).freeOrder k.charges).foldl (fun v c => State.releaseRef c v) u with
          bins := (s.closePack bin k reason).bins
          freeCount := (((s.noted bin k reason).freeOrder k.charges).foldl (fun v c => State.releaseRef c v)
            (s.noted bin k reason)).freeCount + k.charges.length }) (State.noted_eq bin k reason s))

end Sys2Proof.Machine
end

section
/-! PROOFS. The head label (chapter 10): starting it, its PRINT_DONE, and what finishing it leaves (R172, R176, R182 to R187). -/

namespace Sys2Proof.Machine

/-! ### The label unit across what is raised and sent -/

theorem State.labels_of_inner {s t : State} (h : t.inner = s.inner) : t.labels = { s.labels with nextRow := t.labels.nextRow } := by
  have same : ({ t.labels with nextRow := 0 } : LabelUnit) = { s.labels with nextRow := 0 } := congrArg State.labels h
  exact congrArg (fun u : LabelUnit => { u with nextRow := t.labels.nextRow }) same

theorem State.evaluateHold_unit (s : State) :
    s.evaluateHold.labels = { s.labels with nextRow := s.evaluateHold.labels.nextRow } := by
  by_cases h : s.nextHold = s.line.holdAsserted
  · rw [State.evaluateHold_same h]
  · rw [State.evaluateHold_turns h]
    have raised (u : State) (n : Notice) : (u.raise n).labels = { u.labels with nextRow := (u.raise n).labels.nextRow } :=
      State.labels_of_inner (State.raise_inner n u)
    exact raised _ _

theorem State.stations_of_beside {s t : State} (h : t.beside = s.beside) : t.stations = s.stations := (congrArg State.stations h :)

/-! ### Starting the head (R183, R184) -/

theorem State.startHead_empty {s : State} (h : s.labels.queue = []) :
    s.startHead = { s with labels := { s.labels with head := none, nextRow := 0 } } := if_pos (List.isEmpty_iff.mpr h)

theorem State.startHead_waits {s : State} (h : s.labels.queue ≠ []) (none : s.holder .printer = none) :
    s.startHead = { s with labels := { s.labels with head := some .waiting, nextRow := 0 } } :=
  (if_neg (mt List.isEmpty_iff.mp h)).trans (if_neg (by rw [none]; nofun))

theorem State.startHead_sends {s : State} (h : s.labels.queue ≠ []) (held : s.holder .printer ≠ none) :
    s.startHead = State.produceRows { s with labels := { s.labels with head := some .sending, nextRow := 0 } } :=
  (if_neg (mt List.isEmpty_iff.mp h)).trans (if_pos (Option.isSome_iff_ne_none.mpr held))

theorem State.startHead_unit (s : State) : s.startHead.labels = { s.labels with
    head := if s.labels.queue = [] then none else if s.holder .printer = none then some .waiting else some .sending
    nextRow := s.startHead.labels.nextRow } := by
  by_cases empty : s.labels.queue = []
  · rw [State.startHead_empty empty, if_pos empty]
  · rw [if_neg empty]
    by_cases held : s.holder .printer = none
    · rw [State.startHead_waits empty held, if_pos held]
    · rw [State.startHead_sends empty held, if_neg held]
      exact State.labels_of_inner (State.produceRows_inner _)

theorem State.startHead_line (s : State) : s.startHead.line = s.line := by
  unfold State.startHead
  split
  · rfl
  · split
    · exact State.produceRows_line _
    · rfl

/-! ### The outcome in the log (R176) -/

theorem modify_length_append {α : Type} (f : α → α) (before after : List α) (x : α) :
    (before ++ x :: after).modify before.length f = before ++ f x :: after := by
  induction before with
  | nil => rfl
  | cons y before ih => rw [List.cons_append, List.length_cons, List.modify_succ_cons, ih, List.cons_append]

theorem reportOutcome_newest {number : Word} {o : LabelOutcome} {before after : List LogEntry} {e : LogEntry}
    (named : e.pack.number = number) (pending : e.outcome = .pending)
    (newest : ∀ y ∈ after, ¬ (y.pack.number = number ∧ y.outcome = .pending)) :
    reportOutcome number o (before ++ e :: after) = before ++ { e with outcome := o } :: after := by
  have turned : (before ++ e :: after).reverse = after.reverse ++ e :: before.reverse := by simp
  have found : (after.reverse ++ e :: before.reverse).findIdx? (fun e => e.pack.number == number && e.outcome == .pending)
      = some after.length := by
    rw [List.findIdx?_append, List.findIdx?_eq_none_iff.mpr (fun y hy => by
      have := newest y (List.mem_reverse.mp hy)
      simpa using this)]
    simp [List.findIdx?_cons, named, pending]
  unfold reportOutcome
  rw [turned, found]
  dsimp only
  rw [← List.length_reverse, modify_length_append]
  simp

theorem reportOutcome_absent {number : Word} {o : LabelOutcome} {log : List LogEntry}
    (h : ∀ e ∈ log, ¬ (e.pack.number = number ∧ e.outcome = .pending)) : reportOutcome number o log = log := by
  have none : log.reverse.findIdx? (fun e => e.pack.number == number && e.outcome == .pending) = none :=
    List.findIdx?_eq_none_iff.mpr (fun y hy => by simpa using h y (List.mem_reverse.mp hy))
  unfold reportOutcome
  rw [none]

/-! ### PRINT_DONE and the timer (R185, R186) -/

theorem u16_lt (x : List Byte) (i : Nat) : u16 x i < 65536 := by
  have high : u8 x i < 256 := (x.getD i 0).isLt
  have low : u8 x (i + 1) < 256 := (x.getD (i + 1) 0).isLt
  unfold u16
  omega

theorem u32_lt (x : List Byte) (i : Nat) : u32 x i < 2 ^ 32 := by
  have high := u16_lt x i
  have low := u16_lt x (i + 2)
  unfold u32
  omega

/-- A number of four bytes names a word. -/
theorem word_eq_iff (w : Word) (x : List Byte) (i : Nat) : w = BitVec.ofNat 32 (u32 x i) ↔ w.toNat = u32 x i := by
  rw [← BitVec.toNat_inj, BitVec.toNat_ofNat, Nat.mod_eq_of_lt (u32_lt x i)]

theorem LabelUnit.accepts_iff (u : LabelUnit) (x : List Byte) : u.accepts (BitVec.ofNat 32 (u32 x 0)) = true ↔
    ∃ l rest, u.queue = l :: rest ∧ u.head = some .awaitPrint ∧ l.pack.toNat = u32 x 0 := by
  unfold LabelUnit.accepts
  cases u.queue with
  | nil => simp
  | cons l rest => simp [word_eq_iff]

theorem State.printDone_other {s : State} {x : List Byte} (h : s.labels.accepts (BitVec.ofNat 32 (u32 x 0)) ≠ true) :
    s.printDone x = { s with line := { s.line with
      counters := { s.line.counters with latePrint := bump16 s.line.counters.latePrint } } } := if_neg h

theorem State.printDone_head {s : State} {x : List Byte} (h : s.labels.accepts (BitVec.ofNat 32 (u32 x 0)) = true) :
    s.printDone x = s.finishHead (if u8 x 4 = 0 then .printed else .printerFault) := if_pos h

/-! ### Finishing the head (R187) -/

/-- The part with the head's timer stopped and its failure told. -/
def State.toldHead (l : Label) (o : LabelOutcome) (s : State) : State :=
  let stopped : State := { s with labels := { s.labels with timer := none } }
  if o = .printed then stopped else stopped.raise (labelFailed l.pack o l.bin)

/-- The part with the head gone from the queue. -/
def State.leftHead (l : Label) (rest : List Label) (o : LabelOutcome) (s : State) : State :=
  { s.toldHead l o with
    packLog := reportOutcome l.pack o s.packLog
    labels := { (s.toldHead l o).labels with queue := rest, head := none, nextRow := 0 } }

theorem State.toldHead_facts (l : Label) (o : LabelOutcome) (s : State) : (s.toldHead l o).packLog = s.packLog
    ∧ (s.toldHead l o).line = s.line ∧ (s.toldHead l o).stations = s.stations
    ∧ (s.toldHead l o).labels = { s.labels with timer := none, nextRow := (s.toldHead l o).labels.nextRow } := by
  unfold State.toldHead
  dsimp only
  split
  · exact ⟨rfl, rfl, rfl, rfl⟩
  · have inner := State.raise_inner (labelFailed l.pack o l.bin) { s with labels := { s.labels with timer := none } }
    exact ⟨State.raise_packLog _ _, State.raise_line _ _, State.raise_stations _ _, State.labels_of_inner inner⟩

theorem State.finishHead_eq {s : State} {l : Label} {rest : List Label} (h : s.labels.queue = l :: rest) (o : LabelOutcome) :
    s.finishHead o = (s.leftHead l rest o).evaluateHold.startHead := by
  have log := (s.toldHead_facts l o).1
  unfold State.leftHead
  rw [← log]
  unfold State.finishHead
  rw [h]
  rfl

theorem State.finishHead_facts {s : State} {l : Label} {rest : List Label} (h : s.labels.queue = l :: rest) (o : LabelOutcome) :
    (s.finishHead o).labels = { s.labels with
      timer := none, queue := rest
      head := if rest = [] then none else if s.holder .printer = none then some .waiting else some .sending
      nextRow := (s.finishHead o).labels.nextRow }
    ∧ (s.finishHead o).line.holdAsserted = holdNext s.line.holdAsserted s.line.queue.length rest.length
    ∧ (s.finishHead o).packLog = reportOutcome l.pack o s.packLog := by
  obtain ⟨log, line, stations, labels⟩ := s.toldHead_facts l o
  have left : (s.leftHead l rest o).labels = { s.labels with timer := none, queue := rest, head := none, nextRow := 0 } := by
    unfold State.leftHead
    dsimp only
    rw [labels]
  have held : (s.leftHead l rest o).evaluateHold.labels = { s.labels with
      timer := none, queue := rest, head := none, nextRow := (s.leftHead l rest o).evaluateHold.labels.nextRow } := by
    rw [State.evaluateHold_unit, left]
  have queue : (s.leftHead l rest o).evaluateHold.labels.queue = rest := congrArg LabelUnit.queue held
  have holder : (s.leftHead l rest o).evaluateHold.holder .printer = s.holder .printer :=
    State.holder_congr ((State.stations_of_beside (State.evaluateHold_beside (s.leftHead l rest o))).trans stations) _
  rw [State.finishHead_eq h]
  refine ⟨?_, ?_, ?_⟩
  · rw [State.startHead_unit, queue, holder, held]
  · have kept : (s.leftHead l rest o).line = s.line := line
    rw [State.startHead_line, State.evaluateHold_asserted, kept, left]
  · have started : (s.leftHead l rest o).evaluateHold.startHead.packLog = (s.leftHead l rest o).evaluateHold.packLog :=
      congrArg (fun x => x.2.2) (State.startHead_packSide (s.leftHead l rest o).evaluateHold)
    obtain ⟨-, -, -, -, evaluated⟩ := State.evaluateHold_charges (s.leftHead l rest o)
    exact started.trans evaluated

/-- Settles O53: PRINT_DONE by what the head accepts, the finish by its chain, the start by the queue and the printer. -/
theorem headLabelsAreFinished : Obligations.HeadLabelsAreFinished := by
  unfold Obligations.HeadLabelsAreFinished
  refine ⟨fun s x => ⟨fun accepted zero => ?_, fun accepted some => ?_, fun other => ?_⟩,
    ⟨fun s => ⟨fun h => congrArg Host.Outcome.next (if_pos h), fun h => congrArg Host.Outcome.next (if_neg h)⟩,
      fun s l rest o queue => ?finish⟩,
    fun s => ⟨State.startHead_empty, State.startHead_waits, State.startHead_sends⟩⟩
  · rw [State.printDone_head ((LabelUnit.accepts_iff _ x).mpr accepted), if_pos zero]
  · rw [State.printDone_head ((LabelUnit.accepts_iff _ x).mpr accepted), if_neg some]
  · exact State.printDone_other (mt (LabelUnit.accepts_iff _ x).mp other)
  case finish =>
    obtain ⟨labels, asserted, log⟩ := State.finishHead_facts queue o
    refine ⟨(congrArg LabelUnit.timer labels :), (congrArg LabelUnit.timeoutInUse labels :), (congrArg LabelUnit.queue labels :),
      (congrArg LabelUnit.layout labels :), (congrArg LabelUnit.head labels :), asserted,
      fun before e after held named pending newest => ?_, fun absent => log.trans (reportOutcome_absent absent), fun told => ?_⟩
    · rw [log, held]
      exact reportOutcome_newest named pending newest
    · dsimp only
      rw [log]
      refine (State.finishHead_eq queue o).trans ?_
      rcases told with rfl | rfl | rfl <;> rfl

end Sys2Proof.Machine
end

section
/-! PROOFS. LINE_RESET (chapter 8): the boards discarded, the open packs closed in bin order (R159, R170). -/

namespace Sys2Proof.Machine

/-! ### A close's line-hold -/

theorem State.closePack_hold (bin : Fin 16) (p : Pack) (r : CloseReason) (s : State) :
    (s.closePack bin p r).line.holdAsserted = if s.labels.queue.length < 8 then
      holdNext s.line.holdAsserted s.line.queue.length (s.labels.queue.length + 1) else s.line.holdAsserted := by
  obtain ⟨released, -⟩ := State.releaseRef_foldl_rest ((s.noted bin p r).freeOrder p.charges) (s.noted bin p r)
  have noted : (s.noted bin p r).line = (s.handOff p bin r).line := (congrArg State.line (State.noted_inner bin p r s) :)
  have line : (s.closePack bin p r).line = (s.handOff p bin r).line := by
    rw [State.closePack_noted]
    exact released.trans noted
  rw [line]
  by_cases room : s.labels.queue.length < 8
  · rw [State.handOff_joins room, if_pos room]
    dsimp only
    split
    · rw [State.startHead_line, State.evaluateHold_asserted]
      simp
    · rw [State.evaluateHold_asserted]
      simp
  · rw [State.handOff_full (Nat.not_lt.mp room), if_neg room]

/-! ### The open packs close in bin order (R170) -/

theorem State.resetBin_eq (s : State) (b : Fin 16) : s.resetBin b = match s.bins[b].pack with
    | none => s
    | some k => s.closePack b k .lineReset := by
  unfold State.resetBin
  cases s.bins[b].pack <;> rfl

theorem State.resetBin_none {s : State} {b : Fin 16} (h : s.bins[b].pack = none) : s.resetBin b = s := by
  unfold State.resetBin
  rw [h]

theorem State.resetBin_some {s : State} {b : Fin 16} {k : Pack} (h : s.bins[b].pack = some k) :
    s.resetBin b = s.closePack b k .lineReset := by
  unfold State.resetBin
  rw [h]

theorem State.resetBin_bins (s : State) (b j : Fin 16) :
    (s.resetBin b).bins[j] = if j = b then { s.bins[j] with pack := none } else s.bins[j] := by
  cases h : s.bins[b].pack with
  | none =>
      rw [State.resetBin_none h]
      split
      · next same =>
          subst same
          rw [← h]
      · rfl
  | some k =>
      obtain ⟨-, -, -, bins⟩ := State.closePack_collections b k .lineReset s
      rw [State.resetBin_some h, bins]
      split
      · next same =>
          subst same
          exact Vector.getElem_set_self j.isLt
      · next other => exact Vector.getElem_set_ne b.isLt j.isLt (fun same => other (Fin.ext same.symm))

theorem State.resetBin_apart (s : State) {b j : Fin 16} {l : List (Fin 16)} (apart : b ∉ l) (hj : j ∈ l) :
    (s.resetBin b).bins[j] = s.bins[j] :=
  (State.resetBin_bins s b j).trans (if_neg (fun same : j = b => apart (same ▸ hj)))

theorem State.resetBin_foldl_bins (l : List (Fin 16)) (s : State) (j : Fin 16) :
    (l.foldl State.resetBin s).bins[j] = if j ∈ l then { s.bins[j] with pack := none } else s.bins[j] := by
  induction l generalizing s with
  | nil => rfl
  | cons b l ih =>
      rw [List.foldl_cons, ih, State.resetBin_bins]
      by_cases same : j = b
      · simp [same]
      · simp [same]

theorem State.resetBin_track (s : State) (b : Fin 16) : (s.resetBin b).track = s.track := by
  cases h : s.bins[b].pack with
  | none => rw [State.resetBin_none h]
  | some k => rw [State.resetBin_some h, State.closePack_track]

theorem State.resetBin_foldl_track (l : List (Fin 16)) (s : State) : (l.foldl State.resetBin s).track = s.track := by
  induction l generalizing s with
  | nil => rfl
  | cons b l ih => rw [List.foldl_cons, ih, State.resetBin_track]

theorem State.resetBin_nextPack (s : State) (b : Fin 16) : (s.resetBin b).nextPack = s.nextPack := by
  cases h : s.bins[b].pack with
  | none => rw [State.resetBin_none h]
  | some k => rw [State.resetBin_some h, State.closePack_nextPack]

theorem State.resetBin_foldl_nextPack (l : List (Fin 16)) (s : State) : (l.foldl State.resetBin s).nextPack = s.nextPack := by
  induction l generalizing s with
  | nil => rfl
  | cons b l ih => rw [List.foldl_cons, ih, State.resetBin_nextPack]

/-- The charge list of the pack open in a bin. -/
def Bin.listed (b : Bin) : List (Option Nat) := b.pack.elim [] Pack.charges

theorem State.resetBin_releases (s : State) (b : Fin 16) :
    State.Releases (fun n => s.bins[b].listed.count (some n)) s (s.resetBin b) := by
  unfold Bin.listed
  cases h : s.bins[b].pack with
  | none =>
      rw [State.resetBin_none h]
      exact State.Releases.of_same rfl rfl rfl
  | some k =>
      rw [State.resetBin_some h]
      exact State.closePack_releases b k .lineReset s

theorem State.resetBin_foldl_releases (l : List (Fin 16)) (distinct : l.Nodup) (s : State) :
    State.Releases (fun n => (l.map (fun b => s.bins[b].listed.count (some n))).sum) s (l.foldl State.resetBin s) := by
  induction l generalizing s with
  | nil => exact State.Releases.of_same rfl rfl rfl
  | cons b l ih =>
      obtain ⟨apart, distinct⟩ := List.nodup_cons.mp distinct
      refine ((s.resetBin_releases b).trans (ih distinct (s.resetBin b))).congr (fun n => ?_)
      have rest : l.map (fun j => (s.resetBin b).bins[j].listed.count (some n)) = l.map (fun j => s.bins[j].listed.count (some n)) :=
        List.map_congr_left (fun j hj => by rw [State.resetBin_apart s apart hj])
      rw [rest, List.map_cons, List.sum_cons]

/-! ### The log entries of the closes (R171, R172, R175) -/

/-- An entry that LINE_RESET leaves when `n` labels are queued before its close. -/
def LogEntry.OfReset (stamp : Stamp) (n : Nat) (e : LogEntry) : Prop :=
  e.reason = .lineReset ∧ e.closed = stamp ∧ e.outcome = if n < 8 then .pending else .noLabel

theorem tail_append_of_length {α : Type} {x y : List α} (h : y.length < (x ++ y).length) : (x ++ y).tail = x.tail ++ y := by
  cases x with
  | nil => exact absurd h (lt_irrefl _)
  | cons a x => rfl

theorem State.logAfter_append {bin : Fin 16} {p : Pack} {r : CloseReason} {s : State} {x y : List LogEntry}
    (log : s.packLog = x ++ y) (short : y.length < 64) :
    ∃ x', s.logAfter bin p r = x' ++ (y ++ [s.entryOf bin p r]) := by
  unfold State.logAfter
  rw [log]
  split
  · next full => exact ⟨x.tail, by rw [tail_append_of_length (short.trans_le full), List.append_assoc]⟩
  · exact ⟨x, List.append_assoc _ _ _⟩

theorem State.closePack_stamp (bin : Fin 16) (p : Pack) (r : CloseReason) (s : State) : (s.closePack bin p r).stamp = s.stamp :=
  (State.closePack_releases bin p r s).stamp

theorem State.closePack_labels (bin : Fin 16) (p : Pack) (r : CloseReason) (s : State) : (s.closePack bin p r).labels.queue.length =
    if s.labels.queue.length < 8 then s.labels.queue.length + 1 else s.labels.queue.length := by
  obtain ⟨-, -, queue, -⟩ := State.closePack_collections bin p r s
  rw [queue]
  split
  · exact List.length_append
  · rfl

theorem State.resetBin_foldl_log (l : List (Fin 16)) (distinct : l.Nodup) (s : State) (x y : List LogEntry)
    (log : s.packLog = x ++ y) (short : y.length + l.length ≤ 64) :
    ∃ x' added, (l.foldl State.resetBin s).packLog = x' ++ (y ++ added)
      ∧ added.map (fun e => (e.bin, e.pack)) = l.filterMap (fun b => s.bins[b].pack.map (fun k => (b, k)))
      ∧ ∀ (j : Nat) (e : LogEntry), added[j]? = some e → e.OfReset s.stamp (s.labels.queue.length + j) := by
  induction l generalizing s x y with
  | nil => exact ⟨x, [], by rw [List.append_nil]; exact log, rfl, fun j e h => nomatch h⟩
  | cons b l ih =>
      obtain ⟨apart, distinct⟩ := List.nodup_cons.mp distinct
      have rest : l.filterMap (fun j => (s.resetBin b).bins[j].pack.map (fun k => (j, k)))
          = l.filterMap (fun j => s.bins[j].pack.map (fun k => (j, k))) :=
        List.filterMap_congr (fun j hj => by rw [State.resetBin_apart s apart hj])
      rw [List.length_cons] at short
      cases h : s.bins[b].pack with
      | none =>
          rw [State.resetBin_none h] at rest
          obtain ⟨x', added, log', listed, entries⟩ := ih distinct s x y log (by omega)
          refine ⟨x', added, ?_, ?_, entries⟩
          · rw [List.foldl_cons, State.resetBin_none h, log']
          · rw [listed, List.filterMap_cons_none (by rw [h]; rfl)]
      | some k =>
          obtain ⟨-, closed, -⟩ := State.closePack_collections b k .lineReset s
          obtain ⟨x1, written⟩ := State.logAfter_append (bin := b) (p := k) (r := .lineReset) log (by omega)
          obtain ⟨x', added, log', listed, entries⟩ := ih distinct (s.closePack b k .lineReset) x1 (y ++ [s.entryOf b k .lineReset])
            (closed.trans written) (by rw [List.length_append, List.length_singleton]; omega)
          rw [State.resetBin_some h] at rest
          refine ⟨x', s.entryOf b k .lineReset :: added, ?_, ?_, fun j e he => ?_⟩
          · rw [List.foldl_cons, State.resetBin_some h, log', List.append_assoc, List.singleton_append]
          · rw [List.map_cons, listed, rest, List.filterMap_cons_some (by rw [h]; rfl)]
            rfl
          · cases j with
            | zero =>
                cases he
                exact ⟨rfl, rfl, rfl⟩
            | succ j =>
                obtain ⟨reason, stamp, outcome⟩ := entries j e he
                refine ⟨reason, stamp.trans (State.closePack_stamp b k .lineReset s), outcome.trans ?_⟩
                rw [State.closePack_labels]
                refine if_congr ?_ rfl rfl
                split <;> omega

/-! ### The line-hold through the closes (R155) -/

theorem State.resetBin_foldl_hold (l : List (Fin 16)) (distinct : l.Nodup) (s : State) (queue : s.line.queue = [])
    (released : s.line.holdAsserted = false)
    (few : s.labels.queue.length + l.countP (fun b => s.bins[b].pack.isSome) < 7) :
    (l.foldl State.resetBin s).line.holdAsserted = false ∧ (l.foldl State.resetBin s).labels.queue.length < 7 := by
  induction l generalizing s with
  | nil => exact ⟨released, few⟩
  | cons b l ih =>
      obtain ⟨apart, distinct⟩ := List.nodup_cons.mp distinct
      have rest : l.countP (fun j => (s.resetBin b).bins[j].pack.isSome) = l.countP (fun j => s.bins[j].pack.isSome) :=
        List.countP_congr (fun j hj => by rw [State.resetBin_apart s apart hj])
      have track : (s.resetBin b).line.queue = s.line.queue := (congrArg Line.queue (State.resetBin_track s b) :)
      rw [List.foldl_cons]
      refine ih distinct (s.resetBin b) (track.trans queue) ?_ ?_
      · cases h : s.bins[b].pack with
        | none => rw [State.resetBin_none h, released]
        | some k =>
            rw [List.countP_cons_of_pos (by rw [h]; rfl)] at few
            rw [State.resetBin_some h, State.closePack_hold, released, queue]
            split
            · simp only [holdNext, List.length_nil]
              simp only [Bool.false_eq_true, if_false, Bool.or_eq_false_iff, decide_eq_false_iff_not]
              omega
            · rfl
      · rw [rest]
        cases h : s.bins[b].pack with
        | none =>
            rw [List.countP_cons_of_neg (by rw [h]; nofun)] at few
            rw [State.resetBin_none h]
            exact few
        | some k =>
            rw [List.countP_cons_of_pos (by rw [h]; rfl)] at few
            rw [State.resetBin_some h, State.closePack_labels]
            split <;> omega

end Sys2Proof.Machine
end

section
/-! PROOFS. The statement on LINE_RESET (chapter 8). -/

namespace Sys2Proof.Machine

/-! ### The boards go (R159 parts 1 to 3) -/

theorem State.discardBoards_packSide (s : State) : s.discardBoards.packSide = s.packSide := by
  unfold State.discardBoards
  rw [State.evaluateHold_packSide, State.releaseRefs_packSide, State.modLine_packSide]

theorem State.discardBoards_track (s : State) : s.discardBoards.track = s.line.discard.track := by
  unfold State.discardBoards
  rw [State.evaluateHold_track, State.releaseRefs_track]
  rfl

theorem State.discardBoards_labels (s : State) : s.discardBoards.labels.queue = s.labels.queue := by
  obtain ⟨-, labels, -⟩ := State.releaseRef_foldl_rest ((s.modLine Line.discard).freeOrder (s.line.queue.map Board.charge))
    (s.modLine Line.discard)
  unfold State.discardBoards
  rw [State.evaluateHold_labels]
  exact congrArg LabelUnit.queue labels

theorem State.discardBoards_hold (s : State) :
    s.discardBoards.line.holdAsserted = holdNext s.line.holdAsserted 0 s.labels.queue.length := by
  obtain ⟨line, labels, -⟩ := State.releaseRef_foldl_rest
    ((s.modLine Line.discard).freeOrder (s.line.queue.map Board.charge)) (s.modLine Line.discard)
  have released : ((s.modLine Line.discard).releaseRefs (s.line.queue.map Board.charge)).line = s.line.discard := line
  have kept : ((s.modLine Line.discard).releaseRefs (s.line.queue.map Board.charge)).labels = s.labels := labels
  unfold State.discardBoards
  rw [State.evaluateHold_asserted, released, kept]
  rfl

theorem count_charge (n : Nat) (l : List Board) :
    (l.map Board.charge).count (some n) = l.countP (fun b => b.charge == some n) := by
  rw [List.count, List.countP_map]
  rfl

theorem State.discardBoards_releases (s : State) :
    State.Releases (fun n => s.line.queue.countP (fun b => b.charge == some n)) s s.discardBoards := by
  have emptied : State.Releases (fun _ => 0) s (s.modLine Line.discard) := State.Releases.of_same rfl rfl rfl
  have released := State.releaseRefs_releases (s.line.queue.map Board.charge) (s.modLine Line.discard)
  obtain ⟨charges, reuse, -⟩ := State.evaluateHold_charges
    ((s.modLine Line.discard).releaseRefs (s.line.queue.map Board.charge))
  have stamp : s.discardBoards.stamp = ((s.modLine Line.discard).releaseRefs (s.line.queue.map Board.charge)).stamp :=
    congrArg (fun c : MillClock => (⟨c.value, c.isSet⟩ : Stamp)) (State.beside_tables (State.evaluateHold_beside _)).2.2.2.2.2
  have evaluated : State.Releases (fun _ => 0) ((s.modLine Line.discard).releaseRefs (s.line.queue.map Board.charge))
      s.discardBoards := State.Releases.of_same charges reuse stamp
  exact ((emptied.trans released).trans evaluated).congr (fun n => by rw [Nat.zero_add, Nat.add_zero, count_charge])

/-! ### The whole reset -/

/-- The part once the boards are gone and the open packs closed. -/
@[irreducible] def State.packsClosed (s : State) : State := (List.finRange 16).foldl State.resetBin s.discardBoards

theorem State.packsClosed_eq (s : State) : s.packsClosed = (List.finRange 16).foldl State.resetBin s.discardBoards := by
  unfold State.packsClosed
  rfl

/-- The part with the counters of the line and of the bins at 0. -/
def State.cleared (u : State) : State :=
  { u with
    bins := u.bins.map (fun b => { b with counter := 0 }), line := { u.line with counters := ⟨0, 0, 0, 0, 0, 0, 0⟩ } }

theorem State.cleared_eq (u : State) : State.modLine (fun l => { l with counters := {} })
    ({ u with bins := u.bins.map (fun b => { b with counter := 0 }) } : State) = u.cleared := rfl

theorem State.lineReset_eq (s : State) : s.lineReset = s.packsClosed.cleared.evaluateHold := by
  have reset : s.discardBoards.resetBins = { s.packsClosed with
      bins := s.packsClosed.bins.map (fun b => { b with counter := 0 }) } := by
    rw [State.packsClosed_eq]
    unfold State.resetBins
    rfl
  unfold State.lineReset
  rw [reset]
  exact congrArg State.evaluateHold s.packsClosed.cleared_eq

theorem State.lineReset_track (s : State) :
    s.lineReset.track = { s.line.discard.track with counters := ⟨0, 0, 0, 0, 0, 0, 0⟩ } := by
  have closed : s.packsClosed.line.track = s.line.discard.track := by
    rw [State.packsClosed_eq]
    exact (State.resetBin_foldl_track (List.finRange 16) s.discardBoards).trans s.discardBoards_track
  rw [State.lineReset_eq, State.evaluateHold_track]
  exact congrArg (fun l : Line => { l with counters := ⟨0, 0, 0, 0, 0, 0, 0⟩ }) closed

theorem State.lineReset_line (s : State) : s.lineReset.line = { s.line.discard with
    counters := ⟨0, 0, 0, 0, 0, 0, 0⟩, holdAsserted := s.lineReset.line.holdAsserted
    lostNotice := s.lineReset.line.lostNotice } :=
  Line.eq_of_track (m := { s.line.discard with counters := ⟨0, 0, 0, 0, 0, 0, 0⟩ }) s.lineReset_track

theorem State.discardBoards_bins (s : State) : s.discardBoards.bins = s.bins := congrArg Prod.fst s.discardBoards_packSide

theorem State.lineReset_bins (s : State) (b : Fin 16) : s.lineReset.bins[b] = { s.bins[b] with pack := none, counter := 0 } := by
  obtain ⟨-, -, -, bins, -⟩ := State.evaluateHold_charges s.packsClosed.cleared
  have closed : s.packsClosed.bins[b] = { s.discardBoards.bins[b] with pack := none } := by
    rw [State.packsClosed_eq]
    exact (State.resetBin_foldl_bins (List.finRange 16) s.discardBoards b).trans (if_pos (List.mem_finRange b))
  have mapped : s.lineReset.bins[b] = { s.packsClosed.bins[b] with counter := 0 } := by
    rw [State.lineReset_eq, bins]
    exact Vector.getElem_map _ _
  rw [mapped, closed, s.discardBoards_bins]

theorem State.lineReset_nextPack (s : State) : s.lineReset.nextPack = s.nextPack := by
  have evaluated : s.lineReset.nextPack = s.packsClosed.nextPack := by
    rw [State.lineReset_eq]
    exact congrArg (fun x => x.2.1) (State.evaluateHold_packSide s.packsClosed.cleared)
  rw [evaluated, State.packsClosed_eq, State.resetBin_foldl_nextPack]
  exact congrArg (fun x => x.2.1) s.discardBoards_packSide

theorem listed_sum (s : State) (n : Nat) : ((List.finRange 16).map (fun b => s.bins[b].listed.count (some n))).sum
    = (s.bins.toList.map (fun b => (b.pack.elim [] Pack.charges).count (some n))).sum := by
  have same : s.bins.toList = (List.finRange 16).map (fun b => s.bins[b]) := by
    refine List.ext_getElem (by simp) (fun i hi _ => by simp)
  rw [same, List.map_map]
  rfl

theorem State.lineReset_releases (s : State) : State.Releases (fun n => s.line.queue.countP (fun b => b.charge == some n)
    + (s.bins.toList.map (fun b => (b.pack.elim [] Pack.charges).count (some n))).sum) s s.lineReset := by
  have closed := State.resetBin_foldl_releases (List.finRange 16) (List.nodup_finRange 16) s.discardBoards
  obtain ⟨charges, reuse, -⟩ := State.evaluateHold_charges s.packsClosed.cleared
  obtain ⟨-, -, -, -, -, clock⟩ := State.beside_tables (State.evaluateHold_beside s.packsClosed.cleared)
  rw [← State.packsClosed_eq] at closed
  rw [← State.lineReset_eq] at charges reuse clock
  have stamp : s.lineReset.stamp = s.packsClosed.stamp := congrArg (fun c : MillClock => (⟨c.value, c.isSet⟩ : Stamp)) clock
  have evaluated : State.Releases (fun _ => 0) s.packsClosed s.lineReset := State.Releases.of_same charges reuse stamp
  refine ((s.discardBoards_releases.trans closed).trans evaluated).congr (fun n => ?_)
  rw [Nat.add_zero, ← listed_sum]
  simp only [s.discardBoards_bins]

theorem State.lineReset_log (s : State) : ∃ kept added, s.lineReset.packLog = kept ++ added
    ∧ added.map (fun e => (e.bin, e.pack)) = (List.finRange 16).filterMap (fun b => s.bins[b].pack.map (fun k => (b, k)))
    ∧ ∀ (j : Nat) (e : LogEntry), added[j]? = some e → e.OfReset s.stamp (s.labels.queue.length + j) := by
  obtain ⟨kept, added, log, listed, entries⟩ := State.resetBin_foldl_log (List.finRange 16) (List.nodup_finRange 16)
    s.discardBoards s.discardBoards.packLog [] (List.append_nil _).symm (by simp)
  have evaluated : s.lineReset.packLog = s.packsClosed.packLog := by
    rw [State.lineReset_eq]
    exact congrArg (fun x => x.2.2) (State.evaluateHold_packSide s.packsClosed.cleared)
  rw [← State.packsClosed_eq] at log
  rw [s.discardBoards_labels, s.discardBoards_releases.stamp] at entries
  refine ⟨kept, added, evaluated.trans log, listed.trans ?_, entries⟩
  simp only [s.discardBoards_bins]

theorem openPacks_eq (s : State) : (List.finRange 16).countP (fun b => s.bins[b].pack.isSome)
    = s.bins.toList.countP (fun b => b.pack.isSome) := by
  have same : s.bins.toList = (List.finRange 16).map (fun b => s.bins[b]) := by
    refine List.ext_getElem (by simp) (fun i hi _ => by simp)
  rw [same, List.countP_map]
  rfl

theorem State.lineReset_released {s : State} (labels : s.labels.queue.length ≤ 4)
    (few : s.labels.queue.length + s.bins.toList.countP (fun b => b.pack.isSome) < 7) :
    s.lineReset.line.holdAsserted = false := by
  have start : s.discardBoards.line.holdAsserted = false := by
    rw [s.discardBoards_hold]
    unfold holdNext
    cases s.line.holdAsserted <;> simp <;> omega
  have queue : s.discardBoards.line.queue = [] := (congrArg Line.queue s.discardBoards_track :)
  obtain ⟨hold, count⟩ := State.resetBin_foldl_hold (List.finRange 16) (List.nodup_finRange 16) s.discardBoards queue start
    (by simp only [s.discardBoards_bins]; rw [s.discardBoards_labels, openPacks_eq]; exact few)
  have track := State.resetBin_foldl_track (List.finRange 16) s.discardBoards
  rw [← State.packsClosed_eq] at hold count track
  have empty : s.packsClosed.line.queue = [] := (congrArg Line.queue track :).trans queue
  have next : s.lineReset.line.holdAsserted =
      holdNext s.packsClosed.line.holdAsserted s.packsClosed.line.queue.length s.packsClosed.labels.queue.length := by
    rw [State.lineReset_eq]
    exact State.evaluateHold_asserted s.packsClosed.cleared
  rw [next, hold, empty]
  simp [holdNext]
  omega

theorem State.beyond_tables {s t : State} (h : t.beyond = s.beyond) :
    t.sortList = s.sortList ∧ t.kilns = s.kilns ∧ t.clock = s.clock ∧ t.directory = s.directory :=
  ⟨(congrArg State.sortList h :), (congrArg State.kilns h :), (congrArg State.clock h :), (congrArg State.directory h :)⟩

/-- The line of a reset keeps what the boards do not carry. -/
theorem Line.reset_parts {m l : Line} {asserted lost : Bool} (h : m = { l.discard with
      counters := ⟨0, 0, 0, 0, 0, 0, 0⟩, holdAsserted := asserted, lostNotice := lost }) :
    (m.queue = [] ∧ m.lastLeading = none ∧ m.lastOpened = none ∧ m.expected = none ∧ m.marks = 0
      ∧ m.counters = ⟨0, 0, 0, 0, 0, 0, 0⟩)
    ∧ m.position = l.position ∧ m.direction = l.direction ∧ m.eyeBlocked = l.eyeBlocked ∧ m.nextSerial = l.nextSerial
    ∧ m.settings = l.settings ∧ m.patterns = l.patterns ∧ m.infeed = l.infeed := by
  subst h
  exact ⟨⟨rfl, rfl, rfl, rfl, rfl, rfl⟩, rfl, rfl, rfl, rfl, rfl, rfl, rfl⟩

/-- The boards given back in an order, the number of free choices taken being `n`. -/
def State.givenBack (s : State) (order : List (Option Nat)) (n : Nat) : State :=
  ({ order.foldl (fun u c => u.releaseRef c) (s.modLine Line.discard) with freeCount := n } : State).evaluateHold

theorem State.discardBoards_eq (s : State) :
    s.discardBoards = s.givenBack ((s.modLine Line.discard).freeOrder (s.line.queue.map Board.charge))
      ((((s.modLine Line.discard).freeOrder (s.line.queue.map Board.charge)).foldl (fun u c => u.releaseRef c)
        (s.modLine Line.discard)).freeCount + (s.line.queue.map Board.charge).length) := by
  unfold State.discardBoards State.givenBack State.releaseRefs State.drewFree
  rfl

theorem State.cleared_of_bins {u t : State} (h : t = u.cleared.evaluateHold) : t = ({ u with
    bins := t.bins, line := { u.line with counters := ⟨0, 0, 0, 0, 0, 0, 0⟩ } } : State).evaluateHold := by
  obtain ⟨-, -, -, bins, -⟩ := State.evaluateHold_charges u.cleared
  have same : t.bins = u.bins.map (fun b => { b with counter := 0 }) := (congrArg State.bins h).trans bins
  rw [same]
  exact h

theorem State.packsClosed_order (s : State) : ∃ (order : List (Option Nat)) (n : Nat),
    order.Perm (s.line.queue.map Board.charge)
    ∧ s.packsClosed = (List.finRange 16).foldl State.resetBin (s.givenBack order n) :=
  ⟨(s.modLine Line.discard).freeOrder (s.line.queue.map Board.charge),
    (((s.modLine Line.discard).freeOrder (s.line.queue.map Board.charge)).foldl (fun u c => u.releaseRef c)
      (s.modLine Line.discard)).freeCount + (s.line.queue.map Board.charge).length,
    State.freeOrder_perm (s.modLine Line.discard) _,
    s.packsClosed_eq.trans (congrArg ((List.finRange 16).foldl State.resetBin) s.discardBoards_eq)⟩

/-- Settles O46: the boards, the packs and the line-hold by their parts, the records by the references given back. -/
theorem lineResetDiscardsTheBoards : Obligations.LineResetDiscardsTheBoards := by
  unfold Obligations.LineResetDiscardsTheBoards
  refine fun s d p g a ready => ⟨fun h => exec_reply rfl ready (if_pos (fun none => h (List.length_eq_zero_iff.mp none))),
    fun h => ?_⟩
  have served : serveLineReset (requestFor .lineReset d p g a) s =
      okWith s.lineReset (be8 s.line.queue.length ++ be8 (s.bins.toList.countP (fun b => b.pack.isSome))) :=
    if_neg (not_not.mpr (List.length_eq_zero_iff.mpr h))
  obtain ⟨⟨queue, leading, opened, expected, marks, counters⟩, position, direction, eye, serial, settings, patterns, infeed⟩ :=
    Line.reset_parts s.lineReset_line
  obtain ⟨sorts, kilns, clock, directory⟩ := State.beyond_tables s.lineReset_beyond
  have releases := s.lineReset_releases
  have bounds := State.evaluateHold_inBounds s.packsClosed.cleared
  rw [← State.lineReset_eq] at bounds
  obtain ⟨order, n, perm, packs⟩ := s.packsClosed_order
  have resetBin : State.resetBin = fun u b => match u.bins[b].pack with
      | none => u
      | some k => u.closePack b k .lineReset := funext fun u => funext fun b => State.resetBin_eq u b
  refine ⟨s.lineReset, exec_reply rfl ready served, queue, leading, opened, expected, marks, counters, fun b => ?_,
    position, direction, eye, serial, settings, patterns, infeed, sorts, s.lineReset_nextPack, kilns, clock, directory,
    fun n i found => ⟨fun stays => (releases.open_ n i found stays).1, fun closes => releases.closes n i found closes⟩,
    releases.closed, releases.reuse, s.lineReset_log, ⟨order, n, perm, ?_⟩,
    fun labels few => State.lineReset_released labels few, fun asserted => ?_, fun many => ?_⟩
  · rw [s.lineReset_bins]
    exact ⟨rfl, rfl, rfl, rfl⟩
  · intro emptied discarded closed
    have same : closed = s.packsClosed :=
      (congrArg (fun f => (List.finRange 16).foldl f (s.givenBack order n)) resetBin).symm.trans packs.symm
    rw [same]
    exact State.cleared_of_bins s.lineReset_eq
  · have := bounds.2 asserted
    rw [queue] at this
    exact this.resolve_left (by simp)
  · by_contra released
    have := (bounds.1 (Bool.not_eq_true _ ▸ released)).2
    omega

end Sys2Proof.Machine
end

section
/-! PROOFS. The statement on the label layout, the values of its fields and the rendering (R178 to R181). -/

namespace Sys2Proof.Machine

/-! ### WRITE_LABEL_FIELD (R178) -/

theorem FieldKind.ofCode?_eq_some_iff (n : Nat) (x : FieldKind) : FieldKind.ofCode? n = some x ↔ n = x.code := by
  constructor
  · intro h
    unfold FieldKind.ofCode? at h
    split at h <;> cases h <;> rfl
  · rintro rfl
    cases x <;> rfl

theorem FieldKind.code_le (x : FieldKind) : x.code ≤ 15 ∧ (x.code = 15 ↔ x = .text) := by
  cases x <;> decide

theorem FieldKind.ofCode?_none {n : Nat} (h : 15 < n) : FieldKind.ofCode? n = none := by
  refine Option.eq_none_iff_forall_ne_some.mpr (fun x found => ?_)
  rw [FieldKind.ofCode?_eq_some_iff] at found
  have := x.code_le.1
  omega

/-- The text of a field can be printed. -/
def PrintableText (a : List Byte) : Prop := ∀ b ∈ a.drop 5, 0x20 ≤ b.toNat ∧ b.toNat ≤ 0x7E

theorem printableText_iff (a : List Byte) : PrintableText a ↔ (a.drop 5).all printable = true := by
  simp only [PrintableText, List.all_eq_true, printable, Bool.and_eq_true, decide_eq_true_eq]

theorem writeField_refused (i : Fin 16) (what : FieldKind) (a : List Byte) (s : State)
    (h : 7 < u8 a 2 ∨ 39 < u8 a 3 ∨ (what ≠ .text ∧ a.length ≠ 5) ∨ ¬ PrintableText a) :
    writeField i what a s = refuse s .badArgument := by
  unfold writeField
  dsimp only
  split
  · rfl
  next inside =>
  split
  · rfl
  next layout =>
  refine if_pos ?_
  rw [printableText_iff] at h
  have off := ((h.resolve_left (by omega)).resolve_left (by omega)).resolve_left layout
  rw [Bool.not_eq_true] at off
  rw [off]
  rfl

theorem writeField_writes (i : Fin 16) (what : FieldKind) (a : List Byte) (s : State) (row : u8 a 2 ≤ 7)
    (column : u8 a 3 ≤ 39) (layout : what ≠ .text → a.length = 5) (text : PrintableText a) :
    writeField i what a s = ⟨{ s with labels := { s.labels with
        layout := s.labels.layout.set i (some ⟨what, u8 a 2, u8 a 3, max 1 (min 40 (u8 a 4)), a.drop 5⟩) } },
      if max 1 (min 40 (u8 a 4)) = u8 a 4 then .ok else .okClamped, []⟩ := by
  unfold writeField
  dsimp only
  rw [if_neg (by omega), if_neg (fun h => h.2 (layout h.1)), (printableText_iff a).mp text]
  exact okClampedIf_eq (natField_clamped_eq_false 1 40 (u8 a 4)) _ _

theorem serveWriteLabelField_refused (r : Request) (s : State) (h : r.args.length < 5 ∨ 21 < r.args.length ∨ 15 < u8 r.args 0
    ∨ (15 < u8 r.args 1 ∧ u8 r.args 1 ≠ 255) ∨ (u8 r.args 1 = 255 ∧ r.args.length ≠ 5)
    ∨ (u8 r.args 1 ≤ 15 ∧ (7 < u8 r.args 2 ∨ 39 < u8 r.args 3 ∨ (u8 r.args 1 ≠ 15 ∧ r.args.length ≠ 5)
      ∨ ¬ PrintableText r.args))) : serveWriteLabelField r s = refuse s .badArgument := by
  unfold serveWriteLabelField
  split
  · rfl
  next long =>
  split
  · rfl
  next i hi =>
  have inside := (index?_eq_some_iff _ _).mp hi
  have wrong := ((h.resolve_left (by omega)).resolve_left (by omega)).resolve_left (by omega)
  split
  · next empties => exact if_neg (by omega)
  next field =>
  split
  · rfl
  next what found =>
  have code := (FieldKind.ofCode?_eq_some_iff _ _).mp found
  obtain ⟨low, isText⟩ := what.code_le
  obtain ⟨-, bad⟩ := (wrong.resolve_left (by omega)).resolve_left (by omega)
  refine writeField_refused i what r.args s (bad.imp_right (Or.imp_right (Or.imp_left ?_)))
  exact fun ⟨other, layout⟩ => ⟨fun text => other (code.trans (isText.mpr text)), layout⟩

theorem serveWriteLabelField_empties (r : Request) (s : State) (i : Fin 16) (layout : r.args.length = 5)
    (hi : u8 r.args 0 = i.val) (empty : u8 r.args 1 = 255) : serveWriteLabelField r s =
      okWith { s with labels := { s.labels with layout := s.labels.layout.set i none } } [] := by
  unfold serveWriteLabelField
  rw [if_neg (by omega), (index?_eq_some_iff _ i).mpr hi]
  dsimp only
  rw [if_pos empty, if_pos layout]
  rfl

theorem serveWriteLabelField_writes (r : Request) (s : State) (i : Fin 16) (what : FieldKind) (long : 5 ≤ r.args.length)
    (short : r.args.length ≤ 21) (hi : u8 r.args 0 = i.val) (code : u8 r.args 1 = what.code) :
    serveWriteLabelField r s = writeField i what r.args s := by
  have low := what.code_le.1
  unfold serveWriteLabelField
  rw [if_neg (by omega), (index?_eq_some_iff _ i).mpr hi]
  dsimp only
  rw [if_neg (by omega), (FieldKind.ofCode?_eq_some_iff _ _).mpr code]

/-! ### Numbers in decimal (R179) -/

/-- A number as the digits of the library, each a character's byte. -/
def decimalText (n : Nat) : List Byte := (Nat.toDigits 10 n).map (fun c => BitVec.ofNat 8 c.toNat)

theorem digitChar_byte {d : Nat} (h : d < 10) : BitVec.ofNat 8 d.digitChar.toNat = BitVec.ofNat 8 (48 + d) := by
  interval_cases d <;> rfl

theorem decimalText_digit {n : Nat} (h : n < 10) : decimalText n = [BitVec.ofNat 8 (48 + n)] := by
  unfold decimalText
  rw [Nat.toDigits_of_lt_base h, List.map_singleton, digitChar_byte h]

theorem decimalText_step {n : Nat} (h : 10 ≤ n) : decimalText n = decimalText (n / 10) ++ [BitVec.ofNat 8 (48 + n % 10)] := by
  unfold decimalText
  rw [Nat.toDigits_of_base_le (by decide) h, List.map_append, List.map_singleton, digitChar_byte (by omega)]

theorem digitsFrom_eq (fuel n : Nat) (tail : List Byte) (h : n < 10 ^ (fuel + 1)) :
    digitsFrom (fuel + 1) n tail = decimalText n ++ tail := by
  induction fuel generalizing n tail with
  | zero =>
      have small : n < 10 := by omega
      rw [decimalText_digit small, digitsFrom, if_pos (by omega), Nat.mod_eq_of_lt small]
      rfl
  | succ fuel ih =>
      rw [digitsFrom]
      split
      · next last =>
          have small : n < 10 := by omega
          rw [decimalText_digit small, Nat.mod_eq_of_lt small]
          rfl
      · rw [ih _ _ (by rw [pow_succ] at h; omega), decimalText_step (n := n) (by omega), List.append_assoc]
        rfl

theorem decimal_eq {n : Nat} (h : n < 10000000000) : decimal n = decimalText n :=
  (digitsFrom_eq 9 n [] h).trans (List.append_nil _)

theorem moistureText_eq {n : Nat} (h : n < 100000000000) :
    moistureText n = decimalText (n / 10) ++ [46#8] ++ decimalText (n % 10) := by
  unfold moistureText
  rw [decimal_eq (by omega), decimal_eq (by omega)]

theorem twoDigits_eq {n : Nat} (h : n < 10000000000) : twoDigits n = decimalText (n / 10) ++ decimalText (n % 10) := by
  unfold twoDigits
  rw [decimal_eq (by omega), decimal_eq (by omega)]

theorem stampText_eq {n : Nat} (h : n < 10000000000) : stampText n = [68#8] ++ decimalText (n / 1440) ++ [space]
    ++ (decimalText (n % 1440 / 60 / 10) ++ decimalText (n % 1440 / 60 % 10)) ++ [58#8]
    ++ (decimalText (n % 60 / 10) ++ decimalText (n % 60 % 10)) := by
  unfold stampText
  rw [decimal_eq (by omega), twoDigits_eq (by omega), twoDigits_eq (by omega)]

theorem rangeText_eq {x : Range} (low : x.low < 10000000000) (high : x.high < 10000000000) :
    rangeText x = if x.low = x.high then decimalText x.low else decimalText x.low ++ [dash] ++ decimalText x.high := by
  unfold rangeText
  rw [decimal_eq low, decimal_eq high]

theorem joinTexts_eq (l : List (List Byte)) : joinTexts l = List.intercalate [47#8] l := by
  fun_induction joinTexts l
  · rfl
  · simp [List.intercalate]
  · next ih => rw [ih, List.intercalate_cons_cons]

/-! ### The values of the fields (R179, R181) -/

theorem FieldValue.ofStamp_some (x : Stamp) : FieldValue.ofStamp (some x) = if x.isSet = true then
    .number ([68#8] ++ decimalText (x.value.toNat / 1440) ++ [space]
      ++ (decimalText (x.value.toNat % 1440 / 60 / 10) ++ decimalText (x.value.toNat % 1440 / 60 % 10)) ++ [58#8]
      ++ (decimalText (x.value.toNat % 60 / 10) ++ decimalText (x.value.toNat % 60 % 10))) else .absent := by
  have small := x.value.isLt
  unfold FieldValue.ofStamp
  dsimp only
  rw [stampText_eq (by omega)]

/-- Stamps neither of which is older show alike. -/
theorem FieldValue.ofStamp_congr {x y : Stamp} (hx : x.older y = false) (hy : y.older x = false) :
    FieldValue.ofStamp (some x) = FieldValue.ofStamp (some y) := by
  obtain ⟨vx, fx⟩ := x
  obtain ⟨vy, fy⟩ := y
  cases fx <;> cases fy
  case false.false => rfl
  case false.true => cases hx
  case true.false => cases hy
  case true.true =>
    have same : vx = vy := BitVec.eq_of_toNat_eq (Nat.le_antisymm (not_lt.mp (of_decide_eq_false hy))
      (not_lt.mp (of_decide_eq_false hx)))
    rw [same]

theorem laterStamp_foldl (l : List Stamp) (b : Stamp) : ∃ m, l.foldl laterStamp (some b) = some m ∧ m ∈ b :: l
    ∧ ∀ y ∈ b :: l, y.rank ≤ m.rank := by
  induction l generalizing b with
  | nil => exact ⟨b, rfl, List.mem_singleton_self b, fun y hy => List.mem_singleton.mp hy ▸ le_refl _⟩
  | cons x l ih =>
      by_cases older : b.older x = true
      · obtain ⟨m, folded, member, latest⟩ := ih x
        refine ⟨m, ?_, List.mem_cons_of_mem _ member, List.forall_mem_cons.mpr ⟨?_, latest⟩⟩
        · rw [List.foldl_cons, ← folded]
          exact congrArg (l.foldl laterStamp) (if_pos older)
        · exact ((Stamp.older_iff b x).mp older).le.trans (latest x List.mem_cons_self)
      · obtain ⟨m, folded, member, latest⟩ := ih b
        have below : x.rank ≤ b.rank := not_lt.mp (fun h => older ((Stamp.older_iff b x).mpr h))
        have ofB := latest b List.mem_cons_self
        refine ⟨m, ?_, ?_, List.forall_mem_cons.mpr ⟨ofB, List.forall_mem_cons.mpr ⟨below.trans ofB, fun y hy =>
          latest y (List.mem_cons_of_mem _ hy)⟩⟩⟩
        · rw [List.foldl_cons, ← folded]
          exact congrArg (l.foldl laterStamp) (if_neg older)
        · rcases List.mem_cons.mp member with same | later
          · exact same ▸ List.mem_cons_self
          · exact List.mem_cons_of_mem _ (List.mem_cons_of_mem _ later)

theorem ofStamp_latest {l : List Stamp} {x : Stamp} (member : x ∈ l) (latest : ∀ y ∈ l, x.older y = false) :
    FieldValue.ofStamp (l.foldl laterStamp none) = FieldValue.ofStamp (some x) := by
  cases l with
  | nil => cases member
  | cons b l =>
      obtain ⟨m, folded, among, top⟩ := laterStamp_foldl l b
      have start : (b :: l).foldl laterStamp none = some m := folded
      rw [start]
      exact FieldValue.ofStamp_congr
        (Bool.eq_false_iff.mpr (fun older => (top x member).not_gt ((Stamp.older_iff m x).mp older))) (latest m among)

theorem Pack.mean_lt {k : Pack} {n : Nat} (small : k.mcSum < n) : (k.mcSum + k.reads / 2) / k.reads < n + 1 := by
  rcases Nat.eq_zero_or_pos k.reads with none | some
  · rw [none, Nat.div_zero]
    omega
  · refine Nat.div_lt_of_lt_mul ?_
    have := Nat.le_mul_of_pos_left k.mcSum some
    have := Nat.le_mul_of_pos_left n some
    have step : k.reads * (k.mcSum + 1) ≤ k.reads * n := Nat.mul_le_mul_left _ small
    rw [Nat.mul_add] at *
    omega

theorem chargeText_eq {c : Option Nat} (small : ∀ n, c = some n → n < 10000000000) :
    chargeText c = c.elim [dash] decimalText := by
  cases c with
  | none => rfl
  | some n => exact decimal_eq (small n rfl)

theorem State.kilnText_eq (s : State) (c : Option Nat) : s.kilnText c =
    (c.bind (fun n => (s.charge? n).bind Charge.kiln)).elim [dash] (fun x => decimalText x.val) := by
  cases c with
  | none => rfl
  | some n =>
      unfold State.kilnText
      dsimp only [Option.bind_some]
      cases (s.charge? n).bind Charge.kiln with
      | none => rfl
      | some k => exact decimal_eq (by omega)

/-! ### The rendering (R180) -/

theorem FieldValue.fit_fits {w : Nat} {t : List Byte} (h : t.length ≤ w) :
    (FieldValue.number t).fit w = List.replicate (w - t.length) 0x20 ++ t := if_neg (not_lt.mpr h)

theorem FieldValue.fit_wide {w : Nat} {t : List Byte} (h : w < t.length) :
    (FieldValue.number t).fit w = List.replicate w 0x23 := if_pos h

theorem FieldValue.fit_text (w : Nat) (t : List Byte) :
    (FieldValue.text t).fit w = t.take w ++ List.replicate (w - t.length) 0x20 := rfl

theorem FieldValue.fit_length (v : FieldValue) (w : Nat) : (v.fit w).length = w := by
  cases v with
  | absent => exact List.length_replicate
  | number t =>
      rcases Nat.lt_or_ge w t.length with wide | fits
      · rw [FieldValue.fit_wide wide, List.length_replicate]
      · rw [FieldValue.fit_fits fits, List.length_append, List.length_replicate]
        omega
  | text t =>
      rw [FieldValue.fit_text, List.length_append, List.length_take, List.length_replicate]
      omega

theorem State.renderField_some (s : State) (k : Pack) (bin : Fin 16) (r : CloseReason) (rows : List (List Byte)) (f : LabelField) :
    s.renderField k bin r rows (some f) = rows.modify f.row (fun row => row.take f.column
      ++ (s.fieldValue k bin r f).fit (min f.width (40 - f.column)) ++ row.drop (f.column + min f.width (40 - f.column))) := by
  unfold State.renderField overwrite LabelField.effectiveWidth
  simp only [FieldValue.fit_length]

/-- Rows of forty characters. -/
def RowsOfForty (rows : List (List Byte)) : Prop := ∀ row ∈ rows, row.length = 40

theorem RowsOfForty.modify {rows : List (List Byte)} (h : RowsOfForty rows) (i : Nat) {f : List Byte → List Byte}
    (hf : ∀ row, row.length = 40 → (f row).length = 40) : RowsOfForty (rows.modify i f) := by
  intro row member
  obtain ⟨j, inside, rfl⟩ := List.getElem_of_mem member
  have index : j < rows.length := List.length_modify f rows i ▸ inside
  have length : rows[j].length = 40 := h _ (List.getElem_mem index)
  rw [List.getElem_modify]
  split
  · exact hf _ length
  · exact length

theorem State.renderField_rows {s : State} {k : Pack} {bin : Fin 16} {r : CloseReason} {rows : List (List Byte)}
    {e : Option LabelField} (inside : ∀ f, e = some f → f.column ≤ 39) (h : RowsOfForty rows) :
    RowsOfForty (s.renderField k bin r rows e) := by
  cases e with
  | none => exact h
  | some f =>
      have column := inside f rfl
      rw [State.renderField_some]
      refine h.modify _ (fun row length => ?_)
      simp only [List.length_append, List.length_take, List.length_drop, FieldValue.fit_length, length]
      omega

theorem State.render_forty {s : State} {k : Pack} {bin : Fin 16} {r : CloseReason}
    (inside : ∀ f, some f ∈ s.labels.layout.toList → f.column ≤ 39) : RowsOfForty (s.render k bin r).rows := by
  have folded (l : List (Option LabelField)) (entries : ∀ f, some f ∈ l → f.column ≤ 39) (rows : List (List Byte))
      (h : RowsOfForty rows) : RowsOfForty (l.foldl (s.renderField k bin r) rows) := by
    induction l generalizing rows with
    | nil => exact h
    | cons e l ih =>
        exact ih (fun f member => entries f (List.mem_cons_of_mem _ member)) _
          (State.renderField_rows (fun f same => entries f (same ▸ List.mem_cons_self)) h)
  refine folded _ inside _ (fun row member => ?_)
  rw [List.eq_of_mem_replicate member]
  exact List.length_replicate

/-- Settles O52: the write by its checks, the rendering by its rows, the values kind by kind. -/
theorem labelFieldsAreWrittenAndRendered : Obligations.LabelFieldsAreWrittenAndRendered := by
  unfold Obligations.LabelFieldsAreWrittenAndRendered
  refine ⟨fun s d p g a ready => ?write, ⟨fun s k bin reason inside => ⟨rfl, rfl, State.render_rows s k bin reason,
      State.render_forty (fun f member => (inside f member).2)⟩,
    fun w x => ⟨rfl, FieldValue.fit_fits, FieldValue.fit_wide, FieldValue.fit_text w x⟩⟩,
    fun s k bin reason what row column width text => ?values, fun s k bin reason => ?rows⟩
  case write =>
    refine ⟨fun h => exec_reply rfl ready (serveWriteLabelField_refused (requestFor .writeLabelField d p g a) s h),
      fun i long short hi => ⟨fun empty layout =>
        exec_reply rfl ready (serveWriteLabelField_empties (requestFor .writeLabelField d p g a) s i layout hi empty),
      fun what code low far layout text => exec_reply rfl ready ?_⟩⟩
    exact (serveWriteLabelField_writes (requestFor .writeLabelField d p g a) s i what long short hi code).trans
      (writeField_writes i what a s low far layout text)
  case values =>
    have wordSmall (x : Word) : x.toNat < 10000000000 := by
      have := x.isLt
      omega
    refine ⟨fun h => ?_, fun h => ?_, fun h none => ?_, fun x h some low high => ?_, fun h none => ?_,
      fun x h some low high => ?_, fun h small => ?_, fun h none => ?_, fun h some small => ?_, fun h none => ?_,
      fun m h some small => ?_, fun h none => ?_, fun m h some small => ?_, fun h => ?_, fun h small => ?_, fun h => ?_,
      fun h undried => ?_, fun x member h latest => ?_, fun h => ?_, fun h => ?_, fun h => ?_, fun h => ?_⟩ <;> subst h
    · exact congrArg FieldValue.number (decimal_eq (wordSmall _))
    · exact congrArg FieldValue.number (decimal_eq (by omega))
    · exact congrArg (fun o : Option Range => FieldValue.ofNumber (o.map rangeText)) none
    · exact (congrArg (fun o : Option Range => FieldValue.ofNumber (o.map rangeText)) some).trans
        (congrArg FieldValue.number (rangeText_eq low high))
    · exact congrArg (fun o : Option Range => FieldValue.ofNumber (o.map rangeText)) none
    · exact (congrArg (fun o : Option Range => FieldValue.ofNumber (o.map rangeText)) some).trans
        (congrArg FieldValue.number (rangeText_eq low high))
    · exact congrArg FieldValue.number (decimal_eq small)
    · exact congrArg (fun o : Option Nat => FieldValue.ofNumber (o.map moistureText)) (if_pos none)
    · exact (congrArg (fun o : Option Nat => FieldValue.ofNumber (o.map moistureText)) (if_neg some)).trans
        (congrArg FieldValue.number (moistureText_eq ((Pack.mean_lt small).trans (by decide))))
    · exact congrArg (fun o : Option Nat => FieldValue.ofNumber (o.map moistureText)) none
    · exact (congrArg (fun o : Option Nat => FieldValue.ofNumber (o.map moistureText)) some).trans
        (congrArg FieldValue.number (moistureText_eq (small.trans (by decide))))
    · exact congrArg (fun o : Option Nat => FieldValue.ofNumber (o.map moistureText)) none
    · exact (congrArg (fun o : Option Nat => FieldValue.ofNumber (o.map moistureText)) some).trans
        (congrArg FieldValue.number (moistureText_eq (small.trans (by decide))))
    · exact congrArg FieldValue.number (decimal_eq (by omega))
    · refine congrArg FieldValue.text ((joinTexts_eq _).trans (congrArg (List.intercalate [47#8]) ?_))
      exact List.map_congr_left (fun c member => chargeText_eq (fun n same => small n (same ▸ member)))
    · refine congrArg FieldValue.text ((joinTexts_eq _).trans (congrArg (List.intercalate [47#8]) ?_))
      exact List.map_congr_left (fun c _ => s.kilnText_eq c)
    · exact congrArg (fun l : List Stamp => FieldValue.ofStamp (l.foldl laterStamp none)) undried
    · exact (ofStamp_latest member latest).trans (FieldValue.ofStamp_some x)
    · exact FieldValue.ofStamp_some s.stamp
    · refine congrArg FieldValue.text ?_
      cases k.kind <;> rfl
    · refine congrArg FieldValue.text ?_
      cases reason <;> rfl
    · rfl
  case rows =>
    intro write
    have same : s.renderField k bin reason = write := by
      funext rows e
      cases e with
      | none => rfl
      | some f => exact s.renderField_some k bin reason rows f
    exact congrArg (fun f => s.labels.layout.toList.foldl f blankRows) same

end Sys2Proof.Machine
end

section
/-! PROOFS. The statement on the reads of records, lots, log entries and the line (R136 to R138, R161, R174, R175). -/

namespace Sys2Proof.Machine

/-! ### Bytes of values that may be absent -/

theorem beLength_eq (x : Option Nat) : beLength x = x.elim [0xFF, 0xFF] be16 := by cases x <;> rfl

theorem beByteOr255_getD (x : Option Nat) : beByteOr255 x = be8 (x.getD 255) := by cases x <;> rfl

theorem beTemp_getD (x : Option Int) : beTemp x = beI16 (x.getD (-32768)) := by cases x <;> rfl

theorem beStamp?_eq (x : Option Stamp) : beStamp? x =
    x.elim [0, 0, 0, 0, 0xFF] (fun t => be32 t.value.toNat ++ be8 (if t.isSet = true then 1 else 0)) := by
  cases x with
  | none => rfl
  | some t => exact congrArg (be32 t.value.toNat ++ ·) (beBool_eq t.isSet)

/-! ### READ_CHARGE (R136 to R138) -/

theorem ChargeState.code_eq (x : ChargeState) : x.code = if x = .loaded then 0 else if x = .drying then 1
    else if x = .dried then 2 else if x = .stored then 3 else if x = .planing then 4 else if x = .planed then 5 else 6 := by
  cases x <;> rfl

theorem EndReason.code_eq : EndReason.code = fun x => if x = .complete then 0 else if x = .stopped then 1 else 2 :=
  funext (fun x => by cases x <;> rfl)

theorem ExitReason.code_eq (x : ExitReason) : x.code = if x = .time then 0 else if x = .moisture then 1 else 2 := by
  cases x <;> rfl

theorem Charge.headerPage_eq (c : Charge) : c.headerPage = be16 c.number
    ++ be8 (if c.state = .loaded then 0 else if c.state = .drying then 1 else if c.state = .dried then 2
      else if c.state = .stored then 3 else if c.state = .planing then 4 else if c.state = .planed then 5 else 6)
    ++ (c.kiln.map Fin.val).elim [0xFF] be8 ++ be8 c.entry.val ++ be16 c.generation ++ be8 (if c.follow = true then 1 else 0)
    ++ be8 c.species.val ++ be16 c.mask.toNat
    ++ c.loadStamp.elim [0, 0, 0, 0, 0xFF] (fun t => be32 t.value.toNat ++ be8 (if t.isSet = true then 1 else 0))
    ++ c.startStamp.elim [0, 0, 0, 0, 0xFF] (fun t => be32 t.value.toNat ++ be8 (if t.isSet = true then 1 else 0))
    ++ c.dryEndStamp.elim [0, 0, 0, 0, 0xFF] (fun t => be32 t.value.toNat ++ be8 (if t.isSet = true then 1 else 0))
    ++ (c.endReason.map (fun x => if x = .complete then 0 else if x = .stopped then 1 else 2)).elim [0xFF] be8
    ++ c.finalEstimate.elim [0xFF, 0xFF] be16 ++ c.finalWettest.elim [0xFF, 0xFF] be16 ++ be16 c.pushes ++ be8 c.refs
    ++ be8 c.history.length
    ++ c.closedStamp.elim [0, 0, 0, 0, 0xFF] (fun t => be32 t.value.toNat ++ be8 (if t.isSet = true then 1 else 0)) := by
  unfold Charge.headerPage
  simp only [beByteOr255_eq, beMoisture_eq, beStamp?_eq, beBool_eq, ChargeState.code_eq, EndReason.code_eq]

theorem Charge.historySlot_eq (c : Charge) (i : Nat) : c.historySlot i =
    (c.history[i]?).elim [0xFF, 0, 0, 0, 0, 0] (fun h => be8 h.index
      ++ be8 (if h.reason = .time then 0 else if h.reason = .moisture then 1 else 2) ++ be16 h.elapsed
      ++ h.estimate.elim [0xFF, 0xFF] be16) := by
  unfold Charge.historySlot
  cases c.history[i]? with
  | none => rfl
  | some h => simp only [ExitReason.code_eq, beMoisture_eq, Option.elim_some]

theorem serveReadCharge_refused (r : Request) (s : State) (h : r.args.length ≠ 3 ∨ u16 r.args 0 = 0 ∨ 4 < u8 r.args 2) :
    serveReadCharge r s = refuse s .badArgument := if_pos h

theorem serveReadCharge_shows (r : Request) (s : State) (c : Charge) (layout : r.args.length = 3) (named : u16 r.args 0 ≠ 0)
    (page : u8 r.args 2 ≤ 4) (h : s.readRecord (u16 r.args 0) = some c) :
    serveReadCharge r s = okWith s (c.page (u8 r.args 2)) := by
  unfold serveReadCharge
  rw [if_neg (by omega), h]

theorem serveReadCharge_absent (r : Request) (s : State) (layout : r.args.length = 3) (named : u16 r.args 0 ≠ 0)
    (page : u8 r.args 2 ≤ 4) (h : s.readRecord (u16 r.args 0) = none) : serveReadCharge r s = refuse s .notFound := by
  unfold serveReadCharge
  rw [if_neg (by omega), h]

theorem State.readRecord_live {s : State} {n : Nat} {c : Charge} (h : s.charge? n = some c) : s.readRecord n = some c := by
  obtain ⟨i, live, same⟩ := (State.charge?_eq_some_iff s n c).mp h
  unfold State.readRecord
  rw [live]
  exact congrArg some same

theorem State.readRecord_closed {s : State} {n : Nat} (h : s.charge? n = none) :
    s.readRecord n = (s.reuse.foldl (s.newerRecord n) none).map (fun i => s.charges[i]) := by
  have dead : s.findLive n = none := Option.map_eq_none_iff.mp h
  unfold State.readRecord
  rw [dead]

theorem State.newerRecord_other {s : State} {n : Nat} {i : Fin 48} (best : Option (Fin 48)) (h : s.charges[i].number ≠ n) :
    s.newerRecord n best i = best := if_pos h

theorem State.newerRecord_older {s : State} {n : Nat} {i b : Fin 48} {x y : Stamp} (hb : s.charges[b].closedStamp = some x)
    (hi : s.charges[i].closedStamp = some y) (older : y.older x = true) : s.newerRecord n (some b) i = some b := by
  unfold State.newerRecord
  split
  · rfl
  · dsimp only
    rw [hi, hb]
    exact if_pos older

theorem State.newerRecord_newer {s : State} {n : Nat} {i b : Fin 48} {x y : Stamp} (number : s.charges[i].number = n)
    (hb : s.charges[b].closedStamp = some y) (hi : s.charges[i].closedStamp = some x) (newer : x.older y = false) :
    s.newerRecord n (some b) i = some i := by
  unfold State.newerRecord
  rw [if_neg (not_not.mpr number)]
  dsimp only
  rw [hi, hb]
  exact if_neg (Bool.eq_false_iff.mp newer)

theorem State.newerRecord_first {s : State} {n : Nat} {i : Fin 48} (number : s.charges[i].number = n) :
    s.newerRecord n none i = some i := if_neg (not_not.mpr number)

theorem State.newerRecord_none {s : State} {n : Nat} {l : List (Fin 48)} (h : ∀ i ∈ l, s.charges[i].number ≠ n) :
    l.foldl (s.newerRecord n) none = none := by
  induction l with
  | nil => rfl
  | cons i l ih =>
      rw [List.foldl_cons, State.newerRecord_other none (h i List.mem_cons_self)]
      exact ih (fun j member => h j (List.mem_cons_of_mem _ member))

/-- The record taken so far is one of those passed and has the number. -/
theorem State.newerRecord_among {s : State} {n : Nat} (l : List (Fin 48)) (b : Fin 48)
    (h : l.foldl (s.newerRecord n) none = some b) : b ∈ l ∧ s.charges[b].number = n := by
  induction l using List.reverseRecOn generalizing b with
  | nil => cases h
  | append_singleton l i ih =>
      rw [List.foldl_append] at h
      have step : s.newerRecord n (l.foldl (s.newerRecord n) none) i = some b := h
      have passed (h : l.foldl (s.newerRecord n) none = some b) : b ∈ l ++ [i] ∧ s.charges[b].number = n :=
        (ih b h).imp_left (List.mem_append_left _)
      generalize found : l.foldl (s.newerRecord n) none = best at step
      unfold State.newerRecord at step
      split at step
      · exact passed (found.trans step)
      · next number =>
          have taken (h : some i = some b) : b ∈ l ++ [i] ∧ s.charges[b].number = n := by
            cases h
            exact ⟨List.mem_append_right _ (List.mem_singleton_self _), not_not.mp number⟩
          split at step
          · exact taken step
          · split at step
            · split at step
              · exact passed (found.trans step)
              · exact taken step
            · exact passed (found.trans step)

theorem State.newerRecord_kept {s : State} {n : Nat} {l : List (Fin 48)} {i : Fin 48} {x : Stamp}
    (stamp : s.charges[i].closedStamp = some x)
    (h : ∀ j ∈ l, s.charges[j].number = n → ∃ y, s.charges[j].closedStamp = some y ∧ y.older x = true) :
    l.foldl (s.newerRecord n) (some i) = some i := by
  induction l with
  | nil => rfl
  | cons j l ih =>
      have kept : s.newerRecord n (some i) j = some i := by
        by_cases number : s.charges[j].number = n
        · obtain ⟨y, closed, older⟩ := h j List.mem_cons_self number
          exact State.newerRecord_older stamp closed older
        · exact State.newerRecord_other _ number
      rw [List.foldl_cons, kept]
      exact ih (fun k member => h k (List.mem_cons_of_mem _ member))

theorem State.newerRecord_newest {s : State} {n : Nat} {before after : List (Fin 48)} {i : Fin 48} {x : Stamp}
    (number : s.charges[i].number = n) (stamp : s.charges[i].closedStamp = some x)
    (hb : ∀ j ∈ before, s.charges[j].number = n → ∃ y, s.charges[j].closedStamp = some y ∧ x.older y = false)
    (ha : ∀ j ∈ after, s.charges[j].number = n → ∃ y, s.charges[j].closedStamp = some y ∧ y.older x = true) :
    (before ++ i :: after).foldl (s.newerRecord n) none = some i := by
  have taken : s.newerRecord n (before.foldl (s.newerRecord n) none) i = some i := by
    cases found : before.foldl (s.newerRecord n) none with
    | none => exact State.newerRecord_first number
    | some b =>
        obtain ⟨member, same⟩ := State.newerRecord_among before b found
        obtain ⟨y, closed, newer⟩ := hb b member same
        exact State.newerRecord_newer number closed stamp newer
  rw [List.foldl_append, List.foldl_cons, taken]
  exact State.newerRecord_kept stamp ha

/-! ### READ_LOT and READ_PACK_LOG (R174, R175) -/

theorem serveReadLot_refused (r : Request) (s : State)
    (h : r.args.length ≠ 1 ∧ r.args.length ≠ 4 ∨ (r.args.length = 1 ∧ 31 < u8 r.args 0)) :
    serveReadLot r s = refuse s .badArgument := by
  unfold serveReadLot
  rw [if_neg (by omega)]
  split
  · exact if_pos (by omega)
  · rfl

theorem serveReadLot_id (r : Request) (s : State) (layout : r.args.length = 4) : serveReadLot r s =
    (s.lots.find? (fun l => l.id == BitVec.ofNat 32 (u32 r.args 0))).elim (refuse s .notFound)
      (fun l => okWith s (l.bytes s.lots.length)) := by
  unfold serveReadLot
  rw [if_pos layout]
  cases s.lots.find? (fun l => l.id == BitVec.ofNat 32 (u32 r.args 0)) <;> rfl

theorem serveReadLot_position (r : Request) (s : State) (layout : r.args.length = 1) (inside : u8 r.args 0 ≤ 31) :
    serveReadLot r s = (s.lots[u8 r.args 0]?).elim (refuse s .notFound) (fun l => okWith s (l.bytes s.lots.length)) := by
  unfold serveReadLot
  rw [if_neg (by omega), if_pos layout, if_neg (by omega)]
  cases s.lots[u8 r.args 0]? <;> rfl

theorem lotHas_iff (l : Lot) (x : List Byte) : (l.id == BitVec.ofNat 32 (u32 x 0)) = true ↔ l.id.toNat = u32 x 0 := by
  rw [beq_iff_eq, word_eq_iff]

theorem find_lot_none {lots : List Lot} {x : List Byte} (h : ∀ l ∈ lots, l.id.toNat ≠ u32 x 0) :
    lots.find? (fun l => l.id == BitVec.ofNat 32 (u32 x 0)) = none :=
  List.find?_eq_none.mpr (fun l member has => h l member ((lotHas_iff l x).mp has))

theorem find_lot_first {before after : List Lot} {l : Lot} {x : List Byte} (has : l.id.toNat = u32 x 0)
    (h : ∀ y ∈ before, y.id.toNat ≠ u32 x 0) :
    (before ++ l :: after).find? (fun l => l.id == BitVec.ofNat 32 (u32 x 0)) = some l := by
  rw [List.find?_append, find_lot_none h, Option.none_or]
  exact List.find?_cons_of_pos ((lotHas_iff l x).mpr has)

theorem Lot.bytes_eq (l : Lot) (n : Nat) : l.bytes n = be8 n ++ be32 l.id.toNat ++ be8 l.species.val ++ be16 l.count
    ++ l.mean.elim [0xFF, 0xFF] be16 ++ be8 l.origins.length
    ++ (List.range 4).flatMap (fun i => be16 (l.origins.getD i 0)) := by
  unfold Lot.bytes numberSlots
  rw [beMoisture_eq]

theorem chargeSlots_eq (n : Nat) (l : List (Option Nat)) : numberSlots n (l.map (fun c => c.getD 0)) =
    (List.range n).flatMap (fun i => be16 ((l.getD i none).getD 0)) := by
  unfold numberSlots
  congr 1
  funext i
  rw [List.getD_eq_getElem?_getD, List.getD_eq_getElem?_getD, List.getElem?_map]
  cases l[i]? <;> rfl

theorem LogEntry.bytes_eq (e : LogEntry) (n : Nat) : e.bytes n = be8 n ++ be32 e.pack.number.toNat ++ be8 e.bin.val
    ++ be8 e.pack.kind.code ++ be8 e.reason.code ++ be8 e.outcome.code ++ be8 (if e.noLot = true then 1 else 0)
    ++ be16 e.pack.count ++ be16 e.pack.target ++ be32 e.pack.opened.value.toNat ++ beBool e.pack.opened.isSet
    ++ be32 e.closed.value.toNat ++ beBool e.closed.isSet
    ++ (if e.pack.reads = 0 then none else some ((e.pack.mcSum + e.pack.reads / 2) / e.pack.reads)).elim [0xFF, 0xFF] be16
    ++ e.pack.mcMin.elim [0xFF, 0xFF] be16 ++ e.pack.mcMax.elim [0xFF, 0xFF] be16 ++ be16 e.pack.reads
    ++ be8 ((e.pack.grades.map Range.low).getD 255) ++ be8 ((e.pack.grades.map Range.high).getD 255)
    ++ (e.pack.lengths.map Range.low).elim [0xFF, 0xFF] be16 ++ (e.pack.lengths.map Range.high).elim [0xFF, 0xFF] be16
    ++ be8 e.pack.charges.length ++ (List.range 4).flatMap (fun i => be16 ((e.pack.charges.getD i none).getD 0)) := by
  unfold LogEntry.bytes gradeBytes lengthBytes beStamp Pack.mean
  simp only [beMoisture_eq, beLength_eq, beByteOr255_getD, chargeSlots_eq, beBool_eq e.noLot, List.append_assoc]

theorem serveReadPackLog_refused (r : Request) (s : State) (h : r.args.length ≠ 1 ∨ 63 < u8 r.args 0) :
    serveReadPackLog r s = refuse s .badArgument := by
  unfold serveReadPackLog
  split
  · rfl
  · next layout => exact if_pos (h.resolve_left layout)

theorem serveReadPackLog_entry (r : Request) (s : State) (layout : r.args.length = 1) (inside : u8 r.args 0 ≤ 63) :
    serveReadPackLog r s = (s.packLog.reverse[u8 r.args 0]?).elim (refuse s .notFound)
      (fun e => okWith s (e.bytes s.packLog.length)) := by
  unfold serveReadPackLog
  rw [if_neg (not_not.mpr layout), if_neg (not_lt.mpr inside)]
  cases s.packLog.reverse[u8 r.args 0]? <;> rfl

/-! ### READ_LINE (R161) -/

theorem serveReadLine_refused (r : Request) (s : State)
    (h : r.args.length ≠ 2 ∨ 2 < u8 r.args 0 ∨ (u8 r.args 0 = 2 ∧ 63 < u8 r.args 1)) :
    serveReadLine r s = refuse s .badArgument := by
  unfold serveReadLine
  split
  · rfl
  next layout =>
  split
  · omega
  · omega
  · exact if_pos (by omega)
  · rfl

theorem serveReadLine_page0 (r : Request) (s : State) (layout : r.args.length = 2) (page : u8 r.args 0 = 0) :
    serveReadLine r s = okWith s s.linePage := by
  unfold serveReadLine
  rw [if_neg (not_not.mpr layout), page]
  rfl

theorem serveReadLine_page1 (r : Request) (s : State) (layout : r.args.length = 2) (page : u8 r.args 0 = 1) :
    serveReadLine r s = okWith s s.line.settings.bytes := by
  unfold serveReadLine
  rw [if_neg (not_not.mpr layout), page]
  rfl

theorem serveReadLine_board (r : Request) (s : State) (layout : r.args.length = 2) (page : u8 r.args 0 = 2)
    (inside : u8 r.args 1 ≤ 63) : serveReadLine r s =
      (s.line.queue[u8 r.args 1]?).elim (refuse s .notFound) (fun b => okWith s b.bytes) := by
  unfold serveReadLine
  rw [if_neg (not_not.mpr layout), page]
  refine (if_neg (not_lt.mpr inside)).trans ?_
  cases s.line.queue[u8 r.args 1]? <;> rfl

theorem Direction.code_eq (x : Direction) : x.code = if x = .backward then 1 else 0 := by cases x <;> rfl

theorem State.linePage_eq (s : State) : s.linePage = be24 s.line.position.toNat
    ++ be8 (if s.line.direction = .backward then 1 else 0) ++ beBool s.line.eyeBlocked
    ++ be8 s.line.queue.length ++ beBool s.line.expected.isSome ++ [s.line.expected.getD 0] ++ be16 (s.line.infeed.getD 0)
    ++ be8 ((if s.line.holdAsserted = true then 1 else 0) + (if s.line.lostNotice = true then 2 else 0))
    ++ be8 s.line.marks.toNat ++ be8 s.labels.queue.length ++ be32 s.clock.value.toNat ++ beBool s.clock.isSet
    ++ be16 s.line.nextSerial.toNat := by
  unfold State.linePage
  rw [← Direction.code_eq]

theorem zoneBytes_eq (z : Option Corrected) : zoneBytes z =
    (z.map Corrected.value).elim [0xFF, 0xFF] be16 ++ be8 ((z.map (fun c => c.flag.code)).getD 0) := by
  cases z <;> rfl

theorem Board.zoneSlot_length (b : Board) (i : Nat) : (b.zoneSlot i).length = 3 := by
  unfold Board.zoneSlot
  split
  · next z _ => cases z <;> rfl
  · rfl

/-- Slots of one length, read back by their place. -/
theorem slot_of_flatMap (f : Nat → List Byte) (m n i : Nat) (length : ∀ j, (f j).length = m) (h : i < n) :
    (((List.range n).flatMap f).drop (m * i)).take m = f i := by
  induction n with
  | zero => omega
  | succ n ih =>
      have total : ((List.range n).flatMap f).length = m * n := by
        rw [List.length_flatMap]
        simp [length, Nat.mul_comm]
      rw [List.range_succ, List.flatMap_append, List.flatMap_singleton]
      rcases Nat.lt_succ_iff_lt_or_eq.mp h with earlier | rfl
      · have room : m * i + m ≤ m * n := by
          rw [← Nat.mul_succ]
          exact Nat.mul_le_mul_left m earlier
        rw [List.drop_append_of_le_length (by omega), List.take_append_of_le_length (by rw [List.length_drop]; omega)]
        exact ih earlier
      · rw [List.drop_append, total, Nat.sub_self, List.drop_zero, List.drop_of_length_le total.le, List.nil_append,
          List.take_of_length_le (length i).le]

theorem Board.bytes_eq (b : Board) : b.bytes = be16 b.serial.toNat ++ be16 (b.charge.getD 0) ++ be24 b.leading.toNat
    ++ be8 b.state.code ++ be8 ((b.cls.map MoistureClass.code).getD 255) ++ be8 ((b.pattern.map FixedPattern.index).getD 255)
    ++ be8 ((if b.split = true then 1 else 0) + (if b.lateRead = true then 2 else 0) + (if b.long = true then 4 else 0)
      + (if b.clamped = true then 8 else 0) + (if b.overRange = true then 16 else 0))
    ++ [(b.scan.map ScanData.sequence).getD 0] ++ be8 ((b.scan.map ScanData.grade).getD 255)
    ++ (b.scan.map ScanData.length).elim [0xFF, 0xFF] be16 ++ beI16 ((b.scan.map ScanData.headTemp).getD (-32768))
    ++ b.mc.elim [0xFF, 0xFF] be16 ++ b.mean.elim [0xFF, 0xFF] be16 ++ be8 b.zones.length
    ++ (List.range 8).flatMap b.zoneSlot := by
  unfold Board.bytes Board.flagByte
  simp only [beByteOr255_getD, beLength_eq, beTemp_getD, beMoisture_eq]

/-- Settles O51: each read by its record, its lot, its entry or its board. -/
theorem readsShowTheRecords : Obligations.ReadsShowTheRecords := by
  unfold Obligations.ReadsShowTheRecords
  refine fun s d p g a => ⟨fun ready => ?charge, fun ready => ?lot, fun ready => ?log, fun ready => ?line⟩
  case charge =>
    have shown (c : Charge) (layout : a.length = 3) (named : u16 a 0 ≠ 0) (page : u8 a 2 ≤ 4)
        (record : s.readRecord (u16 a 0) = some c) :
        exec (.readCharge d p g a) s = .next (answer (requestFor .readCharge d p g a) ⟨s, .ok, c.page (u8 a 2)⟩) :=
      exec_reply rfl ready (serveReadCharge_shows (requestFor .readCharge d p g a) s c layout named page record)
    have pages (c : Charge) := congrArg₂ (fun header steps : List Byte => if u8 a 2 = 0 then header else
      if u8 a 2 ≤ 3 then steps else c.planerPage) c.headerPage_eq
      (congrArg (fun f => be8 c.history.length ++ (List.range 8).flatMap (fun j => f (8 * (u8 a 2 - 1) + j)))
        (funext c.historySlot_eq))
    refine ⟨fun h => exec_reply rfl ready (serveReadCharge_refused (requestFor .readCharge d p g a) s h),
      fun layout named page => ⟨fun c live => ?_, fun dead none => ?_, fun before i after x dead order number stamp hb ha => ?_⟩⟩
    · exact (shown c layout named page (State.readRecord_live live)).trans
        (congrArg (fun bytes => Host.Outcome.next (answer _ ⟨s, .ok, bytes⟩)) (pages c))
    · refine exec_reply rfl ready (serveReadCharge_absent (requestFor .readCharge d p g a) s layout named page ?_)
      exact (State.readRecord_closed dead).trans (congrArg (Option.map _) (State.newerRecord_none none))
    · have record : s.readRecord (u16 a 0) = some s.charges[i] := by
        rw [State.readRecord_closed dead, order, State.newerRecord_newest number stamp hb ha]
        rfl
      exact (shown _ layout named page record).trans
        (congrArg (fun bytes => Host.Outcome.next (answer _ ⟨s, .ok, bytes⟩)) (pages s.charges[i]))
  case lot =>
    have byId (layout : a.length = 4) := serveReadLot_id (requestFor .readLot d p g a) s layout
    have byPosition (layout : a.length = 1) := serveReadLot_position (requestFor .readLot d p g a) s layout
    refine ⟨fun h => exec_reply rfl ready (serveReadLot_refused (requestFor .readLot d p g a) s h), fun layout none => ?_,
      fun before l after layout order has none =>
        exec_reply rfl ready (Eq.trans ?_ (congrArg (okWith s) (l.bytes_eq s.lots.length))),
      fun layout inside none => ?_, fun l layout inside found =>
        exec_reply rfl ready (Eq.trans ?_ (congrArg (okWith s) (l.bytes_eq s.lots.length)))⟩
    · refine exec_reply rfl ready ((byId layout).trans ?_)
      exact congrArg (fun o : Option Lot => o.elim (refuse s .notFound) (fun l => okWith s (l.bytes s.lots.length)))
        (find_lot_none none)
    · refine (byId layout).trans ?_
      exact congrArg (fun o : Option Lot => o.elim (refuse s .notFound) (fun l => okWith s (l.bytes s.lots.length)))
        ((congrArg (List.find? _) order).trans (find_lot_first has none))
    · refine exec_reply rfl ready ((byPosition layout inside).trans ?_)
      exact congrArg (fun o : Option Lot => o.elim (refuse s .notFound) (fun l => okWith s (l.bytes s.lots.length))) none
    · exact (byPosition layout inside).trans
        (congrArg (fun o : Option Lot => o.elim (refuse s .notFound) (fun l => okWith s (l.bytes s.lots.length))) found)
  case log =>
    have entry (layout : a.length = 1) := serveReadPackLog_entry (requestFor .readPackLog d p g a) s layout
    refine ⟨fun h => exec_reply rfl ready (serveReadPackLog_refused (requestFor .readPackLog d p g a) s h),
      fun layout inside short => ?_, fun e layout inside found => ?_⟩
    · have none : s.packLog.reverse[u8 a 0]? = none := List.getElem?_eq_none (by rw [List.length_reverse]; exact short)
      refine exec_reply rfl ready ((entry layout inside).trans ?_)
      exact congrArg (fun o : Option LogEntry => o.elim (refuse s .notFound) (fun e => okWith s (e.bytes s.packLog.length))) none
    · refine exec_reply rfl ready ((entry layout inside).trans ?_)
      exact (congrArg (fun o : Option LogEntry => o.elim (refuse s .notFound) (fun e => okWith s (e.bytes s.packLog.length)))
        found).trans (congrArg (okWith s) (e.bytes_eq s.packLog.length))
  case line =>
    have board (layout : a.length = 2) := serveReadLine_board (requestFor .readLine d p g a) s layout
    refine ⟨fun h => exec_reply rfl ready (serveReadLine_refused (requestFor .readLine d p g a) s h),
      fun layout page => exec_reply rfl ready ((serveReadLine_page0 (requestFor .readLine d p g a) s layout page).trans
        (congrArg (okWith s) s.linePage_eq)),
      fun layout page => exec_reply rfl ready (serveReadLine_page1 (requestFor .readLine d p g a) s layout page),
      fun layout page inside none => exec_reply rfl ready ((board layout page inside).trans ?_),
      fun b layout page inside found => ⟨(List.range 8).flatMap b.zoneSlot, ?_, ?_, fun i z low zone => ?_, fun i low far => ?_⟩⟩
    · exact congrArg (fun o : Option Board => o.elim (refuse s .notFound) (fun b => okWith s b.bytes)) none
    · rw [List.length_flatMap]
      simp [Board.zoneSlot_length]
    · refine exec_reply rfl ready ((board layout page inside).trans ?_)
      exact (congrArg (fun o : Option Board => o.elim (refuse s .notFound) (fun b => okWith s b.bytes)) found).trans
        (congrArg (okWith s) b.bytes_eq)
    · rw [slot_of_flatMap b.zoneSlot 3 8 i b.zoneSlot_length low]
      unfold Board.zoneSlot
      rw [zone]
      exact zoneBytes_eq z
    · rw [slot_of_flatMap b.zoneSlot 3 8 i b.zoneSlot_length low]
      unfold Board.zoneSlot
      rw [List.getElem?_eq_none far]
      rfl

end Sys2Proof.Machine
end

section
/-! PROOFS. The statements on reception (R1 to R3, R5, R6, R9, R10). -/

namespace Sys2Proof.Machine

/-! ### Ports -/

theorem otherPort_ne (p : PortId) : otherPort p ≠ p := by cases p <;> decide

theorem State.modPort_modPort (p : PortId) (f g : Port → Port) (s : State) :
    (s.modPort p f).modPort p g = s.modPort p (fun q => g (f q)) := by cases p <;> rfl

/-! ### The layout of a telegram and its check (R2, R3) -/

theorem telegram_eq (dest source kind sequence : Byte) (x : List Byte) : telegram dest source kind sequence x =
    [0xA5, dest, source, kind, sequence, BitVec.ofNat 8 x.length] ++ x
      ++ be16 (crc16 ([dest, source, kind, sequence, BitVec.ofNat 8 x.length] ++ x)).toNat := rfl

theorem telegram_payloadLength (dest source kind sequence : Byte) {x : List Byte} (h : x.length ≤ 56) :
    payloadLength (telegram dest source kind sequence x) = x.length :=
  (BitVec.toNat_ofNat x.length 8).trans (Nat.mod_eq_of_lt (by omega))

theorem telegram_formatOk (dest source kind sequence : Byte) {x : List Byte} (h : x.length ≤ 56) (hs : source ≠ 255) :
    formatOk (telegram dest source kind sequence x) = true := by
  have small : source.toNat ≤ 254 := by
    have := source.isLt
    have : source.toNat ≠ 255 := fun same => hs (BitVec.eq_of_toNat_eq same)
    omega
  have length : (telegram dest source kind sequence x).length = 8 + x.length := by
    rw [telegram_eq]
    simp [be16]
    omega
  unfold formatOk
  rw [telegram_payloadLength _ _ _ _ h, length]
  simp only [Bool.and_eq_true, decide_eq_true_eq, beq_iff_eq]
  exact ⟨⟨h, small⟩, trivial⟩

theorem u16_be16 {n : Nat} (h : n < 65536) : u16 (be16 n) 0 = n := by
  have parts : u16 (be16 n) 0 = (BitVec.ofNat 8 (n / 256)).toNat * 256 + (BitVec.ofNat 8 n).toNat := rfl
  rw [parts, BitVec.toNat_ofNat, BitVec.toNat_ofNat]
  omega

theorem u8_append_right (a b : List Byte) (i : Nat) : u8 (a ++ b) (a.length + i) = u8 b i := by
  unfold u8
  rw [List.getD_append_right _ _ _ _ (by omega), Nat.add_sub_cancel_left]

theorem u16_append_right (a b : List Byte) (i : Nat) : u16 (a ++ b) (a.length + i) = u16 b i := by
  unfold u16
  rw [u8_append_right, Nat.add_assoc, u8_append_right]

theorem telegram_checkOk (dest source kind sequence : Byte) {x : List Byte} (h : x.length ≤ 56) :
    checkOk (telegram dest source kind sequence x) = true := by
  have body : ((telegram dest source kind sequence x).drop 1).take (5 + x.length) =
      [dest, source, kind, sequence, BitVec.ofNat 8 x.length] ++ x := by
    rw [telegram_eq]
    have length : ([dest, source, kind, sequence, BitVec.ofNat 8 x.length] ++ x).length = 5 + x.length := by
      simp
      omega
    exact List.take_left' length
  have check := u16_append_right ([0xA5, dest, source, kind, sequence, BitVec.ofNat 8 x.length] ++ x)
    (be16 (crc16 ([dest, source, kind, sequence, BitVec.ofNat 8 x.length] ++ x)).toNat) 0
  rw [← telegram_eq, u16_be16 (BitVec.isLt _), List.length_append, Nat.add_zero] at check
  unfold checkOk
  rw [telegram_payloadLength _ _ _ _ h, body]
  exact beq_iff_eq.mpr check

theorem byte_mod (n : Nat) : BitVec.ofNat 8 n = BitVec.ofNat 8 (n % 256) :=
  BitVec.eq_of_toNat_eq (by rw [BitVec.toNat_ofNat, BitVec.toNat_ofNat, Nat.mod_mod])

/-- One bit taken into the check (R2). -/
def shiftedIn (c : BitVec 16) (bit : Bool) : BitVec 16 := if c.getLsbD 15 = bit then c <<< 1 else (c <<< 1) ^^^ 0x1021

/-- Taking the bits in one after the other is taking them in at once and shifting. -/
theorem crcShift_xor (c d : BitVec 16) : crcShift (c ^^^ d) = shiftedIn c (d.getLsbD 15) ^^^ (d <<< 1) := by
  have top : (c ^^^ d).msb = (c.getLsbD 15 ^^ d.getLsbD 15) := by
    rw [BitVec.msb_eq_getLsbD_last, BitVec.getLsbD_xor]
  have shift : (c ^^^ d) <<< 1 = (c <<< 1) ^^^ (d <<< 1) := BitVec.shiftLeft_xor_distrib c d 1
  unfold crcShift shiftedIn
  rw [top, shift]
  cases c.getLsbD 15 <;> cases d.getLsbD 15
  · rfl
  · exact (BitVec.xor_assoc _ _ _).trans ((congrArg _ (BitVec.xor_comm _ _)).trans (BitVec.xor_assoc _ _ _).symm)
  · exact (BitVec.xor_assoc _ _ _).trans ((congrArg _ (BitVec.xor_comm _ _)).trans (BitVec.xor_assoc _ _ _).symm)
  · rfl

theorem crcShift_bit (c : BitVec 16) (b : Byte) (i : Nat) (h : i < 8) :
    crcShift (c ^^^ (b.zeroExtend 16 <<< (8 + i))) =
      shiftedIn c (b.getLsbD (7 - i)) ^^^ (b.zeroExtend 16 <<< (8 + (i + 1))) := by
  have top : (b.zeroExtend 16 <<< (8 + i)).getLsbD 15 = b.getLsbD (7 - i) := by
    rw [BitVec.getLsbD_shiftLeft, BitVec.getLsbD_setWidth, show 15 - (8 + i) = 7 - i by omega]
    have inside : ¬ 15 < 8 + i := by omega
    have low : 7 - i < 16 := by omega
    simp [inside, low]
  rw [crcShift_xor, top, ← BitVec.shiftLeft_add]
  rfl

theorem crcByte_bits (c : BitVec 16) (b : Byte) :
    crcByte c b = (List.range 8).foldl (fun c i => shiftedIn c (b.getLsbD (7 - i))) c := by
  have gone : b.zeroExtend 16 <<< (8 + (7 + 1)) = 0#16 := BitVec.shiftLeft_eq_zero (by decide)
  have start : b.zeroExtend 16 <<< 8 = b.zeroExtend 16 <<< (8 + 0) := rfl
  unfold crcByte
  rw [start, crcShift_bit c b 0 (by decide), crcShift_bit _ b (0 + 1) (by decide), crcShift_bit _ b (0 + 1 + 1) (by decide),
    crcShift_bit _ b (0 + 1 + 1 + 1) (by decide), crcShift_bit _ b (0 + 1 + 1 + 1 + 1) (by decide),
    crcShift_bit _ b (0 + 1 + 1 + 1 + 1 + 1) (by decide), crcShift_bit _ b (0 + 1 + 1 + 1 + 1 + 1 + 1) (by decide),
    crcShift_bit _ b (0 + 1 + 1 + 1 + 1 + 1 + 1 + 1) (by decide)]
  rw [gone, BitVec.xor_zero]
  rfl

theorem crc16_snoc (bytes : List Byte) (b : Byte) : crc16 (bytes ++ [b]) =
    (List.range 8).foldl (fun c i => shiftedIn c (b.getLsbD (7 - i))) (crc16 bytes) := by
  unfold crc16
  rw [List.foldl_append]
  exact crcByte_bits _ b

/-! ### The frame checks (R1, R2) -/

theorem startsTelegram_iff (idle : Nat) (run : List Byte) :
    startsTelegram idle run = true ↔ 3 ≤ idle ∧ run.head? = some 0xA5 := by
  unfold startsTelegram startByte
  rw [Bool.and_eq_true, decide_eq_true_eq, beq_iff_eq]
  rfl

theorem formatOk_iff (run : List Byte) :
    formatOk run = true ↔ u8 run 5 ≤ 56 ∧ u8 run 2 ≠ 255 ∧ run.length = 8 + u8 run 5 := by
  have small : u8 run 2 < 256 := BitVec.isLt _
  have source : u8 run 2 ≤ 254 ↔ u8 run 2 ≠ 255 := by omega
  unfold formatOk payloadLength
  rw [Bool.and_eq_true, Bool.and_eq_true, decide_eq_true_eq, decide_eq_true_eq, beq_iff_eq, source, and_assoc]

theorem checkOk_iff (run : List Byte) : checkOk run = true ↔
    u16 run (6 + u8 run 5) = (crc16 ((run.drop 1).take (5 + u8 run 5))).toNat := beq_iff_eq

theorem State.receive_ignored {s : State} {p : PortId} {idle : Nat} {run : List Byte}
    (h : idle < 3 ∨ run.head? ≠ some 0xA5) : s.receive p idle run = s := by
  refine if_neg (fun starts => ?_)
  obtain ⟨waited, head⟩ := (startsTelegram_iff idle run).mp starts
  exact h.elim (fun early => by omega) (fun other => other head)

theorem State.receive_counted {s : State} {p : PortId} {idle : Nat} {run : List Byte} {f : PortCounters → PortCounters}
    (starts : startsTelegram idle run = true)
    (checked : ∀ u : State, u.own = s.own → u.checkTelegram p run = u.count p f) :
    s.receive p idle run = s.modPort p (fun q => { q with rxBuffer := [], counters := f q.counters }) := by
  unfold State.receive
  rw [if_pos starts, checked (s.setBuffer p (run.take Config.bufferSize)) (State.modPort_own p _ s)]
  unfold State.setBuffer State.count
  rw [State.modPort_modPort, State.modPort_modPort]

theorem State.checkTelegram_format {s : State} {p : PortId} {run : List Byte}
    (h : 56 < u8 run 5 ∨ u8 run 2 = 255 ∨ run.length ≠ 8 + u8 run 5) :
    s.checkTelegram p run = s.count p PortCounters.addFormat := by
  have bad : formatOk run = false := Bool.eq_false_iff.mpr (fun good => by
    obtain ⟨short, source, length⟩ := (formatOk_iff run).mp good
    omega)
  unfold State.checkTelegram
  rw [bad]
  rfl

theorem State.checkTelegram_check {s : State} {p : PortId} {run : List Byte} (format : formatOk run = true)
    (h : checkOk run = false) : s.checkTelegram p run = s.count p PortCounters.addCheck := by
  unfold State.checkTelegram
  rw [format, h]
  rfl

theorem State.checkTelegram_passes {s : State} {p : PortId} {run : List Byte} {source : StationId}
    (format : formatOk run = true) (check : checkOk run = true) (hs : u8 run 2 = source.val) :
    s.checkTelegram p run = if source = s.own then s.count p PortCounters.addLoop
      else ((s.count p PortCounters.addGood).forward p run).deliver p source run := by
  unfold State.checkTelegram
  rw [format, check, (index?_eq_some_iff _ source).mpr hs]
  rfl

/-! ### A good telegram (R2, R6, R9, R10) -/

theorem State.receive_good {s : State} {p : PortId} {idle : Nat} {run : List Byte} {source : StationId}
    (h : s.GoodRun idle run source) :
    s.receive p idle run = ((s.passedOn p run).deliver p source run).setBuffer p [] := by
  obtain ⟨starts, format, check, hs, other⟩ := h
  have own : source ≠ (s.setBuffer p (run.take Config.bufferSize)).own := by
    rw [show (s.setBuffer p (run.take Config.bufferSize)).own = s.own from State.modPort_own p _ s]
    exact other
  unfold State.receive
  rw [if_pos starts, State.checkTelegram_passes format check hs, if_neg own]
  rfl

theorem State.passedOn_inner (p : PortId) (run : List Byte) (s : State) : (s.passedOn p run).inner = s.inner :=
  (State.forward_inner p run _).trans ((State.modPort_inner p _ _).trans (State.modPort_inner p _ s))

/-- The map and the part's own number. -/
theorem State.map_of_inner {s t : State} (h : t.inner = s.inner) : t.stations = s.stations ∧ t.own = s.own
    ∧ t.mapOpen = s.mapOpen := by
  have stations : t.stations = s.stations := (congrArg State.stations h :)
  refine ⟨stations, (congrArg State.own h :), ?_⟩
  unfold State.mapOpen
  rw [stations]

theorem State.takesRequest_iff (s : State) (source : StationId) (n : Nat) : s.takesRequest source n = true ↔
    n = s.own.val ∨ (n = 255 ∧ (s.stations[source].role = .supervisor ∨ s.mapOpen = true)) := by
  unfold State.takesRequest State.admits State.isSupervisor
  simp only [Bool.or_eq_true, Bool.and_eq_true, beq_iff_eq]

theorem probeFits_iff (x : List Byte) : probeFits x = true ↔ 1 ≤ u8 x 0 ∧ u8 x 0 ≤ 12 ∧ x.length = 1 + 4 * u8 x 0 := by
  unfold probeFits
  simp only [Bool.and_eq_true, decide_eq_true_eq, beq_iff_eq, and_assoc]

theorem boardFits_iff (x : List Byte) : boardFits x = true ↔ 1 ≤ u8 x 6 ∧ u8 x 6 ≤ 8 ∧ x.length = 7 + 2 * u8 x 6 := by
  unfold boardFits
  simp only [Bool.and_eq_true, decide_eq_true_eq, beq_iff_eq, and_assoc]

theorem State.actIf_fits {s : State} {p : PortId} {fits : Bool} {act : State → State} (h : fits = true) :
    s.actIf p fits act = act s := if_pos h

theorem State.actIf_misfits {s : State} {p : PortId} {fits : Bool} {act : State → State} (h : ¬ fits = true) :
    s.actIf p fits act = s.count p PortCounters.addFormat := if_neg h

section
variable {s : State} {p : PortId} {source : StationId} {run : List Byte}

theorem State.deliver_climate {k : KilnId} (kind : run.getD 3 0 = 0x10) (role : s.stations[source].role = .climate k) :
    s.deliver p source run = s.actIf p ((payloadOf run).length == 5) (State.climateArrival k (payloadOf run)) := by
  unfold State.deliver State.deliverClimate
  dsimp only
  rw [kind, role]
  rfl

theorem State.deliver_probe {k : KilnId} (kind : run.getD 3 0 = 0x11) (role : s.stations[source].role = .probe k) :
    s.deliver p source run = s.actIf p (probeFits (payloadOf run)) (State.probeArrival k (payloadOf run)) := by
  unfold State.deliver State.deliverProbe
  dsimp only
  rw [kind, role]
  rfl

theorem State.deliver_board (kind : run.getD 3 0 = 0x20) (role : s.stations[source].role = .scanner) :
    s.deliver p source run = s.actIf p (boardFits (payloadOf run)) (State.scanArrival (payloadOf run)) := by
  unfold State.deliver State.deliverBoard
  dsimp only
  rw [kind, if_pos role]
  rfl

theorem State.deliver_printDone (kind : run.getD 3 0 = 0x41) (dest : u8 run 1 = s.own.val)
    (role : s.stations[source].role = .printer) :
    s.deliver p source run = s.actIf p ((payloadOf run).length == 5) (State.printDone (payloadOf run)) := by
  have printed : s.deliver p source run = s.deliverPrintDone p source (u8 run 1) (payloadOf run) := by
    unfold State.deliver
    dsimp only
    rw [kind]
    rfl
  exact printed.trans (if_pos ⟨dest, role⟩)

theorem State.deliver_request (kind : run.getD 3 0 = 0x50) (taken : s.takesRequest source (u8 run 1) = true) :
    s.deliver p source run = s.actIf p (2 ≤ (payloadOf run).length) (State.takeIn (requestOf p source (payloadOf run))) := by
  unfold State.deliver State.deliverRequest
  dsimp only
  rw [kind, if_pos taken]
  rfl

theorem State.deliver_nothing (climate : run.getD 3 0 = 0x10 → ∀ k, s.stations[source].role ≠ .climate k)
    (probe : run.getD 3 0 = 0x11 → ∀ k, s.stations[source].role ≠ .probe k)
    (board : run.getD 3 0 = 0x20 → s.stations[source].role ≠ .scanner)
    (print : run.getD 3 0 = 0x41 → u8 run 1 ≠ s.own.val ∨ s.stations[source].role ≠ .printer)
    (request : run.getD 3 0 = 0x50 → s.takesRequest source (u8 run 1) = false) : s.deliver p source run = s := by
  fun_cases State.deliver p source run s
  case case1 kind =>
    unfold State.deliverClimate
    split
    · next k role => exact absurd role (climate kind k)
    · rfl
  case case2 _ kind =>
    unfold State.deliverProbe
    split
    · next k role => exact absurd role (probe kind k)
    · rfl
  case case3 _ _ kind => exact if_neg (board kind)
  case case4 _ _ _ kind => exact if_neg (fun h => (print kind).elim (fun far => far h.1) (fun other => other h.2))
  case case5 _ _ _ _ kind => exact if_neg (Bool.eq_false_iff.mp (request kind))
  case case6 => rfl

end

/-- Settles O6: the delivery by the kind and the role, over the part as the telegram's passing on left it. -/
theorem telegramsReachTheirBlocks : Obligations.TelegramsReachTheirBlocks := by
  unfold Obligations.TelegramsReachTheirBlocks
  intro s p idle run source good u x kind role ends
  obtain ⟨stations, own, opened⟩ := State.map_of_inner (s.passedOn_inner p run)
  have roles : u.stations[source].role = role := congrArg (fun v : Vector Station 255 => v[source].role) stations
  have ending {t : State} (h : u.deliver p source run = t) : ends t :=
    congrArg Host.Outcome.next ((State.receive_good good).trans (congrArg (State.setBuffer p []) h))
  have taken : u.takesRequest source (u8 run 1) = true ↔
      u8 run 1 = s.own.val ∨ (u8 run 1 = 255 ∧ (role = .supervisor ∨ s.mapOpen = true)) := by
    rw [State.takesRequest_iff, roles]
    unfold u
    rw [own, opened]
  refine ⟨fun k hk hr => ?climate, fun k hk hr => ?probe, fun hk hr => ?board, fun hk hd hr => ?print, fun hk hr => ?request,
    fun ⟨climate, probe, board, print, request⟩ => ?nothing⟩
  case climate =>
    have delivered := State.deliver_climate (p := p) hk (roles.trans hr)
    exact ⟨fun fits => ending (delivered.trans (State.actIf_fits (beq_iff_eq.mpr fits))),
      fun misfits => ending (delivered.trans (State.actIf_misfits (mt beq_iff_eq.mp misfits)))⟩
  case probe =>
    have delivered := State.deliver_probe (p := p) hk (roles.trans hr)
    exact ⟨fun fits => ending (delivered.trans (State.actIf_fits ((probeFits_iff x).mpr fits))),
      fun misfits => ending (delivered.trans (State.actIf_misfits (mt (probeFits_iff x).mp misfits)))⟩
  case board =>
    have delivered := State.deliver_board (p := p) hk (roles.trans hr)
    exact ⟨fun fits => ending (delivered.trans (State.actIf_fits ((boardFits_iff x).mpr fits))),
      fun misfits => ending (delivered.trans (State.actIf_misfits (mt (boardFits_iff x).mp misfits)))⟩
  case print =>
    have delivered := State.deliver_printDone (p := p) hk (hd.trans (congrArg Fin.val own).symm) (roles.trans hr)
    exact ⟨fun fits => ending (delivered.trans (State.actIf_fits (beq_iff_eq.mpr fits))),
      fun misfits => ending (delivered.trans (State.actIf_misfits (mt beq_iff_eq.mp misfits)))⟩
  case request =>
    have delivered := State.deliver_request (p := p) hk (taken.mpr hr)
    exact ⟨fun fits => ending (delivered.trans (State.actIf_fits (decide_eq_true fits))),
      fun misfits => ending (delivered.trans (State.actIf_misfits (fun fits =>
        absurd (of_decide_eq_true fits) (Nat.not_le.mpr misfits))))⟩
  case nothing =>
    refine ending (State.deliver_nothing (roles ▸ climate) (roles ▸ probe) (roles ▸ board) (fun hk => ?_) (fun hk => ?_))
    · exact (print hk).imp (fun far same => far (same.trans (congrArg Fin.val own))) (fun other same => other (roles.symm.trans same))
    · refine Bool.eq_false_iff.mpr (fun h => ?_)
      obtain ⟨away, closed⟩ := request hk
      rcases taken.mp h with here | ⟨broadcast, admits⟩
      · exact away here
      · obtain ⟨plain, shut⟩ := closed.resolve_left (fun far => far broadcast)
        exact admits.elim plain (fun opens => Bool.false_ne_true (shut.symm.trans opens))

end Sys2Proof.Machine
end

section
/-! PROOFS. What the part's own telegrams add to the ports: every operation outside the link unit leaves the transmitters,
the turns and the pass queues, and adds to the tails of the local queues alone (R4, R7, R18). -/

namespace Sys2Proof.Machine

/-- The second part's ports are the first's with telegrams added to the local queues; waiting setpoints, the class last
served, receive buffers and counters are left open. -/
def State.Adds (s t : State) : Prop := ∀ p : PortId, (t.port p).sending = (s.port p).sending
  ∧ (t.port p).turn = (s.port p).turn ∧ (t.port p).passQueue = (s.port p).passQueue
  ∧ ∃ added, (t.port p).localQueue = (s.port p).localQueue ++ added

namespace State.Adds

variable {s t u : State}

theorem of_ports (h : ∀ p, t.port p = s.port p := by exact fun p => by cases p <;> rfl) : s.Adds t :=
  fun p => by rw [h p]; exact ⟨rfl, rfl, rfl, [], (List.append_nil _).symm⟩

theorem refl (s : State) : s.Adds s := of_ports (fun _ => rfl)

theorem trans (h : s.Adds t) (k : t.Adds u) : s.Adds u := fun p => by
  obtain ⟨sending, turn, pass, added, hl⟩ := h p
  obtain ⟨sending', turn', pass', more, kl⟩ := k p
  exact ⟨sending'.trans sending, turn'.trans turn, pass'.trans pass, added ++ more, by
    rw [kl, hl, List.append_assoc]⟩

theorem of_links (h : t.links = s.links) : s.Adds t := by
  obtain ⟨-, ports⟩ := Prod.ext_iff.mp h
  obtain ⟨a, b⟩ := Prod.ext_iff.mp ports
  exact of_ports (fun p => by cases p; exacts [a, b])

theorem of_modPort (p : PortId) (f : Port → Port) (s : State)
    (h : ∀ q, (f q).sending = q.sending ∧ (f q).turn = q.turn ∧ (f q).passQueue = q.passQueue
      ∧ ∃ added, (f q).localQueue = q.localQueue ++ added :=
        by exact fun q => ⟨rfl, rfl, rfl, [], (List.append_nil _).symm⟩) : s.Adds (s.modPort p f) := by
  intro r
  by_cases hr : r = p
  · subst hr
    rw [State.port_modPort_self]
    exact h _
  · rw [State.port_modPort_other p r hr]
    exact ⟨rfl, rfl, rfl, [], (List.append_nil _).symm⟩

theorem of_place (p : PortId) (d : StationId) (kind : Byte) (x : List Byte) (s : State) : s.Adds (s.place p d kind x) :=
  (of_modPort p (fun q => { q with
      localQueue := q.localQueue ++ [telegram (stationByte d) (stationByte s.own) kind s.sendCounter x] }) s
    (fun _ => ⟨rfl, rfl, rfl, _, rfl⟩)).trans of_ports

theorem of_placeNotice (p : PortId) (s : State) : s.Adds (s.placeNotice p) := by
  fun_cases State.placeNotice p s
  case case1 => exact (of_place p _ _ _ s).trans of_ports
  case case2 => exact refl s

theorem of_placeRow (p : PortId) (s : State) : s.Adds (s.placeRow p) := by
  fun_cases State.placeRow p s
  case case1 => exact (of_place p _ _ _ s).trans of_ports
  case case2 => exact refl s

theorem of_placeReply (s : State) : s.Adds s.placeReply := by
  fun_cases State.placeReply s
  case case1 => exact (of_place _ _ _ _ s).trans of_ports
  case case2 => exact refl s

theorem of_placeSetpoint (k : KilnId) (p : PortId) (s : State) : s.Adds (s.placeSetpoint k p) := by
  fun_cases State.placeSetpoint k p s
  case case1 => exact of_place p _ _ _ s
  case case2 => exact refl s

theorem of_produceSetpoint (k : KilnId) (s : State) : s.Adds (s.produceSetpoint k) := by
  fun_cases State.produceSetpoint k s
  case case3 p _ _ _ => exact of_placeSetpoint k p s
  case case4 p _ _ _ => exact of_modPort p _ s
  all_goals exact refl s

theorem of_withdrawSetpoint (k : KilnId) (s : State) : s.Adds (s.withdrawSetpoint k) := by
  unfold State.withdrawSetpoint
  exact (of_modPort .a _ s).trans (of_modPort .b _ _)

theorem of_produceReply (s : State) : s.Adds s.produceReply := by
  fun_cases State.produceReply s
  case case1 => exact of_placeReply s
  all_goals exact refl s

theorem of_produceNoticesFuel (n : Nat) (s : State) : s.Adds (produceNoticesFuel n s) := by
  fun_induction produceNoticesFuel n s
  case case3 _ s p _ _ ih => exact (of_placeNotice p s).trans ih
  all_goals exact refl _

theorem of_produceNotices (s : State) : s.Adds s.produceNotices := of_produceNoticesFuel _ s

theorem of_produceRowsFuel (n : Nat) (s : State) : s.Adds (produceRowsFuel n s) := by
  fun_induction produceRowsFuel n s
  case case3 _ s p _ _ ih => exact (of_placeRow p s).trans ih
  all_goals exact refl _

theorem of_raise (n : Notice) (s : State) : s.Adds (s.raise n) := by
  have judged : s.Adds (s.judgeNotice n) := by
    fun_cases State.judgeNotice n s <;> exact of_ports
  exact judged.trans (of_produceNotices _)

end State.Adds

theorem KilnDuty.adds {k : KilnId} {s t : State} (h : KilnWork k s t) : s.Adds t := by
  induction h with
  | refl s => exact .refl s
  | trans _ _ first next => exact first.trans next
  | raise n s => exact .of_raise n s
  | setpoint s => exact .of_produceSetpoint k s
  | withdraw s => exact .of_withdrawSetpoint k s
  | charge s _ =>
    fun_cases State.modKilnCharge k _ s
    case case1 n _ => fun_cases State.modCharge n _ s <;> exact .of_ports
    case case2 => exact .refl s
  | unbind s => fun_cases State.unbindKiln k s <;> exact .of_ports
  | drew | kiln => exact .of_ports

theorem FinishWork.adds {still : Bool} {s t : State} (h : FinishWork still s t) : s.Adds t := by
  induction h with
  | refl s => exact .refl s
  | trans _ _ first next => exact first.trans next
  | raise n s => exact .of_raise n s
  | rows s => exact .of_produceRowsFuel 8 s
  | inside _ link => exact .of_links link

/-! ### What a served request adds -/

theorem State.lapse_adds (cause : Nat) (s : State) : s.Adds (s.lapse cause) :=
  State.lapse_keeps (P := s.Adds) cause (fun _ _ _ => .of_ports) (fun u n added => added.trans (.of_raise n u))
    (fun _ _ _ work added => added.trans work.adds)

theorem State.heartbeat_adds (d : StationId) (s : State) : s.Adds (s.heartbeat d) := by
  fun_cases State.heartbeat d s
  case case1 => exact .of_ports
  case case2 =>
    exact (State.Adds.of_ports (s := s)).trans (.of_raise _ _)
  case case3 => exact State.lapse_adds 1 s
  case case4 => exact .of_ports

theorem State.modOther_links (found : Option StationId) (d : StationId) (f : Station → Station) (s : State) :
    (s.modOther found d f).links = s.links := by
  fun_cases State.modOther found d f s <;> rfl

theorem State.writeMap_links (d : StationId) (e : Station) (s : State) : (s.writeMap d e).links = s.links := by
  have plain (u : State) (f : Station → Station) : (u.modStation d f).links = u.links := rfl
  unfold State.writeMap
  dsimp only
  rw [plain]
  split <;> split <;> simp only [State.modOther_links]

theorem State.followActuator_adds (r : Role) (p : PortId) (s : State) : s.Adds (s.followActuator r p) := by
  fun_cases State.followActuator r p s
  case case1 k _ => exact (State.Adds.of_withdrawSetpoint k s).trans (.of_produceSetpoint k _)
  all_goals exact .refl s

theorem State.writeStation_adds (d : StationId) (e : Station) (s : State) : s.Adds (s.writeStation d e) := by
  have mapped : s.Adds (s.writeMap d e) := .of_links (State.writeMap_links d e s)
  unfold State.writeStation
  exact ((mapped.trans (State.followActuator_adds _ _ _)).trans (.of_produceNotices _)).trans
    (State.followPrinter_finish (still := false) _ _ _).adds

theorem State.planerFeed_adds (n : Nat) (s : State) : s.Adds (s.planerFeed n) := by
  have charge (m : Nat) (f : Charge → Charge) (u : State) : u.Adds (u.modCharge m f) :=
    (State.modCharge_finish (still := false) u m f).adds
  have left : s.Adds s.leaveInfeed := by
    unfold State.leaveInfeed
    split
    · exact charge _ _ s
    · exact .refl s
  unfold State.planerFeed State.enterInfeed
  split
  · exact left.trans .of_ports
  · exact (left.trans (charge n _ _)).trans .of_ports

theorem Effect.adds {kind : ReqKind} {r : Request} {s t : State} (h : Effect r s kind t) : s.Adds t := by
  cases h
  case clearPort p => exact .of_modPort p _ s
  case heartbeat d => exact State.heartbeat_adds d s
  case loadCharge k d g i _ _ _ _ _ _ => exact State.Adds.trans .of_ports (s.loadCharge_work k d g i _).adds
  case startKiln k p _ _ _ => exact (State.startKiln_work k s p).adds
  case override k _ _ _ _ _ _ _ => exact (State.pushHold_work k s _ _).adds
  case resume k _ _ _ _ => exact (State.resumeEntry_work k s _).adds
  case stop k _ _ => exact (State.stopKiln_work k s _ _).adds
  case restart k _ _ => exact (State.restartKiln_work k s).adds
  case unload k _ _ _ => exact (State.unloadKiln_work k s _).adds
  case feedNone => exact State.planerFeed_adds 0 s
  case feed n _ _ _ _ => exact State.planerFeed_adds n s
  case closePack bin p _ => exact (State.closePack_finish (still := false) s bin p .forced).adds
  case lineReset => exact (State.lineReset_finish (still := false) s).adds
  case writeStation d e _ _ => exact State.writeStation_adds d e s
  all_goals exact .of_ports

theorem answer_adds (r : Request) (v : Served) : v.st.Adds (answer r v) := by
  unfold answer
  exact State.Adds.trans .of_ports (.of_produceReply _)

theorem State.judge_adds (r : Request) (s : State) : s.Adds (s.judge r).st := by
  unfold State.judge
  split
  · exact .refl s
  · split
    · exact (serve_effect _ r s).adds
    · exact .refl s

theorem drainFuel_adds (n : Nat) (s : State) : s.Adds (drainFuel n s) := by
  fun_induction drainFuel n s
  case case2 s r rest _ _ ih =>
    have taken : s.Adds { s with requests := rest } := .of_ports
    exact ((taken.trans (State.judge_adds r _)).trans (answer_adds r _)).trans ih
  all_goals exact .refl _

theorem State.drain_adds (s : State) : s.Adds s.drain := drainFuel_adds _ s

theorem State.takeIn_adds (r : Request) (s : State) : s.Adds (s.takeIn r) := by
  unfold State.takeIn
  split
  · split
    · exact State.Adds.trans .of_ports (State.drain_adds _)
    · exact .of_ports
  · exact .of_ports

end Sys2Proof.Machine
end

section
/-! PROOFS. The statement on the frame checks and the forwarding (R1, R2, R3, R6). -/

namespace Sys2Proof.Machine

/-! ### What a telegram's passing on makes of the ports (R2, R6) -/

/-- The port of arrival once a good telegram is stored and counted, and counted again by what came of it. -/
def Port.took (run : List Byte) (f : PortCounters → PortCounters) (q : Port) : Port :=
  { q with rxBuffer := run.take Config.bufferSize, counters := f q.counters.addGood }

section
variable {s : State} {p : PortId} {run : List Byte}

theorem State.passedOn_consumed (h : u8 run 1 = s.own.val) : s.passedOn p run = s.modPort p (Port.took run id) := by
  have consumed : u8 run 1 = ((s.setBuffer p (run.take Config.bufferSize)).count p PortCounters.addGood).own.val := by
    rw [h]
    cases p <;> rfl
  unfold State.passedOn State.forward
  rw [if_pos consumed]
  exact State.modPort_modPort p _ _ s

theorem State.passedOn_forwards (h : u8 run 1 ≠ s.own.val) : s.passedOn p run =
    if (s.port (otherPort p)).passQueue.length < 8 then
      (s.modPort p (Port.took run PortCounters.addForwarded)).modPort (otherPort p)
        (fun q => { q with passQueue := q.passQueue ++ [run] })
    else s.modPort p (Port.took run PortCounters.addDrop) := by
  have passes : ¬ u8 run 1 = ((s.setBuffer p (run.take Config.bufferSize)).count p PortCounters.addGood).own.val := by
    cases p <;> exact h
  unfold State.passedOn State.forward
  rw [if_neg passes]
  cases p
  · refine if_congr Iff.rfl rfl rfl
  · refine if_congr Iff.rfl rfl rfl

theorem State.passedOn_other : ((s.passedOn p run).port (otherPort p)).passQueue =
      (if u8 run 1 ≠ s.own.val ∧ (s.port (otherPort p)).passQueue.length < 8
        then (s.port (otherPort p)).passQueue ++ [run] else (s.port (otherPort p)).passQueue)
    ∧ ((s.passedOn p run).port (otherPort p)).counters = (s.port (otherPort p)).counters := by
  have kept (f : Port → Port) : (s.modPort p f).port (otherPort p) = s.port (otherPort p) :=
    State.port_modPort_other p _ (otherPort_ne p) f s
  by_cases consumed : u8 run 1 = s.own.val
  · rw [State.passedOn_consumed consumed, kept, if_neg (fun h => h.1 consumed)]
    exact ⟨rfl, rfl⟩
  · rw [State.passedOn_forwards consumed]
    by_cases room : (s.port (otherPort p)).passQueue.length < 8
    · rw [if_pos room, if_pos ⟨consumed, room⟩, State.port_modPort_self, kept]
      exact ⟨rfl, rfl⟩
    · rw [if_neg room, if_neg (fun h => room h.2), kept]
      exact ⟨rfl, rfl⟩

theorem State.passedOn_self : (s.passedOn p run).port p = (s.port p).took run
    (if u8 run 1 = s.own.val then id
      else if (s.port (otherPort p)).passQueue.length < 8 then PortCounters.addForwarded else PortCounters.addDrop) := by
  by_cases consumed : u8 run 1 = s.own.val
  · rw [State.passedOn_consumed consumed, if_pos consumed, State.port_modPort_self]
  · rw [State.passedOn_forwards consumed, if_neg consumed]
    split
    · rw [State.port_modPort_other _ _ (otherPort_ne p).symm, State.port_modPort_self]
    · rw [State.port_modPort_self]

end

/-! ### What a delivery leaves of the ports -/

/-- Each port's pass queue and counters, but for the format errors of the port `p`. -/
def State.tallySide (s : State) (p : PortId) : PortId → List (List Byte) × PortCounters :=
  fun r => ((s.port r).passQueue, if r = p then { (s.port r).counters with formatErrors := 0 } else (s.port r).counters)

theorem State.tallySide_of_link {s t : State} (h : t.linkSide = s.linkSide) (p : PortId) : t.tallySide p = s.tallySide p :=
  congrArg (fun (x : Option PendingReply × (PortId → List (List Byte) × PortCounters)) r =>
    ((x.2 r).1, if r = p then ({ (x.2 r).2 with formatErrors := 0 } : PortCounters) else (x.2 r).2)) h

theorem State.addFormat_tallySide (p : PortId) (s : State) : (s.count p PortCounters.addFormat).tallySide p = s.tallySide p := by
  funext r
  unfold State.tallySide State.count
  by_cases hr : r = p
  · rw [hr, State.port_modPort_self, if_pos rfl, if_pos rfl]
    rfl
  · rw [State.port_modPort_other p r hr]

theorem State.actIf_tallySide {s : State} (p : PortId) (fits : Bool) {act : State → State}
    (h : (act s).tallySide p = s.tallySide p) : (s.actIf p fits act).tallySide p = s.tallySide p := by
  unfold State.actIf
  split
  · exact h
  · exact s.addFormat_tallySide p

theorem State.scanArrival_linkSide (x : List Byte) (s : State) : (s.scanArrival x).linkSide = s.linkSide := by
  fun_cases State.scanArrival x s <;> rfl

theorem State.scanArrival_adds (x : List Byte) (s : State) : s.Adds (s.scanArrival x) := by
  fun_cases State.scanArrival x s <;> exact .of_ports

theorem State.printDone_adds (x : List Byte) (s : State) : s.Adds (s.printDone x) := by
  fun_cases State.printDone x s
  case case1 => exact (State.finishHead_finish (still := false) s _).adds
  case case2 => exact .of_ports

theorem State.printDone_linkSide (x : List Byte) (s : State) : (s.printDone x).linkSide = s.linkSide := by
  fun_cases State.printDone x s
  case case1 => exact (State.finishHead_finish (still := false) s _).linkSide
  case case2 => rfl

theorem State.deliver_tallySide {s : State} (p : PortId) (source : StationId) {run : List Byte}
    (other : run.getD 3 0 ≠ kindRequest) : (s.deliver p source run).tallySide p = s.tallySide p := by
  fun_cases State.deliver p source run s
  case case1 =>
    unfold State.deliverClimate
    split
    · exact State.actIf_tallySide p _ (State.tallySide_of_link (State.climateArrival_work _ s _).linkSide p)
    · rfl
  case case2 =>
    unfold State.deliverProbe
    split
    · exact State.actIf_tallySide p _ (State.tallySide_of_link (State.probeArrival_work _ s _).linkSide p)
    · rfl
  case case3 =>
    unfold State.deliverBoard
    split
    · exact State.actIf_tallySide p _ (State.tallySide_of_link (State.scanArrival_linkSide _ s) p)
    · rfl
  case case4 =>
    unfold State.deliverPrintDone
    split
    · exact State.actIf_tallySide p _ (State.tallySide_of_link (State.printDone_linkSide _ s) p)
    · rfl
  case case5 kind => exact absurd kind other
  case case6 => rfl

theorem State.actIf_adds {s : State} (p : PortId) (fits : Bool) {act : State → State} (h : s.Adds (act s)) :
    s.Adds (s.actIf p fits act) := by
  unfold State.actIf
  split
  · exact h
  · exact .of_modPort p _ s

theorem State.deliver_adds (s : State) (p : PortId) (source : StationId) (run : List Byte) :
    s.Adds (s.deliver p source run) := by
  fun_cases State.deliver p source run s
  case case1 =>
    unfold State.deliverClimate
    split
    · exact State.actIf_adds p _ (State.climateArrival_work _ s _).adds
    · exact .refl s
  case case2 =>
    unfold State.deliverProbe
    split
    · exact State.actIf_adds p _ (State.probeArrival_work _ s _).adds
    · exact .refl s
  case case3 =>
    unfold State.deliverBoard
    split
    · exact State.actIf_adds p _ (State.scanArrival_adds _ s)
    · exact .refl s
  case case4 =>
    unfold State.deliverPrintDone
    split
    · exact State.actIf_adds p _ (State.printDone_adds _ s)
    · exact .refl s
  case case5 =>
    unfold State.deliverRequest
    split
    · exact State.actIf_adds p _ (State.takeIn_adds _ s)
    · exact .refl s
  case case6 => exact .refl s

theorem State.setBuffer_adds (p : PortId) (x : List Byte) (s : State) : s.Adds (s.setBuffer p x) :=
  .of_modPort p (fun q => { q with rxBuffer := x }) s

theorem State.setBuffer_tallySide (p : PortId) (x : List Byte) (s : State) : (s.setBuffer p x).tallySide p = s.tallySide p :=
  State.tallySide_of_link (State.modPort_linkSide p _ s) p

theorem State.counters_of_tally {s t : State} {p : PortId} (h : t.tallySide p = s.tallySide p) :
    ({ (t.port p).counters with formatErrors := 0 } : PortCounters) = { (s.port p).counters with formatErrors := 0 }
    ∧ (t.port (otherPort p)).counters = (s.port (otherPort p)).counters := by
  have self := congrArg Prod.snd (congrFun h p)
  have far := congrArg Prod.snd (congrFun h (otherPort p))
  unfold State.tallySide at self far
  dsimp only at self far
  rw [if_pos rfl, if_pos rfl] at self
  rw [if_neg (otherPort_ne p), if_neg (otherPort_ne p)] at far
  exact ⟨self, far⟩

/-- The counts of a telegram passed on (R2, R6). -/
theorem State.passedOn_counters (s : State) (p : PortId) (run : List Byte) :
    ((s.passedOn p run).port p).counters.good = bump16 (s.port p).counters.good
    ∧ ((s.passedOn p run).port p).counters.forwarded =
        (if u8 run 1 ≠ s.own.val ∧ (s.port (otherPort p)).passQueue.length < 8
          then bump16 (s.port p).counters.forwarded else (s.port p).counters.forwarded)
    ∧ ((s.passedOn p run).port p).counters.passDrops =
        (if u8 run 1 ≠ s.own.val ∧ 8 ≤ (s.port (otherPort p)).passQueue.length
          then bump16 (s.port p).counters.passDrops else (s.port p).counters.passDrops)
    ∧ ((s.passedOn p run).port p).counters.checkErrors = (s.port p).counters.checkErrors
    ∧ ((s.passedOn p run).port p).counters.loops = (s.port p).counters.loops := by
  rw [State.passedOn_self]
  by_cases consumed : u8 run 1 = s.own.val
  · rw [if_pos consumed, if_neg (fun h => h.1 consumed), if_neg (fun h => h.1 consumed)]
    exact ⟨rfl, rfl, rfl, rfl, rfl⟩
  · rw [if_neg consumed]
    by_cases room : (s.port (otherPort p)).passQueue.length < 8
    · rw [if_pos room, if_pos ⟨consumed, room⟩, if_neg (fun h => (Nat.not_le.mpr room) h.2)]
      exact ⟨rfl, rfl, rfl, rfl, rfl⟩
    · rw [if_neg room, if_neg (fun h => room h.2), if_pos ⟨consumed, not_lt.mp room⟩]
      exact ⟨rfl, rfl, rfl, rfl, rfl⟩

/-- Settles O5: the checks in their order, the check bit by bit, and the passing on by its two ports. -/
theorem telegramsAreCheckedAndForwarded : Obligations.TelegramsAreCheckedAndForwarded := by
  unfold Obligations.TelegramsAreCheckedAndForwarded
  refine ⟨⟨fun s p idle run => ?checks, fun dest source kind sequence x short real =>
      ⟨telegram_formatOk dest source kind sequence short real, telegram_checkOk dest source kind sequence short⟩,
    fun dest source kind sequence x => ?layout, rfl, fun bytes b => crc16_snoc bytes b⟩,
    fun s p idle run source good => ?forwarded⟩
  case checks =>
    refine ⟨fun h => congrArg Host.Outcome.next (State.receive_ignored h), fun waited head =>
      ⟨fun bad => ?_, fun short real length wrong => ?_, fun short real length right own => ?_⟩⟩
    all_goals have starts : startsTelegram idle run = true := (startsTelegram_iff idle run).mpr ⟨waited, head⟩
    · exact congrArg Host.Outcome.next (State.receive_counted (f := PortCounters.addFormat) starts
        (fun _ _ => State.checkTelegram_format bad))
    · exact congrArg Host.Outcome.next (State.receive_counted (f := PortCounters.addCheck) starts
        (fun _ _ => State.checkTelegram_check ((formatOk_iff run).mpr ⟨short, real, length⟩)
          (Bool.eq_false_iff.mpr (mt (checkOk_iff run).mp wrong))))
    · refine congrArg Host.Outcome.next (State.receive_counted (f := PortCounters.addLoop) starts (fun u same => ?_))
      rw [State.checkTelegram_passes ((formatOk_iff run).mpr ⟨short, real, length⟩) ((checkOk_iff run).mpr right) own, same]
      exact if_pos rfl
  case layout =>
    intro body check
    rw [← byte_mod check]
    rfl
  case forwarded =>
    have received := State.receive_good (p := p) good
    have after (v : State) : (v.setBuffer p []).port p = { v.port p with rxBuffer := [] } := State.port_modPort_self p _ v
    have passes (r : PortId) : ((((s.passedOn p run).deliver p source run).setBuffer p []).port r).passQueue =
        ((s.passedOn p run).port r).passQueue := by
      obtain ⟨-, -, pass, -⟩ := ((s.passedOn p run).deliver_adds p source run).trans (State.setBuffer_adds p [] _) r
      exact pass
    refine ⟨_, congrArg Host.Outcome.next received, by rw [after], ?_, ?_, fun other => ?_⟩
    · exact (passes (otherPort p)).trans State.passedOn_other.1
    · rw [passes, State.passedOn_self]
      rfl
    · have tally : (((s.passedOn p run).deliver p source run).setBuffer p []).tallySide p = (s.passedOn p run).tallySide p :=
        (State.setBuffer_tallySide p [] _).trans (State.deliver_tallySide p source other)
      obtain ⟨self, far⟩ := State.counters_of_tally tally
      obtain ⟨good, forwarded, drops, checks, loops⟩ := State.passedOn_counters s p run
      exact ⟨(congrArg PortCounters.good self :).trans good, (congrArg PortCounters.forwarded self :).trans forwarded,
        (congrArg PortCounters.passDrops self :).trans drops, (congrArg PortCounters.checkErrors self :).trans checks,
        (congrArg PortCounters.loops self :).trans loops, far.trans State.passedOn_other.2⟩

end Sys2Proof.Machine
end

section
/-! PROOFS. The statement on the transmit arbiter and the offers (R14 to R18, R24, R184). -/

namespace Sys2Proof.Machine

/-! ### The transmitter (R18) -/

theorem Port.nextQueue_eq (q : Port) : q.nextQueue =
    if q.turn = .pass then (if q.passQueue ≠ [] then some .pass else if q.localQueue ≠ [] then some .loc else none)
    else (if q.localQueue ≠ [] then some .loc else if q.passQueue ≠ [] then some .pass else none) := by
  unfold Port.nextQueue
  cases q.turn <;> cases q.passQueue <;> cases q.localQueue <;> rfl

theorem State.startSending_starts {s : State} {p : PortId} {idle : Nat} (waited : 3 ≤ idle) (still : (s.port p).sending = none) :
    s.startSending p idle = s.setPort p { s.port p with sending := (s.port p).nextQueue } := by
  unfold State.startSending
  rw [still]
  exact if_pos (decide_eq_true waited)

theorem State.startSending_waits {s : State} {p : PortId} {idle : Nat} (h : idle < 3 ∨ (s.port p).sending ≠ none) :
    s.startSending p idle = s := by
  refine if_neg (fun both => ?_)
  obtain ⟨still, waited⟩ := (Bool.and_eq_true _ _).mp both
  exact h.elim (fun early => Nat.not_le.mpr early (of_decide_eq_true waited))
    (fun busy => busy (Option.isNone_iff_eq_none.mp still))

/-- The part with the entry of a local queue freed that its port has just sent. -/
def State.freed (p : PortId) (s : State) : State :=
  s.modPort p (fun q => { q with localQueue := q.localQueue.tail, sending := none, turn := .pass })

theorem State.completeSending_none {s : State} {p : PortId} (h : (s.port p).sending = none) : s.completeSending p = s := by
  unfold State.completeSending
  rw [h]

theorem State.completeSending_pass {s : State} {p : PortId} (h : (s.port p).sending = some .pass) : s.completeSending p =
    s.setPort p { s.port p with sending := none, passQueue := (s.port p).passQueue.tail, turn := .loc } := by
  unfold State.completeSending
  rw [h]
  rfl

theorem State.completeSending_loc {s : State} {p : PortId} (h : (s.port p).sending = some .loc) :
    s.completeSending p = ((s.freed p).offer p).afterOffer (s.completesLabel p) := by
  unfold State.completeSending
  rw [h]
  rfl

/-! ### The classes that are pending (R15, R16) -/

theorem State.freed_pendingOn (p : PortId) (s : State) (c : SourceClass) : (s.freed p).pendingOn p c = s.pendingOn p c := by
  cases p <;> cases c <;> rfl

theorem State.pendingOn_reply (s : State) (p : PortId) :
    s.pendingOn p .reply = true ↔ ∃ r, s.replySlot = some r ∧ r.port = p := by
  unfold State.pendingOn
  cases s.replySlot with
  | none => simp
  | some r => simp

theorem State.pendingOn_setpoint (s : State) (p : PortId) :
    s.pendingOn p .setpoint = true ↔ (s.port p).setpointWaiting ≠ [] := by
  unfold State.pendingOn
  simp

theorem State.sideOf?_eq_some_iff (s : State) (x : Option StationId) (p : PortId) :
    s.sideOf? x = some p ↔ ∃ d, x = some d ∧ s.stations[d].side = p := Option.map_eq_some_iff

theorem State.pendingOn_notice (s : State) (p : PortId) : s.pendingOn p .notice = true ↔
    s.notices ≠ [] ∧ ∃ d, s.notifyStation = some d ∧ s.stations[d].side = p := by
  unfold State.pendingOn
  rw [Bool.and_eq_true, beq_iff_eq, State.sideOf?_eq_some_iff]
  simp

theorem State.pendingOn_labelRow (s : State) (p : PortId) : s.pendingOn p .labelRow = true ↔
    s.labels.queue ≠ [] ∧ s.labels.head = some .sending ∧ s.labels.nextRow < 8
      ∧ ∃ d, s.holder .printer = some d ∧ s.stations[d].side = p := by
  unfold State.pendingOn LabelUnit.rowsLeft
  rw [Bool.and_eq_true, Bool.and_eq_true, Bool.and_eq_true, beq_iff_eq, beq_iff_eq, decide_eq_true_eq,
    State.sideOf?_eq_some_iff]
  simp
  tauto

/-! ### The offer of the freed entry (R16) -/

section
variable {s : State} {p : PortId}

theorem State.offered_none (h : ∀ c, s.pendingOn p c = false) : (s.freed p).offer p = s.freed p := by
  have absent : ((s.freed p).port p).lastServed.after.find? ((s.freed p).pendingOn p) = none :=
    List.find?_eq_none.mpr (fun c _ => by rw [State.freed_pendingOn, h]; exact Bool.false_ne_true)
  unfold State.offer
  rw [absent]

theorem State.offered_class {c : SourceClass} (h : (s.port p).lastServed.after.find? (s.pendingOn p) = some c) :
    (s.freed p).offer p = ((s.freed p).placeFrom p c).modPort p (fun q => { q with lastServed := c }) := by
  have pending : (s.freed p).pendingOn p = s.pendingOn p := funext (State.freed_pendingOn p s)
  have served : ((s.freed p).port p).lastServed = (s.port p).lastServed := by cases p <;> rfl
  unfold State.offer
  rw [served, pending, h]

variable {x : List Byte} {rest : List (List Byte)}

theorem State.offered_reply {r : PendingReply} (h : (s.port p).lastServed.after.find? (s.pendingOn p) = some .reply)
    (slot : s.replySlot = some r) (queue : (s.port p).localQueue = x :: rest) :
    (s.freed p).offer p = { s.setPort p { s.port p with
        localQueue := rest ++ [telegram (stationByte r.dest) (stationByte s.own) 0x51 s.sendCounter r.payload]
        sending := none, turn := .pass, lastServed := .reply } with
      sendCounter := s.sendCounter + 1, replySlot := none } := by
  obtain ⟨r', slot', here⟩ := (s.pendingOn_reply p).mp (List.find?_some h)
  obtain rfl : r = r' := Option.some.inj (slot.symm.trans slot')
  have placed : (s.freed p).placeReply = { (s.freed p).place p r.dest kindReply r.payload with replySlot := none } := by
    have kept : (s.freed p).replySlot = some r := by
      rw [← slot]
      cases p <;> rfl
    unfold State.placeReply
    rw [kept, ← here]
  rw [State.offered_class h]
  unfold State.placeFrom
  dsimp only
  rw [placed, ← List.tail_cons (a := x) (as := rest), ← queue]
  cases p <;> rfl

theorem State.offered_setpoint {k : KilnId} {ks : List KilnId} {d : StationId} {m : Nat} {sp : TempPair}
    (h : (s.port p).lastServed.after.find? (s.pendingOn p) = some .setpoint)
    (waiting : (s.port p).setpointWaiting = k :: ks) (holder : s.holder (.actuator k) = some d)
    (mode : (s.kiln k).state.setpointMode = some m) (setpoints : (s.kiln k).setpoints = some sp)
    (queue : (s.port p).localQueue = x :: rest) :
    (s.freed p).offer p = { s.setPort p { s.port p with
        localQueue := rest ++ [telegram (stationByte d) (stationByte s.own) 0x30 s.sendCounter
          (be8 k.val ++ be8 m ++ beI16 sp.dry ++ beI16 sp.wet ++ be8 (if (s.kiln k).fan = .reverse then 1 else 0))]
        sending := none, turn := .pass, lastServed := .setpoint, setpointWaiting := ks } with
      sendCounter := s.sendCounter + 1 } := by
  have fan : (s.kiln k).fan.code = if (s.kiln k).fan = .reverse then 1 else 0 := by cases (s.kiln k).fan <;> rfl
  have payload : (s.kiln k).setpointPayload k = some
      (be8 k.val ++ be8 m ++ beI16 sp.dry ++ beI16 sp.wet ++ be8 (if (s.kiln k).fan = .reverse then 1 else 0)) := by
    unfold Kiln.setpointPayload
    rw [mode, setpoints, fan]
  have freed : ((s.freed p).port p).setpointWaiting = k :: ks := by
    rw [← waiting]
    cases p <;> rfl
  have placed (u : State) (hu : u.holder (.actuator k) = some d) (hk : u.kiln k = s.kiln k) :
      u.placeSetpoint k p = u.place p d kindSetpoint
        (be8 k.val ++ be8 m ++ beI16 sp.dry ++ beI16 sp.wet ++ be8 (if (s.kiln k).fan = .reverse then 1 else 0)) := by
    unfold State.placeSetpoint
    rw [hu, hk, payload]
  rw [State.offered_class h]
  unfold State.placeFrom
  dsimp only
  rw [freed]
  dsimp only
  rw [placed _ (by rw [← holder]; cases p <;> rfl) (by cases p <;> rfl), ← List.tail_cons (a := x) (as := rest), ← queue]
  cases p <;> rfl

theorem State.offered_notice {n : Notice} {ns : List Notice} {d : StationId}
    (h : (s.port p).lastServed.after.find? (s.pendingOn p) = some .notice) (notices : s.notices = n :: ns)
    (notify : s.notifyStation = some d) (queue : (s.port p).localQueue = x :: rest) :
    (s.freed p).offer p = { s.setPort p { s.port p with
        localQueue := rest ++ [telegram (stationByte d) (stationByte s.own) 0x52 s.sendCounter
          (beBool n.kind.isAlarm ++ be8 n.kind.code ++ be8 s.dropCount ++ n.data)]
        sending := none, turn := .pass, lastServed := .notice } with
      sendCounter := s.sendCounter + 1, notices := ns, dropCount := 0 } := by
  have placed : (s.freed p).placeNotice p =
      { (s.freed p).place p d kindNotice (n.payload s.dropCount) with notices := ns, dropCount := 0 } := by
    have kept : (s.freed p).notices = n :: ns := by
      rw [← notices]
      cases p <;> rfl
    have station : (s.freed p).notifyStation = some d := by
      rw [← notify]
      cases p <;> rfl
    unfold State.placeNotice
    rw [kept, station]
    cases p <;> rfl
  rw [State.offered_class h]
  unfold State.placeFrom
  dsimp only
  rw [placed, ← List.tail_cons (a := x) (as := rest), ← queue]
  cases p <;> rfl

theorem State.offered_row {l : Label} {ls : List Label} {d : StationId}
    (h : (s.port p).lastServed.after.find? (s.pendingOn p) = some .labelRow) (labels : s.labels.queue = l :: ls)
    (printer : s.holder .printer = some d) (queue : (s.port p).localQueue = x :: rest) :
    (s.freed p).offer p = { s.setPort p { s.port p with
        localQueue := rest ++ [telegram (stationByte d) (stationByte s.own) 0x40 s.sendCounter
          (be32 l.pack.toNat ++ be8 s.labels.nextRow ++ be8 (if s.labels.nextRow = 7 then 1 else 0)
            ++ l.rows.getD s.labels.nextRow [])]
        sending := none, turn := .pass, lastServed := .labelRow } with
      sendCounter := s.sendCounter + 1, labels := { s.labels with nextRow := s.labels.nextRow + 1 } } := by
  have placed : (s.freed p).placeRow p = ((s.freed p).place p d kindLabelRow (l.rowPayload s.labels.nextRow)).modLabels
      (fun u => { u with nextRow := u.nextRow + 1 }) := by
    have kept : (s.freed p).labels.queue = l :: ls := by
      rw [← labels]
      cases p <;> rfl
    have station : (s.freed p).holder .printer = some d := by
      rw [← printer]
      cases p <;> rfl
    unfold State.placeRow
    rw [kept, station]
    cases p <;> rfl
  rw [State.offered_class h]
  unfold State.placeFrom
  dsimp only
  rw [placed, ← List.tail_cons (a := x) (as := rest), ← queue]
  cases p <;> rfl

end

theorem State.Adds.of_offer (p : PortId) (s : State) : s.Adds (s.offer p) := by
  unfold State.offer
  split
  · next c _ =>
      refine State.Adds.trans ?_ (.of_modPort p _ _)
      unfold State.placeFrom
      cases c with
      | reply => exact .of_placeReply s
      | setpoint =>
          dsimp only
          split
          · exact (State.Adds.of_modPort p _ s).trans (.of_placeSetpoint _ p _)
          · exact .refl s
      | notice => exact .of_placeNotice p s
      | labelRow => exact .of_placeRow p s
  · exact .refl s

/-! ### After the offer (R24, R184) -/

theorem State.afterOffer_idle {u : State} (final : Bool) (h : u.requests = []) : u.afterOffer final = u.reportRow final := by
  have none : (u.reportRow final).requests = [] := by
    cases final
    · exact h
    · exact h
  unfold State.afterOffer
  rw [h, if_neg (by simp), State.drain_stops _ (.inl none)]

theorem State.afterOffer_plain (u : State) : u.afterOffer false = u.drain := rfl

theorem State.afterOffer_adds (final : Bool) (u : State) : u.Adds (u.afterOffer final) := by
  have awaits (v : State) : v.Adds v.awaitPrint := .of_ports
  have draws (v : State) : v.Adds (v.drewFree 1) := .of_ports
  unfold State.afterOffer
  split
  · split
    · exact ((draws u).trans (awaits _)).trans (State.drain_adds _)
    · exact ((draws u).trans (State.drain_adds _)).trans (awaits _)
  · have reported : u.Adds (u.reportRow final) := by
      cases final
      · exact .refl u
      · exact awaits u
    exact reported.trans (State.drain_adds _)

theorem State.reportRow_keeps (final : Bool) (u : State) : (∀ p, (u.reportRow final).port p = u.port p)
    ∧ (u.reportRow final).sendCounter = u.sendCounter ∧ (u.reportRow final).replySlot = u.replySlot
    ∧ (u.reportRow final).notices = u.notices ∧ (u.reportRow final).dropCount = u.dropCount
    ∧ (u.reportRow final).labels.nextRow = u.labels.nextRow ∧ (u.reportRow final).labels.queue = u.labels.queue := by
  cases final
  · exact ⟨fun _ => rfl, rfl, rfl, rfl, rfl, rfl, rfl⟩
  · exact ⟨fun p => by cases p <;> rfl, rfl, rfl, rfl, rfl, rfl, rfl⟩

theorem State.completesLabel_iff {s : State} {p : PortId} {x : List Byte} {rest : List (List Byte)}
    (queue : (s.port p).localQueue = x :: rest) : s.completesLabel p = true ↔
      s.labels.head = some .sending ∧ s.labels.nextRow = 8 ∧ x.getD 3 0 = 0x40 ∧ u8 x 11 = 1 := by
  have kind : (x.getD 3 0 == kindLabelRow) = true ↔ x.getD 3 0 = 0x40 := beq_iff_eq
  unfold State.completesLabel
  rw [queue]
  dsimp only
  unfold isFinalRow LabelUnit.awaitsFinal
  rw [Bool.and_eq_true, Bool.and_eq_true, Bool.and_eq_true, kind, beq_iff_eq, beq_iff_eq, beq_iff_eq]
  tauto

theorem rowTelegram_kind (dest source sequence : Byte) (n row : Nat) (text : List Byte) :
    (telegram dest source 0x40 sequence (be32 n ++ be8 row ++ be8 (if row = 7 then 1 else 0) ++ text)).getD 3 0 = 0x40
    ∧ (u8 (telegram dest source 0x40 sequence (be32 n ++ be8 row ++ be8 (if row = 7 then 1 else 0) ++ text)) 11 = 1
      ↔ row = 7) := by
  have flags : u8 (telegram dest source 0x40 sequence (be32 n ++ be8 row ++ be8 (if row = 7 then 1 else 0) ++ text)) 11
      = (BitVec.ofNat 8 (if row = 7 then 1 else 0)).toNat := rfl
  refine ⟨rfl, ?_⟩
  rw [flags]
  split
  · next last => exact ⟨fun _ => last, fun _ => rfl⟩
  · next other => exact ⟨fun one => absurd one (by decide), fun last => absurd last other⟩

/-- Settles O7: the transmitter by its port, an offer by the class that takes it, and what follows by the requests that wait. -/
theorem transmittersAlternateAndOffer : Obligations.TransmittersAlternateAndOffer := by
  unfold Obligations.TransmittersAlternateAndOffer
  refine ⟨⟨fun s p idle => ?arbiter, fun straps eye encA encB p => by cases p <;> rfl⟩,
    fun s p x rest sending queue idle => ?offer, ⟨⟨rfl, rfl, rfl, rfl⟩, fun s p => ⟨s.pendingOn_reply p, s.pendingOn_setpoint p,
      s.pendingOn_notice p, s.pendingOn_labelRow p⟩⟩,
    fun s p x rest sending queue => ?final, fun dest source sequence n row text => rowTelegram_kind dest source sequence n row text⟩
  case arbiter =>
    refine ⟨fun ⟨waited, still⟩ => ?_, fun h => congrArg Host.Outcome.next (State.startSending_waits h),
      fun none => congrArg Host.Outcome.next (State.completeSending_none none),
      fun pass => congrArg Host.Outcome.next (State.completeSending_pass pass), fun loc => ?_⟩
    · refine congrArg Host.Outcome.next ((State.startSending_starts waited still).trans ?_)
      rw [Port.nextQueue_eq]
    · have added : (s.freed p).Adds (s.completeSending p) :=
        State.completeSending_loc loc ▸ (State.Adds.of_offer p _).trans (State.afterOffer_adds _ _)
      obtain ⟨sending, turn, pass, queue⟩ := added p
      obtain ⟨sending', turn', pass', -⟩ := added (otherPort p)
      have self : (s.freed p).port p = { s.port p with
        localQueue := (s.port p).localQueue.tail, sending := none, turn := .pass } := State.port_modPort_self p _ s
      have other : (s.freed p).port (otherPort p) = s.port (otherPort p) :=
        State.port_modPort_other p _ (otherPort_ne p) _ s
      rw [self] at sending turn pass queue
      rw [other] at sending' turn' pass'
      exact ⟨s.completeSending p, rfl, sending, turn, pass, queue, sending', turn', pass'⟩
  case offer =>
    have quiet : ((s.freed p).offer p).requests = [] :=
      (State.requests_of_inner ((State.offer_inner p _).trans (State.modPort_inner p _ s))).trans idle
    have completed : s.completeSending p = ((s.freed p).offer p).reportRow (s.completesLabel p) :=
      (State.completeSending_loc sending).trans (State.afterOffer_idle _ quiet)
    obtain ⟨port, counter, slot, notices, drops, row, -⟩ := State.reportRow_keeps (s.completesLabel p) ((s.freed p).offer p)
    rw [← completed] at port counter slot notices drops row
    refine ⟨s.completeSending p, rfl, fun none => ?_, fun r found pending => ?_, fun k ks d m sp found waiting holder mode now => ?_,
      fun n ns d found queued notify => ?_, fun l ls d found labels printer => ?_⟩
    · rw [port, counter, State.offered_none none]
      unfold State.freed
      rw [State.port_modPort_self, queue, State.modPort_sendCounter]
      exact ⟨rfl, rfl, rfl⟩
    · rw [port, counter, slot, State.offered_reply found pending queue]
      cases p <;> exact ⟨rfl, rfl, rfl, rfl⟩
    · rw [port, counter, State.offered_setpoint found waiting holder mode now queue]
      cases p <;> exact ⟨rfl, rfl, rfl, rfl⟩
    · rw [port, counter, notices, drops, State.offered_notice found queued notify queue]
      cases p <;> exact ⟨rfl, rfl, rfl, rfl, rfl⟩
    · rw [port, counter, row, State.offered_row found labels printer queue]
      cases p <;> exact ⟨rfl, rfl, rfl, rfl⟩
  case final =>
    intro final
    have inner : ((s.freed p).offer p).inner = s.inner := (State.offer_inner p _).trans (State.modPort_inner p _ s)
    refine ⟨fun idle => ?_, fun r first others plain found pending waiting => ?_⟩
    · have completed : s.completeSending p = ((s.freed p).offer p).reportRow (s.completesLabel p) :=
        (State.completeSending_loc sending).trans (State.afterOffer_idle _ ((State.requests_of_inner inner).trans idle))
      have queueKept : ((s.freed p).offer p).labels.queue = s.labels.queue := (congrArg (fun u => u.labels.queue) inner :)
      obtain ⟨-, -, -, -, -, -, kept⟩ := State.reportRow_keeps (s.completesLabel p) ((s.freed p).offer p)
      refine ⟨s.completeSending p, rfl, by rw [completed, kept, queueKept], fun last => ?_, fun notLast => ?_⟩
      · rw [completed, (State.completesLabel_iff queue).mpr last]
        exact ⟨rfl, rfl, (congrArg (fun u => u.line.settings.labelTimeout) inner :)⟩
      · rw [completed, Bool.eq_false_iff.mpr (mt (State.completesLabel_iff queue).mp notLast)]
        exact ⟨(congrArg (fun u => u.labels.head) inner :), (congrArg (fun u => u.labels.timer) inner :),
          (congrArg (fun u => u.labels.timeoutInUse) inner :)⟩
    · intro placed
      refine congrArg Host.Outcome.next ((State.completeSending_loc sending).trans ?_)
      rw [Bool.eq_false_iff.mpr (mt (State.completesLabel_iff queue).mp plain), State.afterOffer_plain,
        State.offered_reply found pending queue]
      refine (State.drain_head _ first others ?_ rfl).trans ?_
      · rw [← waiting]
        cases p <;> rfl
      · rfl

end Sys2Proof.Machine
end

section
/-! PROOFS. The statement on WRITE_STATION and the production of setpoints and label rows (R12, R13, R15, R17, R41, R183, R184). -/

namespace Sys2Proof.Machine

/-! ### The production of a SETPOINT (R15, R17, R97, R98) -/

theorem State.setpointPort_eq (s : State) (k : KilnId) :
    s.setpointPort k = (s.holder (.actuator k)).map (fun d => s.stations[d].side) := rfl

theorem State.produceSetpoint_unmapped {s : State} {k : KilnId} (h : s.holder (.actuator k) = none) :
    s.produceSetpoint k = s := by
  unfold State.produceSetpoint
  rw [State.setpointPort_eq, h]
  rfl

section
variable {s : State} {k : KilnId} {d : StationId}

theorem State.produceSetpoint_mapped (h : s.holder (.actuator k) = some d) : s.produceSetpoint k =
    if (s.port s.stations[d].side).setpointWaiting.contains k then s
    else if (s.port s.stations[d].side).setpointWaiting.isEmpty && s.mayPlace s.stations[d].side .setpoint then
      s.placeSetpoint k s.stations[d].side
    else s.modPort s.stations[d].side (fun q => { q with setpointWaiting := q.setpointWaiting ++ [k] }) := by
  unfold State.produceSetpoint
  rw [State.setpointPort_eq, h]
  rfl

theorem State.produceSetpoint_keeps (h : s.holder (.actuator k) = some d)
    (waits : k ∈ (s.port s.stations[d].side).setpointWaiting) : s.produceSetpoint k = s :=
  (State.produceSetpoint_mapped h).trans (if_pos (List.contains_iff_mem.mpr waits))

theorem KilnState.setpointMode_eq {x : KilnState} (h : x ≠ .idle) : x.setpointMode =
    some (if x = .stopped then 0 else if x = .running ∨ x = .held then 2 else 1) := by
  cases x with
  | idle => exact absurd rfl h
  | _ => rfl

theorem Kiln.setpointPayload_eq (k : KilnId) {q : Kiln} {now : TempPair} (busy : q.state ≠ .idle)
    (h : q.setpoints = some now) : q.setpointPayload k = some (be8 k.val
      ++ be8 (if q.state = .stopped then 0 else if q.state = .running ∨ q.state = .held then 2 else 1)
      ++ beI16 now.dry ++ beI16 now.wet ++ be8 (if q.fan = .reverse then 1 else 0)) := by
  have fan : q.fan.code = if q.fan = .reverse then 1 else 0 := by cases q.fan <;> rfl
  unfold Kiln.setpointPayload
  rw [KilnState.setpointMode_eq busy, h, fan]

theorem State.produceSetpoint_places {now : TempPair} (h : s.holder (.actuator k) = some d)
    (absent : k ∉ (s.port s.stations[d].side).setpointWaiting) (room : (s.port s.stations[d].side).localQueue.length < 16)
    (quiet : ∀ c, s.pendingOn s.stations[d].side c = false) (busy : (s.kiln k).state ≠ .idle)
    (setpoints : (s.kiln k).setpoints = some now) :
    s.produceSetpoint k = s.place s.stations[d].side d kindSetpoint (be8 k.val
      ++ be8 (if (s.kiln k).state = .stopped then 0
          else if (s.kiln k).state = .running ∨ (s.kiln k).state = .held then 2 else 1)
      ++ beI16 now.dry ++ beI16 now.wet ++ be8 (if (s.kiln k).fan = .reverse then 1 else 0)) := by
  have empty : (s.port s.stations[d].side).setpointWaiting.isEmpty = true := by
    have none := quiet .setpoint
    unfold State.pendingOn at none
    simpa using none
  have may : s.mayPlace s.stations[d].side .setpoint = true := (State.mayPlace_iff _ _ _).mpr ⟨room, fun c _ => quiet c⟩
  rw [State.produceSetpoint_mapped h, if_neg (mt List.contains_iff_mem.mp absent), empty, may]
  refine (if_pos rfl).trans ?_
  unfold State.placeSetpoint
  rw [h, Kiln.setpointPayload_eq k busy setpoints]

theorem State.produceSetpoint_waits (h : s.holder (.actuator k) = some d)
    (absent : k ∉ (s.port s.stations[d].side).setpointWaiting)
    (full : 16 ≤ (s.port s.stations[d].side).localQueue.length ∨ ∃ c, s.pendingOn s.stations[d].side c = true) :
    s.produceSetpoint k =
      s.modPort s.stations[d].side (fun q => { q with setpointWaiting := q.setpointWaiting ++ [k] }) := by
  rw [State.produceSetpoint_mapped h, if_neg (mt List.contains_iff_mem.mp absent)]
  refine if_neg (fun both => ?_)
  obtain ⟨empty, may⟩ := (Bool.and_eq_true _ _).mp both
  obtain ⟨room, quiet⟩ := (State.mayPlace_iff _ _ _).mp may
  rcases full with long | ⟨c, pending⟩
  · omega
  · by_cases setpoint : c = .setpoint
    · subst setpoint
      exact (State.pendingOn_setpoint s _).mp pending (List.isEmpty_iff.mp empty)
    · exact Bool.false_ne_true ((quiet c setpoint).symm.trans pending)

end

/-! ### The production of label rows (R15, R184) -/

theorem LabelUnit.rowsLeft_iff (u : LabelUnit) :
    u.rowsLeft = true ↔ u.head = some .sending ∧ u.nextRow < 8 ∧ u.queue ≠ [] := by
  unfold LabelUnit.rowsLeft
  rw [Bool.and_eq_true, Bool.and_eq_true, beq_iff_eq, decide_eq_true_eq]
  simp [and_assoc]

theorem produceRowsFuel_stops (n : Nat) {s : State} (h : s.labels.rowsLeft = false ∨ s.holder .printer = none) :
    produceRowsFuel n s = s := by
  cases n with
  | zero => rfl
  | succ n =>
      unfold produceRowsFuel
      split
      · rfl
      · next p side =>
          rcases h with none | unmapped
          · rw [none]
            rfl
          · rw [unmapped] at side
            cases side

theorem produceRowsFuel_waits (n : Nat) {s : State} {d : StationId} (printer : s.holder .printer = some d)
    (h : s.mayPlace s.stations[d].side .labelRow = false) : produceRowsFuel n s = s := by
  cases n with
  | zero => rfl
  | succ n =>
      unfold produceRowsFuel
      rw [printer, State.sideOf?_some]
      dsimp only
      rw [h, Bool.and_false]
      rfl

theorem produceRowsFuel_places (n : Nat) {s : State} {d : StationId} (left : s.labels.rowsLeft = true)
    (printer : s.holder .printer = some d) (h : s.mayPlace s.stations[d].side .labelRow = true) :
    produceRowsFuel (n + 1) s = produceRowsFuel n (s.placeRow s.stations[d].side) := by
  conv_lhs => unfold produceRowsFuel
  rw [printer, State.sideOf?_some]
  dsimp only
  rw [h, left]
  rfl

theorem State.placeRow_eq {s : State} {p : PortId} {l : Label} {ls : List Label} {d : StationId}
    (queue : s.labels.queue = l :: ls) (printer : s.holder .printer = some d) :
    s.placeRow p = { s.modPort p (fun q => { q with localQueue := q.localQueue
        ++ [telegram (stationByte d) (stationByte s.own) 0x40 s.sendCounter
          (be32 l.pack.toNat ++ be8 s.labels.nextRow ++ be8 (if s.labels.nextRow = 7 then 1 else 0)
            ++ l.rows.getD s.labels.nextRow [])] }) with
      sendCounter := s.sendCounter + 1, labels := { s.labels with nextRow := s.labels.nextRow + 1 } } := by
  unfold State.placeRow
  rw [queue, printer]
  cases p <;> rfl

/-- Any fuel that reaches the last row produces the same rows. -/
theorem produceRowsFuel_enough (n m : Nat) (s : State) (hn : 8 - s.labels.nextRow ≤ n) (hm : 8 - s.labels.nextRow ≤ m) :
    produceRowsFuel n s = produceRowsFuel m s := by
  induction n generalizing s m with
  | zero =>
      have done : s.labels.rowsLeft = false := Bool.eq_false_iff.mpr (fun left => by
        obtain ⟨-, low, -⟩ := s.labels.rowsLeft_iff.mp left
        omega)
      rw [produceRowsFuel_stops m (.inl done), produceRowsFuel_stops 0 (.inl done)]
  | succ n ih =>
      cases printer : s.holder .printer with
      | none => rw [produceRowsFuel_stops _ (.inr printer), produceRowsFuel_stops _ (.inr printer)]
      | some d =>
          by_cases left : s.labels.rowsLeft = true
          · by_cases may : s.mayPlace s.stations[d].side .labelRow = true
            · obtain ⟨-, low, queue⟩ := s.labels.rowsLeft_iff.mp left
              obtain ⟨l, ls, queue⟩ := List.exists_cons_of_ne_nil queue
              obtain ⟨m, rfl⟩ : ∃ m', m = m' + 1 := ⟨m - 1, by omega⟩
              rw [produceRowsFuel_places n left printer may, produceRowsFuel_places m left printer may]
              have next : (s.placeRow s.stations[d].side).labels.nextRow = s.labels.nextRow + 1 := by
                rw [State.placeRow_eq queue printer]
              exact ih m _ (by omega) (by omega)
            · rw [produceRowsFuel_waits _ printer (Bool.eq_false_iff.mpr may),
                produceRowsFuel_waits _ printer (Bool.eq_false_iff.mpr may)]
          · rw [produceRowsFuel_stops _ (.inl (Bool.eq_false_iff.mpr left)),
              produceRowsFuel_stops _ (.inl (Bool.eq_false_iff.mpr left))]

theorem State.produceRows_places {s : State} {l : Label} {ls : List Label} {d : StationId} (head : s.labels.head = some .sending)
    (low : s.labels.nextRow < 8) (queue : s.labels.queue = l :: ls) (printer : s.holder .printer = some d)
    (room : (s.port s.stations[d].side).localQueue.length < 16)
    (quiet : ∀ c, c ≠ .labelRow → s.pendingOn s.stations[d].side c = false) :
    s.produceRows = (s.placeRow s.stations[d].side).produceRows := by
  have left : s.labels.rowsLeft = true := s.labels.rowsLeft_iff.mpr ⟨head, low, queue ▸ List.cons_ne_nil l ls⟩
  have next : (s.placeRow s.stations[d].side).labels.nextRow = s.labels.nextRow + 1 := by
    rw [State.placeRow_eq queue printer]
  unfold State.produceRows
  rw [produceRowsFuel_places 7 left printer ((State.mayPlace_iff _ _ _).mpr ⟨room, quiet⟩)]
  exact produceRowsFuel_enough _ _ _ (by omega) (by omega)

/-! ### The checks of WRITE_STATION (R12) -/

theorem Role.ofCode?_code (role : Role) {kiln : Nat} (h : (∃ k, role.kiln? = some k) → kiln = role.kilnCode) :
    Role.ofCode? role.code kiln = some role := by
  cases role with
  | climate k | probe k | actuator k =>
      rw [h ⟨k, rfl⟩]
      unfold Role.ofCode? Role.code Role.kilnCode
      dsimp only
      rw [index?_val]
      rfl
  | _ => rfl

theorem Role.ofCode?_none {code kiln : Nat} (h : 6 < code ∨ (2 ≤ code ∧ code ≤ 4 ∧ 15 < kiln)) :
    Role.ofCode? code kiln = Option.none := by
  rcases h with high | ⟨low, high, far⟩
  · obtain ⟨n, rfl⟩ : ∃ n, code = n + 7 := ⟨code - 7, by omega⟩
    rfl
  · have outside : index? 16 kiln = Option.none := index?_of_le 16 _ far
    interval_cases code <;> simp [Role.ofCode?, outside]

theorem Role.ofCode?_supervisor {code kiln : Nat} (h : Role.ofCode? code kiln = some .supervisor) : code = 1 := by
  unfold Role.ofCode? at h
  split at h
  all_goals simp at h
  rfl

theorem sideOfCode?_none {n : Nat} (h : 1 < n) : sideOfCode? n = none := by
  obtain ⟨m, rfl⟩ : ∃ m, n = m + 2 := ⟨n - 2, by omega⟩
  rfl

theorem flagOfCode?_none {n : Nat} (h : 1 < n) : flagOfCode? n = none := by
  obtain ⟨m, rfl⟩ : ∃ m, n = m + 2 := ⟨n - 2, by omega⟩
  rfl

theorem sideOfCode?_eq {n : Nat} (h : n ≤ 1) : sideOfCode? n = some (if n = 1 then .b else .a) := by
  interval_cases n <;> rfl

theorem flagOfCode?_eq {n : Nat} (h : n ≤ 1) : flagOfCode? n = some (decide (n = 1)) := by
  interval_cases n <;> rfl

theorem serveWriteStation_layout (r : Request) (s : State) (h : r.args.length ≠ 6) :
    serveWriteStation r s = refuse s .badArgument := if_pos h

theorem serveWriteStation_refused (r : Request) (s : State) (layout : r.args.length = 6)
    (h : u8 r.args 0 = 255 ∨ u8 r.args 0 = s.own.val ∨ 6 < u8 r.args 1
      ∨ (2 ≤ u8 r.args 1 ∧ u8 r.args 1 ≤ 4 ∧ 15 < u8 r.args 2) ∨ 1 < u8 r.args 3 ∨ 1 < u8 r.args 5
      ∨ (u8 r.args 5 = 1 ∧ u8 r.args 1 ≠ 1)) : serveWriteStation r s = refuse s .badArgument := by
  unfold serveWriteStation
  rw [if_neg (not_not.mpr layout)]
  split
  · next d role side notify hd hrole hside hnotify =>
      have station := (index?_eq_some_iff _ d).mp hd
      have small := d.isLt
      have code (bad : 6 < u8 r.args 1 ∨ (2 ≤ u8 r.args 1 ∧ u8 r.args 1 ≤ 4 ∧ 15 < u8 r.args 2)) : False :=
        Option.some_ne_none role (hrole.symm.trans (Role.ofCode?_none bad))
      have sides (bad : 1 < u8 r.args 3) : False := Option.some_ne_none side (hside.symm.trans (sideOfCode?_none bad))
      have flags (bad : 1 < u8 r.args 5) : False := Option.some_ne_none notify (hnotify.symm.trans (flagOfCode?_none bad))
      split
      · rfl
      next other =>
      refine if_pos ?_
      rcases h with far | own | high | kiln | side | flag | ⟨flag, plain⟩
      · omega
      · exact absurd (Fin.ext (station.symm.trans own)) other
      · exact (code (.inl high)).elim
      · exact (code (.inr kiln)).elim
      · exact (sides side).elim
      · exact (flags flag).elim
      · rw [flagOfCode?_eq (by omega)] at hnotify
        obtain rfl := Option.some.inj hnotify
        rw [decide_eq_true flag, Bool.true_and]
        exact bne_iff_ne.mpr (fun supervisor => plain (Role.ofCode?_supervisor (supervisor ▸ hrole)))
  · rfl

theorem serveWriteStation_judged (r : Request) (s : State) {w : StationId} {role : Role} (layout : r.args.length = 6)
    (station : u8 r.args 0 = w.val) (other : w ≠ s.own) (code : u8 r.args 1 = role.code)
    (kiln : (∃ k, role.kiln? = some k) → u8 r.args 2 = role.kilnCode) (side : u8 r.args 3 ≤ 1) (flag : u8 r.args 5 ≤ 1)
    (notify : u8 r.args 5 = 1 → role = .supervisor) : serveWriteStation r s =
      if s.roleBlocked w role then refuse s .wrongState
      else okWith (s.writeStation w ⟨role, if u8 r.args 3 = 1 then .b else .a,
        if role = .supervisor then BitVec.ofNat 4 (u8 r.args 4) else 0, u8 r.args 5 = 1⟩) [] := by
  have plain : ¬ (decide (u8 r.args 5 = 1) && role != .supervisor) = true := fun both => by
    obtain ⟨set, bad⟩ := (Bool.and_eq_true _ _).mp both
    exact bne_iff_ne.mp bad (notify (of_decide_eq_true set))
  unfold serveWriteStation
  rw [if_neg (not_not.mpr layout), (index?_eq_some_iff _ w).mpr station, code, Role.ofCode?_code role kiln,
    sideOfCode?_eq side, flagOfCode?_eq flag]
  dsimp only
  rw [if_neg other, if_neg plain]

theorem State.roleBusy_iff (s : State) (role : Role) :
    s.roleBusy role = true ↔ ∃ k, role.kiln? = some k ∧ (s.kiln k).state ≠ .idle := by
  unfold State.roleBusy
  cases role.kiln? with
  | none => simp
  | some k => simp

theorem State.roleBlocked_iff (s : State) (w : StationId) (role : Role) : s.roleBlocked w role = true ↔
    s.stations[w].role ≠ role
      ∧ ∃ k, (role.kiln? = some k ∨ s.stations[w].role.kiln? = some k) ∧ (s.kiln k).state ≠ .idle := by
  unfold State.roleBlocked
  rw [Bool.and_eq_true, Bool.or_eq_true, State.roleBusy_iff, State.roleBusy_iff, bne_iff_ne, ← exists_or]
  simp only [or_and_right]

/-! ### What follows a change of the map (R17, R41, R183) -/

theorem State.followActuator_waits {s : State} {k : KilnId} {p : PortId} (h : k ∈ (s.port (otherPort p)).setpointWaiting) :
    s.followActuator (.actuator k) p = (s.withdrawSetpoint k).produceSetpoint k := if_pos (List.contains_iff_mem.mpr h)

theorem State.followActuator_plain {s : State} {role : Role} {p : PortId}
    (h : ∀ k, ¬ (role = .actuator k ∧ k ∈ (s.port (otherPort p)).setpointWaiting)) : s.followActuator role p = s := by
  fun_cases State.followActuator role p s
  case case1 k waits => exact absurd ⟨rfl, List.contains_iff_mem.mp waits⟩ (h k)
  all_goals rfl

theorem State.followActuator_labels (role : Role) (p : PortId) (s : State) :
    (s.followActuator role p).labels = s.labels := by
  have produced (k : KilnId) (u : State) : (u.produceSetpoint k).labels = u.labels := by
    fun_cases State.produceSetpoint k u
    case case3 q _ _ _ =>
      fun_cases State.placeSetpoint k q u
      case case1 => exact State.modPort_labels q _ u
      case case2 => rfl
    case case4 q _ _ _ => exact State.modPort_labels q _ u
    all_goals rfl
  fun_cases State.followActuator role p s
  case case1 k _ => exact (produced k _).trans ((State.modPort_labels .b _ _).trans (State.modPort_labels .a _ s))
  all_goals rfl

theorem State.followActuator_inner (role : Role) (p : PortId) (s : State) : (s.followActuator role p).inner = s.inner := by
  fun_cases State.followActuator role p s
  case case1 k _ => exact (State.produceSetpoint_inner k _).trans (State.withdrawSetpoint_inner k s)
  all_goals rfl

section
variable {s : State} {before after : Option StationId}

theorem State.followPrinter_waiting (head : s.labels.head = some .waiting) :
    s.followPrinter before after = if after.isSome then s.startHead else s := by
  unfold State.followPrinter
  rw [head]

theorem State.followPrinter_sending (head : s.labels.head = some .sending) (low : s.labels.nextRow < 8) :
    s.followPrinter before after = if before = after then s.produceRows else s.startHead := by
  unfold State.followPrinter
  rw [head]
  exact if_pos low

theorem State.followPrinter_rest (h : s.labels.head = none ∨ s.labels.head = some .awaitPrint
    ∨ (s.labels.head = some .sending ∧ 8 ≤ s.labels.nextRow)) : s.followPrinter before after = s := by
  unfold State.followPrinter
  rcases h with none | await | ⟨sending, sent⟩
  · rw [none]
  · rw [await]
  · rw [sending]
    exact if_neg (not_lt.mpr sent)

theorem State.startHead_packLog (s : State) : s.startHead.packLog = s.packLog := by
  unfold State.startHead
  split
  · rfl
  · split
    · exact (congrArg State.packLog (State.produceRows_inner _) :)
    · rfl

theorem State.followPrinter_keeps : (s.followPrinter before after).line = s.line
    ∧ (s.followPrinter before after).packLog = s.packLog ∧ (s.followPrinter before after).labels.queue = s.labels.queue := by
  have started : s.startHead.line = s.line ∧ s.startHead.packLog = s.packLog ∧ s.startHead.labels.queue = s.labels.queue :=
    ⟨s.startHead_line, s.startHead_packLog, s.startHead_queue⟩
  have produced := s.produceRows_inner
  fun_cases State.followPrinter before after s
  case case1 => exact started
  case case3 =>
    exact ⟨(congrArg State.line produced :), (congrArg State.packLog produced :), (congrArg (fun u => u.labels.queue) produced :)⟩
  case case4 => exact started
  all_goals exact ⟨rfl, rfl, rfl⟩

end

theorem State.writeStation_eq (s : State) (w : StationId) (e : Station) : s.writeStation w e =
    (((s.writeMap w e).followActuator e.role e.side).produceNotices).followPrinter (s.holder .printer)
      ((s.writeMap w e).holder .printer) := rfl

/-- Outside the map, the traffic and the head label a WRITE_STATION changes nothing. -/
theorem State.writeStation_keeps (s : State) (w : StationId) (e : Station) :
    (s.writeStation w e).stations = (s.writeMap w e).stations ∧ (s.writeStation w e).kilns = s.kilns
    ∧ (s.writeStation w e).requests = s.requests ∧ (s.writeStation w e).line = s.line
    ∧ (s.writeStation w e).packLog = s.packLog ∧ (s.writeStation w e).labels.queue = s.labels.queue := by
  have beyond := State.writeStation_beyond w e s
  have map := State.writeMap_eq s w e
  have inner : ((s.writeMap w e).followActuator e.role e.side).produceNotices.inner = (s.writeMap w e).inner :=
    (State.produceNotices_inner _).trans (State.followActuator_inner _ _ _)
  obtain ⟨line, log, queue⟩ := State.followPrinter_keeps
    (s := ((s.writeMap w e).followActuator e.role e.side).produceNotices)
    (before := s.holder .printer) (after := (s.writeMap w e).holder .printer)
  rw [← State.writeStation_eq] at line log queue
  exact ⟨(congrArg State.stations beyond :), (congrArg State.kilns beyond :).trans (congrArg State.kilns map :),
    (congrArg State.requests beyond :).trans (congrArg State.requests map :),
    (line.trans (congrArg State.line inner :)).trans (congrArg State.line map :),
    (log.trans (congrArg State.packLog inner :)).trans (congrArg State.packLog map :),
    (queue.trans (congrArg (fun u => u.labels.queue) inner :)).trans (congrArg (fun u => u.labels.queue) map :)⟩

/-- The entry of another station keeps all but the flag that the station written takes. -/
theorem State.writeMap_plain {s : State} {w x : StationId} {e : Station} (hx : x ≠ w)
    (notify : e.notify = true → e.role = .supervisor) (h : s.holder e.role ≠ some x ∨ e.role.isUnique = false) :
    (s.writeMap w e).stations[x] = { s.stations[x] with
      notify := s.stations[x].notify && !(e.notify && s.notifyStation == some x) } := by
  rw [s.writeMap_other w x e hx notify, if_neg (fun both => h.elim (fun away => away both.2)
    (fun shared => Bool.false_ne_true (shared.symm.trans both.1)))]
  by_cases taken : e.notify = true ∧ s.notifyStation = some x
  · rw [if_pos taken, taken.1, taken.2]
    simp
  · have off : (e.notify && s.notifyStation == some x) = false := Bool.eq_false_iff.mpr (fun both => by
      obtain ⟨set, found⟩ := (Bool.and_eq_true _ _).mp both
      exact taken ⟨set, beq_iff_eq.mp found⟩)
    rw [if_neg taken, off, Bool.not_false, Bool.and_true]

theorem State.moved_follows {m moved : State} {role : Role} {side : PortId}
    (waits : ∀ k, role = .actuator k ∧ k ∈ (m.port (otherPort side)).setpointWaiting →
      moved = (m.withdrawSetpoint k).produceSetpoint k)
    (plain : (∀ k, ¬ (role = .actuator k ∧ k ∈ (m.port (otherPort side)).setpointWaiting)) → moved = m) :
    moved = m.followActuator role side := by
  by_cases h : ∃ k, role = .actuator k ∧ k ∈ (m.port (otherPort side)).setpointWaiting
  · obtain ⟨k, rfl, waiting⟩ := h
    rw [waits k ⟨rfl, waiting⟩, State.followActuator_waits waiting]
  · have none := not_exists.mp h
    rw [plain none, State.followActuator_plain none]

/-- What the head label does once the map, the setpoint and the notices have followed (R183). -/
theorem State.writeStation_head {s m moved : State} {w : StationId} {e : Station} (map : m = s.writeMap w e)
    (follows : moved = m.followActuator e.role e.side) :
    let told := moved.produceNotices
    let restarted : State := { told with labels := { told.labels with head := some .sending, nextRow := 0 } }
    let t := s.writeStation w e
    (s.labels.head = some .waiting → s.labels.queue ≠ [] →
      (m.holder .printer = none → t = told) ∧ (m.holder .printer ≠ none → t = restarted.produceRows))
    ∧ (s.labels.head = some .sending → s.labels.nextRow < 8 → s.labels.queue ≠ [] →
      (m.holder .printer = s.holder .printer → t = told.produceRows)
      ∧ (m.holder .printer ≠ s.holder .printer → m.holder .printer ≠ none → t = restarted.produceRows)
      ∧ (m.holder .printer ≠ s.holder .printer → m.holder .printer = none →
          t = { told with labels := { told.labels with head := some .waiting, nextRow := 0 } }))
    ∧ ((s.labels.head = none ∨ s.labels.head = some .awaitPrint ∨ (s.labels.head = some .sending ∧ 8 ≤ s.labels.nextRow)) →
        t = told) := by
  intro told restarted t
  have made : t = told.followPrinter (s.holder .printer) (m.holder .printer) := by
    unfold t told
    rw [State.writeStation_eq, follows, map]
  have labels : told.labels = s.labels := by
    have kept : m.labels = s.labels := (congrArg State.labels (map.trans (s.writeMap_eq w e)) :)
    unfold told
    rw [State.produceNotices, produceNoticesFuel_labels, follows, State.followActuator_labels, kept]
  have stations : told.stations = m.stations := by
    have inner : told.inner = m.inner := by
      unfold told
      rw [State.produceNotices_inner, follows, State.followActuator_inner]
    exact (congrArg State.stations inner :)
  have printer : told.holder .printer = m.holder .printer := State.holder_congr stations _
  rw [← labels, made]
  refine ⟨fun head queue => ⟨fun none => ?_, fun held => ?_⟩, fun head low queue => ⟨fun same => ?_, fun moves held => ?_,
    fun moves none => ?_⟩, fun rest => State.followPrinter_rest rest⟩
  · rw [State.followPrinter_waiting head, none]
    rfl
  · rw [State.followPrinter_waiting head, if_pos (Option.isSome_iff_ne_none.mpr held)]
    exact State.startHead_sends queue (printer ▸ held)
  · rw [State.followPrinter_sending head low, if_pos same.symm]
  · rw [State.followPrinter_sending head low, if_neg (Ne.symm moves)]
    exact State.startHead_sends queue (printer ▸ held)
  · rw [State.followPrinter_sending head low, if_neg (Ne.symm moves)]
    exact State.startHead_waits queue (printer.trans none)

/-- Settles O8: the checks in their order, the map entry by entry, and what follows it by the head label's state. -/
theorem writeStationFollowsItsChecks : Obligations.WriteStationFollowsItsChecks := by
  unfold Obligations.WriteStationFollowsItsChecks
  refine ⟨fun s d p g a ready => ?station, fun s k => ⟨rfl, State.produceSetpoint_unmapped, fun d holder => ?setpoint⟩,
    fun s => ⟨fun h => ?still, fun l ls d head low queue printer => ?rows⟩⟩
  case setpoint =>
    exact ⟨State.produceSetpoint_keeps holder, fun now absent room quiet busy setpoints =>
      State.produceSetpoint_places holder absent room quiet busy setpoints, State.produceSetpoint_waits holder⟩
  case still =>
    refine produceRowsFuel_stops 8 ((Classical.em (s.holder .printer = none)).symm.imp (fun held => ?_) id)
    refine Bool.eq_false_iff.mpr (fun left => ?_)
    obtain ⟨sending, low, queue⟩ := s.labels.rowsLeft_iff.mp left
    rcases h with other | done | empty | unmapped
    · exact other sending
    · omega
    · exact queue empty
    · exact held unmapped
  case rows =>
    refine ⟨fun room quiet => ?_, fun full => ?_⟩
    · exact (State.produceRows_places head low queue printer room quiet).trans
        (congrArg State.produceRows (State.placeRow_eq queue printer))
    · exact produceRowsFuel_waits 8 printer ((State.mayPlace_eq_false_iff _ _ _).mpr full)
  case station =>
    refine ⟨fun layout => exec_reply rfl ready (serveWriteStation_layout (requestFor .writeStation d p g a) s layout),
      fun layout bad => exec_reply rfl ready (serveWriteStation_refused (requestFor .writeStation d p g a) s layout bad),
      fun w role layout station other code kiln side flag notify => ?_⟩
    have judged := serveWriteStation_judged (requestFor .writeStation d p g a) s layout station other code kiln side flag notify
    refine ⟨fun ⟨changes, k, named, busy⟩ => exec_reply rfl ready (judged.trans (if_pos
      ((s.roleBlocked_iff w role).mpr ⟨changes, k, named, busy⟩))), fun free => ?_⟩
    have allowed : ¬ s.roleBlocked w role = true := fun blocked => by
      obtain ⟨changes, k, named, busy⟩ := (s.roleBlocked_iff w role).mp blocked
      exact busy (free k changes named)
    have served := judged.trans (if_neg allowed)
    let e : Station := ⟨role, if u8 a 3 = 1 then .b else .a, if role = .supervisor then BitVec.ofNat 4 (u8 a 4) else 0, u8 a 5 = 1⟩
    have flagged : e.notify = true → e.role = .supervisor := fun set => notify (of_decide_eq_true set)
    obtain ⟨stations, kilns, requests, line, log, queue⟩ := s.writeStation_keeps w e
    refine ⟨s.writeStation w e, exec_reply rfl ready served, ?_, fun x hx holder unique => ?_, fun x hx away => ?_, kilns, line,
      log, requests, queue, ?_⟩
    · rw [stations]
      exact s.writeMap_self w e
    · rw [stations, s.writeMap_other w x e hx flagged, if_pos ⟨unique, holder⟩]
      rfl
    · rw [stations]
      exact State.writeMap_plain (e := e) hx flagged away
    · intro m waits moved waiting plain
      have map : m = s.writeMap w e :=
        (congrArg (fun x => ({ s with stations := x } : State)) stations).trans (s.writeMap_eq w e).symm
      refine State.writeStation_head map (State.moved_follows waiting plain)

end Sys2Proof.Machine
end

section
/-! PROOFS. A kiln unit's hold stack and its charge record (R77, R95, R104): what keeps them legal and in agreement. -/

namespace Sys2Proof.Machine

/-! ### Hold stacks (R104, R116) -/

theorem HoldEntry.fault?_eq_some {e : HoldEntry} {f : FaultKind} : e.fault? = some f ↔ ∃ a, e.kind = .fault f a := by
  unfold HoldEntry.fault?
  split <;> simp_all

theorem Kiln.backs_iff {q : Kiln} {e : HoldEntry} :
    q.Backs e ↔ ∀ f a, e.kind = .fault f a → q.latches.get f = some a ∧ (a = .hold ∨ a = .safe) := by
  unfold Kiln.Backs
  split <;> simp_all

namespace Kiln.HoldsLegal

variable {q r : Kiln}

/-- Outside HELD the stack is empty, and an empty stack is legal there. -/
theorem of_empty (stack : q.stack = []) (state : q.state ≠ .held) : q.HoldsLegal := by
  simp [Kiln.HoldsLegal, stack, state]

theorem empty (h : q.HoldsLegal) (state : q.state ≠ .held) : q.stack = [] := by
  obtain ⟨-, held, -⟩ := h
  exact not_not.mp fun some => state (held.mp some)

/-- The kinds in the stack are latched, so a kind with its latch clear is not among them. -/
theorem fresh (h : q.HoldsLegal) {f : FaultKind} (clear : q.latches.get f = none) : ∀ e ∈ q.stack, e.fault? ≠ some f := by
  obtain ⟨-, -, -, -, backed⟩ := h
  intro e he same
  obtain ⟨a, kind⟩ := HoldEntry.fault?_eq_some.mp same
  have latched := (Kiln.backs_iff.mp (backed e he) f a kind).1
  exact nomatch clear.symm.trans latched

/-- The stack stays, and so do the latches that back it. -/
theorem of_latches (h : q.HoldsLegal) (stack : r.stack = q.stack) (state : r.state = q.state)
    (latches : q.stack ≠ [] → ∀ f a, q.latches.get f = some a → a = .hold ∨ a = .safe → r.latches.get f = some a) :
    r.HoldsLegal := by
  obtain ⟨depth, held, once, bottom, backed⟩ := h
  refine ⟨stack ▸ depth, by rw [stack, state]; exact held, stack ▸ once, stack ▸ bottom, fun e he => ?_⟩
  refine Kiln.backs_iff.mpr fun f a kind => ?_
  obtain ⟨latched, acts⟩ := Kiln.backs_iff.mp (backed e (stack ▸ he)) f a kind
  exact ⟨latches (List.ne_nil_of_mem (stack ▸ he)) f a latched acts, acts⟩

/-- A latch that was clear is set. -/
theorem latch (h : q.HoldsLegal) {f : FaultKind} (clear : q.latches.get f = none) (a : FaultAction) :
    (q.latch f a).HoldsLegal :=
  h.of_latches rfl rfl fun _ f' a' latched _ => by
    have other : f' ≠ f := fun same => nomatch (same ▸ clear).symm.trans latched
    exact (PerFault.get_set_other _ other _).trans latched

/-- An entry is pushed where the stack has room. -/
theorem push (h : q.HoldsLegal) {e : HoldEntry} (stack : r.stack = e :: q.stack) (state : r.state = .held)
    (latches : r.latches = q.latches) (room : q.stack.length < 4) (bottom : e.kind = .schedule → q.stack = [])
    (new : ∀ f, e.fault? = some f → ∀ x ∈ q.stack, x.fault? ≠ some f) (latched : q.Backs e) : r.HoldsLegal := by
  obtain ⟨-, -, once, low, backed⟩ := h
  have backs (x : HoldEntry) (hx : q.Backs x) : r.Backs x := by
    rw [Kiln.backs_iff, latches]
    exact Kiln.backs_iff.mp hx
  refine ⟨by rw [stack]; exact Nat.succ_le_of_lt room, by simp [stack, state], ?_, ?_, ?_⟩
  · rw [stack, List.filterMap_cons]
    split
    · exact once
    · next f fault =>
        refine List.nodup_cons.mpr ⟨fun there => ?_, once⟩
        obtain ⟨x, hx, same⟩ := List.mem_filterMap.mp there
        exact new f fault x hx same
  · rw [stack]
    intro x hx
    cases rest : q.stack with
    | nil =>
      rw [rest] at hx
      exact absurd hx List.not_mem_nil
    | cons y l =>
      rw [rest, List.dropLast_cons_cons] at hx
      rcases List.mem_cons.mp hx with rfl | hx
      · exact fun schedule => nomatch rest.symm.trans (bottom schedule)
      · exact low x (by rw [rest]; exact hx)
  · rw [stack]
    intro x hx
    rcases List.mem_cons.mp hx with rfl | hx
    · exact backs x latched
    · exact backs x (backed x hx)

/-- A SCHEDULE entry on top is the only one. -/
theorem schedule_alone (h : q.HoldsLegal) {top : HoldEntry} {rest : List HoldEntry} (stack : q.stack = top :: rest)
    (kind : top.kind = .schedule) : rest = [] := by
  obtain ⟨-, -, -, low, -⟩ := h
  cases rest with
  | nil => rfl
  | cons x l => exact absurd kind (low top (by rw [stack]; exact List.mem_cons_self))

/-- The top entry is popped from a stack that has others, and its latch may go. -/
theorem pop (h : q.HoldsLegal) {top : HoldEntry} {rest : List HoldEntry} (stack : q.stack = top :: rest)
    (more : rest ≠ []) (popped : r.stack = rest) (state : r.state = q.state)
    (latches : ∀ f, top.fault? ≠ some f → r.latches.get f = q.latches.get f) : r.HoldsLegal := by
  obtain ⟨depth, held, once, low, backed⟩ := h
  rw [stack] at depth held once low backed
  refine ⟨by rw [popped]; exact (Nat.le_succ _).trans depth, ?_, ?_, ?_, fun x hx => ?_⟩
  · rw [popped, state]
    exact iff_of_true more (held.mp (List.cons_ne_nil _ _))
  · rw [popped]
    rw [List.filterMap_cons] at once
    split at once
    · exact once
    · exact (List.nodup_cons.mp once).2
  · rw [popped]
    intro x hx
    refine low x ?_
    obtain ⟨y, l, rfl⟩ := List.exists_cons_of_ne_nil more
    rw [List.dropLast_cons_cons]
    exact List.mem_cons_of_mem _ hx
  · rw [popped] at hx
    refine Kiln.backs_iff.mpr fun f a kind => ?_
    obtain ⟨latched, acts⟩ := Kiln.backs_iff.mp (backed x (List.mem_cons_of_mem _ hx)) f a kind
    refine ⟨(latches f fun same => ?_).trans latched, acts⟩
    rw [List.filterMap_cons_some same] at once
    exact (List.nodup_cons.mp once).1 (List.mem_filterMap.mpr ⟨x, hx, HoldEntry.fault?_eq_some.mpr ⟨a, kind⟩⟩)

end Kiln.HoldsLegal

/-! ### A kiln unit and its charge record (R77, R95) -/

/-- The index of the kiln's position. -/
def Kiln.index? (q : Kiln) : Option Nat := q.position.map StepPosition.index

/-- What the agreement reads of a kiln unit. -/
def Kiln.core (q : Kiln) : KilnState × Option Nat × Bool × List HoldEntry := (q.state, q.index?, q.entryPending, q.stack)

/-- A kiln unit and its charge record agree in state, and the record's history is no longer than the step index. -/
structure Kiln.Fits (q : Kiln) (c : Charge) (i : Nat) : Prop where
  state : q.state.chargeState = some c.state
  index : q.index? = some i
  history : c.history.length ≤ i
  most : i ≤ 24
  below : q.entryPending = false → q.state ≠ .done → i < 24
  entered : q.state = .loaded ∨ q.state = .running → q.entryPending = false
  pending : q.state = .held → (q.entryPending = true ↔ ∃ e ∈ q.stack, e.kind = .schedule)

theorem Kiln.core_eq_iff {q r : Kiln} : r.core = q.core ↔
    r.state = q.state ∧ r.index? = q.index? ∧ r.entryPending = q.entryPending ∧ r.stack = q.stack := by
  simp [Kiln.core]

theorem Kiln.Fits.congr {q r : Kiln} {c d : Charge} {i : Nat} (h : q.Fits c i) (core : r.core = q.core)
    (charge : d.state = c.state) (history : d.history.length = c.history.length) : r.Fits d i := by
  obtain ⟨state, index, pending, stack⟩ := Kiln.core_eq_iff.mp core
  constructor
  · rw [state, charge]; exact h.state
  · rw [index]; exact h.index
  · rw [history]; exact h.history
  · exact h.most
  · rw [pending, state]; exact h.below
  · rw [pending, state]; exact h.entered
  · rw [pending, state, stack]; exact h.pending

/-! ### What holds of one kiln unit between its operations -/

/-- A directory entry is bound to so many kilns, and its steps are within the table (R62, R66). -/
def State.Uses (s : State) (d : Fin 32) (n : Nat) : Prop := s.directory[d].inUse = n ∧ s.directory[d].header.count ≤ 24

/-- A kiln's hold stack is legal; and where `linked` asks so, its charge record agrees with it and its entry counts it besides
`n` other kilns. -/
structure State.Tends (linked : Prop) (k : KilnId) (n : Nat) (s : State) : Prop where
  holds : (s.kiln k).HoldsLegal
  fits : linked → ∃ c i, s.kilnCharge k = some c ∧ (s.kiln k).Fits c i
    ∧ s.Uses c.entry (n + if (s.kiln k).state.binds = true then 1 else 0)

/-- A kiln on the way to a step entry or to completion: no entry on its stack, and its charge's record in state `x`. -/
structure State.Between (linked : Prop) (k : KilnId) (n : Nat) (x : ChargeState) (s : State) : Prop where
  empty : (s.kiln k).stack = []
  fits : linked → ∃ c i, s.kilnCharge k = some c ∧ c.state = x ∧ (s.kiln k).index? = some i ∧ c.history.length ≤ i ∧ i ≤ 24
    ∧ s.Uses c.entry (n + 1)

/-- A kiln with its step entered, before it becomes RUNNING. -/
structure State.Poised (linked : Prop) (k : KilnId) (n : Nat) (x : ChargeState) (s : State) : Prop where
  empty : (s.kiln k).stack = []
  fits : linked → ∃ c i, s.kilnCharge k = some c ∧ c.state = x ∧ (s.kiln k).index? = some i ∧ c.history.length ≤ i ∧ i < 24
    ∧ (s.kiln k).entryPending = false ∧ s.Uses c.entry (n + 1)

end Sys2Proof.Machine
end

section
/-! PROOFS. The operations of a kiln unit and what holds between them (chapters 5 and 6): a legal hold stack, and a charge record
that agrees with the unit. -/

namespace Sys2Proof.Machine

/-! ### What changes nothing of it -/

/-- From `s` to `t` nothing changes in the kiln that its hold stack or its charge record is held against. -/
structure State.Quiet (k : KilnId) (s t : State) : Prop where
  core : (t.kiln k).core = (s.kiln k).core
  latches : (s.kiln k).stack ≠ [] → ∀ f a, (s.kiln k).latches.get f = some a → a = .hold ∨ a = .safe →
    (t.kiln k).latches.get f = some a
  charge : ∀ c, s.kilnCharge k = some c →
    ∃ d, t.kilnCharge k = some d ∧ d.state = c.state ∧ d.entry = c.entry ∧ d.history = c.history
  directory : t.directory = s.directory

namespace State.Quiet

variable {k : KilnId} {s t u : State}

theorem refl : State.Quiet k s s := ⟨rfl, fun _ _ _ latched _ => latched, fun c hc => ⟨c, hc, rfl, rfl, rfl⟩, rfl⟩

theorem stack (h : State.Quiet k s t) : (t.kiln k).stack = (s.kiln k).stack := (Kiln.core_eq_iff.mp h.core).2.2.2

theorem state (h : State.Quiet k s t) : (t.kiln k).state = (s.kiln k).state := (Kiln.core_eq_iff.mp h.core).1

theorem trans (first : State.Quiet k s t) (next : State.Quiet k t u) : State.Quiet k s u where
  core := next.core.trans first.core
  latches some f a latched acts := next.latches (first.stack ▸ some) f a (first.latches some f a latched acts) acts
  charge c hc := by
    obtain ⟨d, hd, state, entry, history⟩ := first.charge c hc
    obtain ⟨e, he, state', entry', history'⟩ := next.charge d hd
    exact ⟨e, he, state'.trans state, entry'.trans entry, history'.trans history⟩
  directory := next.directory.trans first.directory

/-- The kiln alone may change, outside its charge. -/
theorem of_kiln (core : (t.kiln k).core = (s.kiln k).core) (latches : (t.kiln k).latches = (s.kiln k).latches)
    (charge : (t.kiln k).charge = (s.kiln k).charge) (charges : t.charges = s.charges) (directory : t.directory = s.directory) :
    State.Quiet k s t where
  core := core
  latches _ f a latched _ := by rw [latches]; exact latched
  charge c hc := ⟨c, (State.kilnCharge_congr charge charges).trans hc, rfl, rfl, rfl⟩
  directory := directory

theorem of_inner (h : t.inner = s.inner) : State.Quiet k s t := by
  have kiln := State.kiln_of_inner h k
  exact of_kiln (by rw [kiln]) (by rw [kiln]) (by rw [kiln]) (State.charges_of_inner h) (congrArg State.directory h :)

theorem modKiln (s : State) {f : Kiln → Kiln} (core : ∀ q, (f q).core = q.core := by exact fun _ => rfl)
    (latches : ∀ q, (f q).latches = q.latches := by exact fun _ => rfl)
    (charge : ∀ q, (f q).charge = q.charge := by exact fun _ => rfl) : State.Quiet k s (s.modKiln k f) := by
  refine of_kiln ?_ ?_ ?_ rfl rfl <;> rw [State.kiln_modKiln_self]
  · exact core _
  · exact latches _
  · exact charge _

/-- The charge record alone may change, outside its state, its entry and its history. -/
theorem modKilnCharge (s : State) {f : Charge → Charge} (keeps : Charge.KeepsLedger f)
    (same : ∀ c, (f c).state = c.state ∧ (f c).history = c.history) : State.Quiet k s (s.modKilnCharge k f) where
  core := by rw [State.modKilnCharge_kiln]
  latches _ f a latched _ := by rw [State.modKilnCharge_kiln]; exact latched
  charge c hc := by
    obtain ⟨-, -, -, -, entry, -⟩ := keeps c
    exact ⟨f c, by rw [State.modKilnCharge_kilnCharge keeps, hc]; rfl, (same c).1, entry, (same c).2⟩
  directory := State.modKilnCharge_directory k f s

theorem raise (n : Notice) (s : State) : State.Quiet k s (s.raise n) := of_inner (State.raise_inner n s)

theorem announceState (m : Bool) (s : State) : State.Quiet k s (s.announceState m k) := by
  obtain ⟨charges, directory⟩ := State.announceState_sides k m s
  refine of_kiln ?_ ?_ ?_ charges directory <;> rw [State.announceState_self] <;> rfl

theorem testStatus (s : State) : State.Quiet k s (s.testStatus k) := by
  obtain ⟨charges, directory⟩ := State.testStatus_sides k s
  exact of_kiln (State.testStatus_field Kiln.core (fun _ => rfl) k s) (State.testStatus_field Kiln.latches (fun _ => rfl) k s)
    (State.testStatus_field Kiln.charge (fun _ => rfl) k s) charges directory

theorem adoptGeneration (s : State) : State.Quiet k s (s.adoptGeneration k) :=
  modKilnCharge s (fun _ => ⟨rfl, rfl, rfl, rfl, rfl, id, id⟩) fun _ => ⟨rfl, rfl⟩

theorem follow (c : Charge) (s : State) : State.Quiet k s (s.follow k c) := (adoptGeneration s).trans (raise _ _)

theorem beginStart (s : State) : State.Quiet k s (s.beginStart k) := by
  have stamped : State.Quiet k s (s.modKilnCharge k (fun c => { c with startStamp := some s.stamp })) :=
    modKilnCharge s (fun _ => ⟨rfl, rfl, rfl, rfl, rfl, id, id⟩) fun _ => ⟨rfl, rfl⟩
  exact (stamped.trans (adoptGeneration _)).trans (modKiln _)

theorem announceFault (f : FaultKind) (s : State) : State.Quiet k s (s.announceFault f k) := by
  unfold State.announceFault
  dsimp only
  split
  · exact refl
  · exact (modKiln s).trans (raise _ _)

/-- Latches are cleared of which none backs an entry. -/
theorem clearLatches (c : ClearCause) (l : List FaultKind) (s : State)
    (idle : (s.kiln k).stack ≠ [] → ∀ f ∈ l, (s.kiln k).latches.get f = some .none) : State.Quiet k s (s.clearLatches c k l) where
  core := by rw [State.clearLatches_self]; rfl
  latches some f a latched acts := by
    have other : f ∉ s.freeOrder l := fun there => by
      have none := idle some f ((s.freeOrder_perm l).mem_iff.mp there)
      obtain rfl := Option.some.inj (latched.symm.trans none)
      exact nomatch acts
    rw [State.clearLatches_self]
    exact ((clearedOf_get _ _ f).trans (if_neg other)).trans latched
  charge c' hc := by
    refine ⟨c', (State.kilnCharge_congr ?_ (State.clearLatches_sides c k l s).1).trans hc, rfl, rfl, rfl⟩
    rw [State.clearLatches_self]
  directory := (State.clearLatches_sides c k l s).2

theorem selfClear (s : State) : State.Quiet k s (s.selfClear k) := by
  unfold State.selfClear
  exact (clearLatches .selfClear _ s fun _ f due => ((State.mem_dueToClear k s f).mp due).1).trans (modKiln _)

end State.Quiet

variable {linked : Prop} {k : KilnId} {n : Nat} {x : ChargeState} {s t : State}

theorem State.Tends.quiet (h : s.Tends linked k n) (quiet : State.Quiet k s t) : t.Tends linked k n where
  holds := h.holds.of_latches quiet.stack quiet.state quiet.latches
  fits hl := by
    obtain ⟨c, i, hc, fits, uses⟩ := h.fits hl
    obtain ⟨d, hd, state, entry, history⟩ := quiet.charge c hc
    refine ⟨d, i, hd, fits.congr quiet.core state (by rw [history]), ?_⟩
    rw [entry, quiet.state]
    unfold State.Uses
    rw [quiet.directory]
    exact uses

theorem State.Between.quiet (h : s.Between linked k n x) (quiet : State.Quiet k s t) : t.Between linked k n x where
  empty := quiet.stack.trans h.empty
  fits hl := by
    obtain ⟨c, i, hc, state, index, history, most, uses⟩ := h.fits hl
    obtain ⟨d, hd, state', entry, history'⟩ := quiet.charge c hc
    refine ⟨d, i, hd, state'.trans state, (Kiln.core_eq_iff.mp quiet.core).2.1.trans index, by rw [history']; exact history,
      most, ?_⟩
    rw [entry]
    unfold State.Uses
    rw [quiet.directory]
    exact uses

theorem State.Poised.quiet (h : s.Poised linked k n x) (quiet : State.Quiet k s t) : t.Poised linked k n x where
  empty := quiet.stack.trans h.empty
  fits hl := by
    obtain ⟨c, i, hc, state, index, history, below, entered, uses⟩ := h.fits hl
    obtain ⟨d, hd, state', entry, history'⟩ := quiet.charge c hc
    obtain ⟨-, index', pending, -⟩ := Kiln.core_eq_iff.mp quiet.core
    refine ⟨d, i, hd, state'.trans state, index'.trans index, by rw [history']; exact history, below, pending.trans entered, ?_⟩
    rw [entry]
    unfold State.Uses
    rw [quiet.directory]
    exact uses

/-! ### RUNNING and completion -/

/-- A kiln that is RUNNING in DRYING with its step entered. -/
theorem State.Poised.running (h : s.Poised linked k n .drying) (state : (s.kiln k).state = .running) : s.Tends linked k n where
  holds := .of_empty h.empty (by rw [state]; decide)
  fits hl := by
    obtain ⟨c, i, hc, drying, index, history, below, entered, uses⟩ := h.fits hl
    refine ⟨c, i, hc, ⟨?_, index, history, below.le, fun _ _ => below, fun _ => entered, fun held => ?_⟩, ?_⟩
    · rw [state, drying]; rfl
    · exact nomatch state.symm.trans held
    · rw [state]; exact uses

theorem State.Poised.becomeRunning (h : s.Poised linked k n .drying) : (s.becomeRunning k).Tends linked k n := by
  have moved : (s.modKiln k (fun q => { q.loadCountdown with state := .running })).Poised linked k n .drying := by
    refine ⟨by rw [State.kiln_modKiln_self]; exact h.empty, fun hl => ?_⟩
    rw [State.kiln_modKiln_self, State.modKiln_kilnCharge k _ s (by rfl)]
    exact h.fits hl
  exact (moved.running (by rw [State.kiln_modKiln_self])).quiet (.announceState false _)

/-- A charge is completed (R96). -/
theorem State.Between.completeCharge (h : s.Between linked k n x) (m : Bool) : (s.completeCharge m k).Tends linked k n := by
  refine ⟨.of_empty ?_ ?_, fun hl => ?_⟩
  · rw [State.completeCharge_self]; exact h.empty
  · rw [State.completeCharge_self]; exact fun h => nomatch h
  · obtain ⟨c, i, hc, -, index, history, most, used, steps⟩ := h.fits hl
    obtain ⟨charge, directory⟩ := State.completeCharge_sides m hc
    rw [State.completeCharge_self]
    refine ⟨_, i, charge, ⟨rfl, index, history, most, fun _ done => absurd rfl done, fun h => ?_, fun h => nomatch h⟩, ?_⟩
    · exact nomatch h
    · have entry : (s.completeCharge m k).directory[c.entry] = { s.directory[c.entry] with
          inUse := s.directory[c.entry].inUse - 1 } := by
        rw [directory]
        exact Vector.getElem_set_self ..
      unfold State.Uses
      change (s.completeCharge m k).directory[c.entry].inUse = n + 0
        ∧ (s.completeCharge m k).directory[c.entry].header.count ≤ 24
      rw [entry]
      exact ⟨by rw [used]; rfl, steps⟩

/-- A step is entered whose index the history has not passed (R89). -/
theorem State.Between.enterStep (h : s.Between linked k n x) {i : Nat}
    (next : linked → ∀ c, s.kilnCharge k = some c → c.history.length ≤ i ∧ i < s.directory[c.entry].header.count) (e : Nat)
    (cause : EntryCause) : (s.enterStep k i e cause).Poised linked k n x := by
  refine ⟨by rw [State.enterStep_self]; exact h.empty, fun hl => ?_⟩
  obtain ⟨c, -, hc, state, -, -, -, uses⟩ := h.fits hl
  obtain ⟨history, below⟩ := next hl c hc
  refine ⟨c, i, (State.enterStep_kilnCharge k i e cause s).trans hc, state, ?_, history, below.trans_le uses.2, ?_, ?_⟩
  · rw [State.enterStep_self]; rfl
  · rw [State.enterStep_self]; rfl
  · unfold State.Uses
    rw [State.enterStep_directory]
    exact uses

/-- A kiln that is neither HELD nor DONE is on the way to either. -/
theorem State.Tends.between (h : s.Tends linked k n) {y : KilnState} (state : (s.kiln k).state = y)
    (binds : y.binds = true) (charge : y.chargeState = some x) (empty : (s.kiln k).stack = []) : s.Between linked k n x where
  empty := empty
  fits hl := by
    obtain ⟨c, i, hc, fits, uses⟩ := h.fits hl
    rw [state, binds] at uses
    refine ⟨c, i, hc, ?_, fits.index, fits.history, fits.most, uses⟩
    have agrees := fits.state
    rw [state, charge] at agrees
    exact (Option.some.inj agrees).symm

/-- The return to the schedule at a pending entry (R108, R121). -/
theorem State.Between.resumeSchedule (h : s.Between linked k n .drying) {prepare : Kiln → Kiln}
    (quiet : ∀ u : State, State.Quiet k u (u.modKiln k prepare)) : (s.resumeSchedule prepare k).Tends linked k n := by
  have adopted := h.quiet (.adoptGeneration s)
  unfold State.resumeSchedule
  dsimp only
  split
  · exact adopted.completeCharge false
  · next more =>
      refine ((adopted.quiet (quiet _)).enterStep (fun hl c hc => ?_) 0 .resume).becomeRunning
      obtain ⟨c₁, i, hc₁, -, index, history, -, -⟩ := adopted.fits hl
      obtain ⟨c₂, hc₂, -, entry, history'⟩ := (quiet (s.adoptGeneration k)).charge c₁ hc₁
      obtain rfl := Option.some.inj (hc.symm.trans hc₂)
      have here : ((s.kiln k).position.map StepPosition.index).getD 0 = i := by
        have index : (s.kiln k).index? = some i := by rwa [State.adoptGeneration_kiln] at index
        unfold Kiln.index? at index
        rw [index]
        rfl
      rw [State.boundCount_eq hc₁, here] at more
      rw [(quiet (s.adoptGeneration k)).directory, history', here]
      exact ⟨history, (Nat.lt_of_not_le more).trans_eq
        (congrArg (fun d : Fin 32 => (s.adoptGeneration k).directory[d].header.count) entry.symm)⟩

end Sys2Proof.Machine
end

section
/-! PROOFS. A legal hold stack and a charge record in agreement, kept by every operation of a kiln unit that holds a charge
(chapters 5 and 6). -/

namespace Sys2Proof.Machine

variable {linked : Prop} {k : KilnId} {n : Nat} {s : State}

/-! ### Pushes, stops and detections (R104, R114, R116, R119) -/

/-- RUNNING or HELD: the states in which a kiln's schedule runs. -/
def KilnState.Runs (x : KilnState) : Prop := x = .running ∨ x = .held

theorem KilnState.Runs.binds {x : KilnState} (h : x.Runs) : x.binds = true := by
  rcases h with rfl | rfl <;> rfl

theorem KilnState.Runs.ne_done {x : KilnState} (h : x.Runs) : x ≠ .done := by
  rcases h with rfl | rfl <;> decide

theorem Kiln.Fits.drying {q : Kiln} {c : Charge} {i : Nat} (h : q.Fits c i) (runs : q.state.Runs) : c.state = .drying := by
  have agrees := h.state
  rcases runs with state | state <;> rw [state] at agrees <;> exact (Option.some.inj agrees).symm

/-- While its schedule runs, a kiln's entry is pending where a SCHEDULE entry holds it. -/
theorem Kiln.Fits.pending_iff {q : Kiln} {c : Charge} {i : Nat} (h : q.Fits c i) (runs : q.state.Runs) (holds : q.HoldsLegal) :
    q.entryPending = true ↔ ∃ e ∈ q.stack, e.kind = .schedule := by
  rcases runs with state | state
  · rw [h.entered (.inr state), holds.empty (by rw [state]; decide)]
    simp
  · exact h.pending state

/-- The pushed entry is an override, or a fault that has just been latched. -/
def State.Admits (s : State) (k : KilnId) (kind : HoldKind) : Prop :=
  kind ≠ .schedule ∧ ∀ f a, kind = .fault f a → (∀ e ∈ (s.kiln k).stack, e.fault? ≠ some f)
    ∧ (s.kiln k).latches.get f = some a ∧ (a = .hold ∨ a = .safe)

/-- An entry other than SCHEDULE is pushed on a unit that agrees with its charge. -/
theorem Kiln.Fits.pushed {q : Kiln} {c : Charge} {i : Nat} (h : q.Fits c i) (runs : q.state.Runs) (holds : q.HoldsLegal)
    {e : HoldEntry} (leaves : e.kind ≠ .schedule) : (q.pushed e).Fits c.countPush i := by
  have pending : (q.pushed e).entryPending = q.entryPending := by simp [Kiln.pushed, leaves]
  refine ⟨congrArg some (h.drying runs).symm, h.index, h.history, h.most, fun clear _ => ?_, fun h => h.elim nofun nofun,
    fun _ => ?_⟩
  · exact h.below (pending ▸ clear) runs.ne_done
  · rw [pending, h.pending_iff runs holds]
    simp [Kiln.pushed, leaves]

theorem State.Uses.congr {s t : State} {d : Fin 32} {m : Nat} (h : s.Uses d m) (directory : t.directory = s.directory) :
    t.Uses d m := by
  unfold State.Uses
  rw [directory]
  exact h

theorem State.Tends.stackEntry (h : s.Tends linked k n) (runs : (s.kiln k).state.Runs)
    (room : (s.kiln k).stack.length < 4) {kind : HoldKind} (admits : s.Admits k kind) :
    (s.stackEntry kind k).Tends linked k n := by
  obtain ⟨leaves, fault⟩ := admits
  refine ⟨?_, fun hl => ?_⟩
  · rw [State.stackEntry_self]
    refine h.holds.push rfl rfl rfl room (fun schedule => absurd schedule leaves) (fun f same => ?_)
      (Kiln.backs_iff.mpr fun f a kind => (fault f a kind).2)
    obtain ⟨a, kind⟩ := HoldEntry.fault?_eq_some.mp same
    exact (fault f a kind).1
  · obtain ⟨c, i, hc, fits, uses⟩ := h.fits hl
    rw [runs.binds] at uses
    rw [State.stackEntry_self]
    exact ⟨c.countPush, i, by rw [State.stackEntry_kilnCharge, hc]; rfl, fits.pushed runs h.holds leaves,
      uses.congr (State.stackEntry_directory _ k s)⟩

theorem State.Tends.pushHold (h : s.Tends linked k n) (runs : (s.kiln k).state.Runs)
    (room : (s.kiln k).stack.length < 4) {kind : HoldKind} (admits : s.Admits k kind) (m : Bool) :
    (s.pushHold m kind k).Tends linked k n := by
  have pushed := h.stackEntry runs room admits
  unfold State.pushHold
  dsimp only
  split
  · exact pushed.quiet (.announceState m _)
  · exact pushed

theorem State.Tends.stopKiln (h : s.Tends linked k n) (runs : (s.kiln k).state.Runs) (m : Bool)
    (cause : StopCause) : (s.stopKiln m cause k).Tends linked k n := by
  refine ⟨.of_empty ?_ ?_, fun hl => ?_⟩
  · rw [State.stopKiln_self]; rfl
  · rw [State.stopKiln_self]; exact nofun
  · obtain ⟨c, i, hc, fits, uses⟩ := h.fits hl
    obtain ⟨charges, directory⟩ := State.stopKiln_sides m cause k s
    rw [runs.binds] at uses
    have charge : (s.stopKiln m cause k).kilnCharge k = some c :=
      (State.kilnCharge_congr (by rw [State.stopKiln_self]; rfl) charges).trans hc
    rw [State.stopKiln_self]
    exact ⟨c, i, charge, ⟨congrArg some (fits.drying runs).symm, fits.index, fits.history, fits.most,
      fun clear _ => fits.below clear runs.ne_done, fun h => h.elim nofun nofun, nofun⟩, uses.congr directory⟩

/-- A latch that was clear is set, which changes nothing else. -/
theorem State.Quiet.latchFault {f : FaultKind} (clear : (s.kiln k).latches.get f = none) (a : FaultAction) (e : Bool) (depth : Nat) :
    State.Quiet k s (s.latchFault f a e depth k) where
  core := by rw [State.latchFault_self]; rfl
  latches _ f' a' latched _ := by
    have other : f' ≠ f := fun same => nomatch (same ▸ clear).symm.trans latched
    rw [State.latchFault_self]
    exact (PerFault.get_set_other _ other _).trans latched
  charge c hc := ⟨c, (State.latchFault_kilnCharge f a e depth k s).trans hc, rfl, rfl, rfl⟩
  directory := State.latchFault_directory f a e depth k s

/-- A fault is latched with an action and pushed with it. -/
theorem State.Tends.pushFault (h : s.Tends linked k n) (runs : (s.kiln k).state.Runs) (room : (s.kiln k).stack.length < 4)
    {f : FaultKind} (clear : (s.kiln k).latches.get f = none) {a : FaultAction} (acts : a = .hold ∨ a = .safe) (e m : Bool)
    (depth : Nat) : ((s.latchFault f a e depth k).pushHold m (.fault f a) k).Tends linked k n := by
  have self := State.latchFault_self f a e depth k s
  have admits : (s.latchFault f a e depth k).Admits k (.fault f a) := by
    refine ⟨nofun, fun f' a' kind => ?_⟩
    obtain ⟨rfl, rfl⟩ := HoldKind.fault.inj kind
    rw [self]
    exact ⟨h.holds.fresh clear, PerFault.get_set_self _ _ _, acts⟩
  exact (h.quiet (.latchFault clear a e depth)).pushHold (by rw [self]; exact runs) (by rw [self]; exact room) admits m

/-- A detection that acts (R116): a latch, a push or a stop. -/
theorem State.Tends.takeFault (h : s.Tends linked k n) (runs : (s.kiln k).state.Runs) {f : FaultKind}
    (clear : (s.kiln k).latches.get f = none) (m : Bool) : (s.takeFault m f k).Tends linked k n := by
  have stops {a : FaultAction} (action : (s.kiln k).actions.get f = a)
      (stop : a = .shutdown ∨ ((a = .hold ∨ a = .safe) ∧ 4 ≤ (s.kiln k).stack.length)) :
      (s.takeFault m f k).Tends linked k n := by
    rw [State.takeFault_stops f m k s action stop]
    exact (h.quiet (.latchFault clear _ _ _)).stopKiln (by rw [State.latchFault_self]; exact runs) m _
  have pushes {a : FaultAction} (action : (s.kiln k).actions.get f = a) (acts : a = .hold ∨ a = .safe) :
      (s.takeFault m f k).Tends linked k n := by
    by_cases room : (s.kiln k).stack.length < 4
    · rw [State.takeFault_pushes f m k s action acts room]
      exact h.pushFault runs room clear acts _ m _
    · exact stops action (.inr ⟨acts, Nat.not_lt.mp room⟩)
  cases action : (s.kiln k).actions.get f with
  | none =>
    rw [State.takeFault_latches f m k s action]
    exact h.quiet (.latchFault clear _ _ _)
  | hold => exact pushes action (.inl rfl)
  | safe => exact pushes action (.inr rfl)
  | shutdown => exact stops action (.inl rfl)

theorem State.Tends.detect (h : s.Tends linked k n) (m : Bool) (f : FaultKind) : (s.detect m f k).Tends linked k n := by
  fun_cases State.detect m f k s
  case case1 => exact h
  case case2 => exact h
  case case3 clear state =>
    exact h.takeFault (.inl state) (Option.not_isSome_iff_eq_none.mp clear) m
  case case4 clear state =>
    exact h.takeFault (.inr state) (Option.not_isSome_iff_eq_none.mp clear) m
  all_goals exact h.quiet (.announceFault f s)

/-! ### Returns (R107, R108, R121) -/

theorem State.popTop_sides (top : HoldEntry) (k : KilnId) (s : State) :
    (s.popTop top k).kilnCharge k = s.kilnCharge k ∧ (s.popTop top k).directory = s.directory := by
  obtain ⟨-, charges, directory⟩ := State.popTop_facts top k s
  have told : (s.toldPopped top k).charges = s.charges ∧ (s.toldPopped top k).directory = s.directory := by
    unfold State.toldPopped
    split
    · exact ⟨rfl, rfl⟩
    · exact ⟨State.raise_charges _ s, State.raise_directory _ s⟩
  exact ⟨State.kilnCharge_congr (by rw [State.popTop_self]) (charges.trans told.1), directory.trans told.2⟩

variable {top : HoldEntry} {rest : List HoldEntry}

theorem State.Tends.held (h : s.Tends linked k n) (stack : (s.kiln k).stack = top :: rest) : (s.kiln k).state = .held := by
  obtain ⟨-, held, -⟩ := h.holds
  exact held.mp (by rw [stack]; exact List.cons_ne_nil _ _)

/-- A SCHEDULE entry is popped: the schedule is returned to (R108). -/
theorem State.Tends.resumeAtSchedule (h : s.Tends linked k n) (stack : (s.kiln k).stack = top :: rest)
    (schedule : top.kind = .schedule) : (s.resumeEntry .schedule k).Tends linked k n := by
  obtain rfl := h.holds.schedule_alone stack schedule
  have self := State.kiln_modKiln_self k Kiln.popped s
  have popped : (s.modKiln k Kiln.popped).Between linked k n .drying := by
    refine ⟨by rw [self, Kiln.popped, stack]; rfl, fun hl => ?_⟩
    obtain ⟨c, i, hc, fits, uses⟩ := h.fits hl
    rw [h.held stack] at uses
    exact ⟨c, i, (State.modKiln_kilnCharge k _ s rfl).trans hc, fits.drying (.inr (h.held stack)),
      by rw [self]; exact fits.index, fits.history, fits.most, uses⟩
  rw [State.resumeEntry_schedule]
  exact popped.resumeSchedule fun u => .modKiln u

/-- Below a popped entry other than SCHEDULE, a pending entry shows as before. -/
theorem Kiln.Fits.pending_below {q : Kiln} {c : Charge} {i : Nat} (fits : q.Fits c i) (held : q.state = .held)
    (stack : q.stack = top :: rest) (leaves : top.kind ≠ .schedule) :
    q.entryPending = true ↔ ∃ e ∈ rest, e.kind = .schedule := by
  rw [fits.pending held, stack]
  simp [leaves]

/-- The last entry is popped, and it is no SCHEDULE: the kiln can go on. -/
theorem State.Tends.popLast (h : s.Tends linked k n) (stack : (s.kiln k).stack = [top]) (leaves : top.kind ≠ .schedule) :
    (s.popTop top k).Poised linked k n .drying := by
  obtain ⟨charge, directory⟩ := State.popTop_sides top k s
  have self := State.popTop_self top k s
  refine ⟨by rw [self, stack]; rfl, fun hl => ?_⟩
  obtain ⟨c, i, hc, fits, uses⟩ := h.fits hl
  have held := h.held stack
  rw [held] at uses
  have clear : (s.kiln k).entryPending = false := by simpa using fits.pending_below held stack leaves
  rw [charge, self]
  exact ⟨c, i, hc, fits.drying (.inr held), fits.index, fits.history, fits.below clear (by rw [held]; decide), clear,
    uses.congr directory⟩

/-- An entry other than SCHEDULE is popped from above others. -/
theorem State.Tends.popAbove (h : s.Tends linked k n) (stack : (s.kiln k).stack = top :: rest) (leaves : top.kind ≠ .schedule)
    (more : rest ≠ []) : (s.popTop top k).Tends linked k n := by
  obtain ⟨charge, directory⟩ := State.popTop_sides top k s
  have self := State.popTop_self top k s
  have below : ((s.popTop top k).kiln k).stack = rest := by rw [self, stack]; rfl
  refine ⟨h.holds.pop stack more below (by rw [self]) fun f other => ?_, fun hl => ?_⟩
  · rw [State.popTop_latches, if_neg other]
  · obtain ⟨c, i, hc, fits, uses⟩ := h.fits hl
    have pending := fits.pending_below (h.held stack) stack leaves
    refine ⟨c, i, charge.trans hc, ?_, ?_⟩
    · rw [self] at below ⊢
      exact ⟨fits.state, fits.index, fits.history, fits.most, fits.below, fits.entered, fun _ => by rw [below]; exact pending⟩
    · rw [self]
      exact uses.congr directory

theorem State.Tends.resumeEntry (h : s.Tends linked k n) (stack : (s.kiln k).stack = top :: rest) :
    (s.resumeEntry top.kind k).Tends linked k n := by
  by_cases schedule : top.kind = .schedule
  · rw [schedule]
    exact h.resumeAtSchedule stack schedule
  · have below : ((s.popTop top k).kiln k).stack = rest := by rw [State.popTop_self, stack]; rfl
    rw [State.resumeEntry_pops schedule]
    unfold State.runIfEmpty
    rw [below]
    cases rest with
    | nil => exact (h.popLast stack schedule).becomeRunning
    | cons x l => exact h.popAbove stack schedule (List.cons_ne_nil x l)

/-- The starting setpoints are outside all of this. -/
theorem State.Quiet.takeStarting (u : State) : State.Quiet k u (u.modKiln k Kiln.takeStarting) := .modKiln u

theorem State.Tends.restartKiln (h : s.Tends linked k n) (stopped : (s.kiln k).state = .stopped) :
    (s.restartKiln k).Tends linked k n := by
  have empty := h.holds.empty (by rw [stopped]; decide)
  have quiet : State.Quiet k s (s.unlatched k) :=
    (State.Quiet.clearLatches .restart _ s fun some => absurd empty some).trans (.modKiln _)
  have between := (h.quiet quiet).between (quiet.state.trans stopped) rfl rfl (quiet.stack.trans empty)
  cases pending : (s.kiln k).entryPending with
  | true =>
    rw [State.restartKiln_returns pending]
    exact between.resumeSchedule .takeStarting
  | false =>
    rw [State.restartKiln_runs pending]
    refine State.Poised.becomeRunning (State.Poised.quiet ⟨between.empty, fun hl => ?_⟩ (.takeStarting _))
    obtain ⟨c, i, hc, state, index, history, -, uses⟩ := between.fits hl
    obtain ⟨c', i', hc', fits, -⟩ := h.fits hl
    have same : (s.unlatched k).kilnCharge k = s.kilnCharge k := State.unlatched_kilnCharge k s
    have here := index
    rw [State.unlatched_self] at here
    obtain rfl := Option.some.inj (here.symm.trans fits.index)
    exact ⟨c, i, hc, state, index, history, fits.below pending (by rw [stopped]; decide),
      by rw [State.unlatched_self]; exact pending, uses⟩

/-! ### START_KILN (R86) -/

theorem State.Poised.drying {x : ChargeState} (h : s.Poised linked k n x) :
    (s.modKilnCharge k (fun c => { c with state := .drying })).Poised linked k n .drying := by
  refine ⟨by rw [State.modKilnCharge_kiln]; exact h.empty, fun hl => ?_⟩
  obtain ⟨c, i, hc, -, rest⟩ := h.fits hl
  rw [State.modKilnCharge_kilnCharge Charge.keepsLedger_drying, hc, State.modKilnCharge_kiln]
  unfold State.Uses
  rw [State.modKilnCharge_directory]
  exact ⟨{ c with state := .drying }, i, rfl, rfl, rest⟩

theorem State.Tends.startKiln (h : s.Tends linked k n) (loaded : (s.kiln k).state = .loaded) {p : StepPosition}
    (pos : (s.kiln k).position = some p) : (s.startKiln k p).Tends linked k n := by
  have quiet := State.Quiet.beginStart (k := k) s
  have between := (h.quiet quiet).between (quiet.state.trans loaded) rfl rfl
    (quiet.stack.trans (h.holds.empty (by rw [loaded]; decide)))
  unfold State.startKiln
  dsimp only
  split
  · exact between.completeCharge false
  · next more =>
      unfold State.startRunning
      refine (((between.quiet (.takeStarting _)).enterStep (fun hl c hc => ?_) p.elapsed .start).drying).becomeRunning
      obtain ⟨c₁, i, hc₁, -, index, history, -, -⟩ := between.fits hl
      rw [State.modKiln_kilnCharge k _ _ rfl, hc₁] at hc
      obtain rfl := Option.some.inj hc
      have here : p.index = i := by
        rw [State.beginStart_self] at index
        have index : (s.kiln k).position.map StepPosition.index = some i := index
        rw [pos] at index
        exact Option.some.inj index
      rw [State.boundCount_eq hc₁] at more
      exact ⟨here ▸ history, Nat.lt_of_not_le more⟩

/-! ### A kiln's minute (R88, R94, R95, R112) -/

theorem State.Between.recordExit (h : s.Tends linked k n) (running : (s.kiln k).state = .running) {p : StepPosition}
    (pos : (s.kiln k).position = some p) (reason : ExitReason) : (s.recordExit k p reason).Between linked k n .drying := by
  refine ⟨?_, fun hl => ?_⟩ <;> rw [State.recordExit_self]
  · exact h.holds.empty (by rw [running]; decide)
  · obtain ⟨c, i, hc, fits, uses⟩ := h.fits hl
    have agrees := fits.state
    have index := fits.index
    have below := fits.below (fits.entered (.inr running)) (by rw [running]; decide)
    rw [running] at agrees uses
    unfold Kiln.index? at index
    rw [pos] at index
    obtain rfl : p.index = i := Option.some.inj index
    refine ⟨_, p.index + 1, State.recordExit_kilnCharge hc p reason, (Option.some.inj agrees).symm, rfl, ?_, below, ?_⟩
    · simpa using fits.history
    · unfold State.Uses
      rw [State.recordExit_directory]
      exact uses

/-- The next step entered, or the charge completed (R95). -/
theorem State.Between.advance (h : s.Between linked k n .drying) (running : (s.kiln k).state = .running) {i : Nat}
    (index : (s.kiln k).index? = some i) : (s.advance k i).Tends linked k n := by
  unfold State.advance
  split
  · exact h.completeCharge true
  · next more =>
      refine (h.enterStep (fun hl c hc => ?_) 0 .transition).running (by rw [State.enterStep_self]; exact running)
      obtain ⟨c₁, j, hc₁, -, index', history, -, -⟩ := h.fits hl
      obtain rfl := Option.some.inj (hc.symm.trans hc₁)
      obtain rfl := Option.some.inj (index.symm.trans index')
      rw [State.boundCount_eq hc₁] at more
      exact ⟨history, Nat.lt_of_not_le more⟩

/-- The hold of a changed schedule: one SCHEDULE entry on an empty stack (R95, R104). -/
theorem State.Between.holdSchedule (h : s.Between linked k n .drying) (c : Charge) (i : Nat) :
    (s.holdSchedule k c i).Tends linked k n := by
  refine ⟨?_, fun hl => ?_⟩ <;> rw [State.holdSchedule_self]
  · have none : ({ s.kiln k with state := .stopped } : Kiln).HoldsLegal := .of_empty h.empty nofun
    exact none.push rfl rfl rfl (by rw [h.empty]; decide) (fun _ => h.empty) (fun _ _ x hx => by rw [h.empty] at hx; cases hx) trivial
  · obtain ⟨d, j, hd, state, index, history, most, uses⟩ := h.fits hl
    refine ⟨d.countPush, j, by rw [State.holdSchedule_kilnCharge, hd]; rfl,
      ⟨congrArg some state.symm, index, history, most, fun clear => ?_, fun h => h.elim nofun nofun, fun _ => ?_⟩, ?_⟩
    · simp [Kiln.pushed, Kiln.markReported] at clear
    · simp [Kiln.pushed, Kiln.markReported]
    · unfold State.Uses
      rw [State.holdSchedule_directory]
      exact uses

theorem State.Tends.exitStep (h : s.Tends linked k n) (running : (s.kiln k).state = .running) (reason : ExitReason) :
    (s.exitStep k reason).Tends linked k n := by
  unfold State.exitStep
  split
  · next p c pos _ =>
      have recorded := State.Between.recordExit h running pos reason
      have state : ((s.recordExit k p reason).kiln k).state = .running := by rw [State.recordExit_self]; exact running
      have index : ((s.recordExit k p reason).kiln k).index? = some (p.index + 1) := by rw [State.recordExit_self]; rfl
      dsimp only
      split
      · exact recorded.advance state index
      · split
        · have quiet := State.Quiet.follow (k := k) c (s.recordExit k p reason)
          exact (recorded.quiet quiet).advance (quiet.state.trans state) ((Kiln.core_eq_iff.mp quiet.core).2.1.trans index)
        · exact recorded.holdSchedule c _
  · exact h

theorem State.Tends.evaluateExit (h : s.Tends linked k n) (running : (s.kiln k).state = .running) :
    (s.evaluateExit k).Tends linked k n := by
  unfold State.evaluateExit
  split
  · exact h.exitStep running _
  · exact h

theorem State.Tends.applyDeviation (h : s.Tends linked k n) : (s.applyDeviation k).Tends linked k n := by
  fun_cases State.applyDeviation k s
  case case1 => exact h
  case case2 => exact h
  case case3 => exact h.quiet (.modKiln s)
  case case4 => exact h
  case case5 => exact (h.quiet (.modKiln s)).detect true .deviation
  case case6 => exact h.quiet (.modKiln s)

/-- The running part of a minute, but for the exit of a step. -/
theorem Kiln.runPart_core (q : Kiln) : q.countElapsed.deriveTargets.rampToStep.fanStep.core = q.core
    ∧ q.countElapsed.deriveTargets.rampToStep.fanStep.latches = q.latches
    ∧ q.countElapsed.deriveTargets.rampToStep.fanStep.charge = q.charge := by
  have fan (q : Kiln) : q.fanStep.core = q.core ∧ q.fanStep.latches = q.latches ∧ q.fanStep.charge = q.charge := by
    fun_cases Kiln.fanStep q <;> exact ⟨rfl, rfl, rfl⟩
  have ramp (q : Kiln) : q.rampToStep.core = q.core ∧ q.rampToStep.latches = q.latches ∧ q.rampToStep.charge = q.charge := by
    unfold Kiln.rampToStep Kiln.rampTo
    split
    · split <;> exact ⟨rfl, rfl, rfl⟩
    · exact ⟨rfl, rfl, rfl⟩
  have derive (q : Kiln) : q.deriveTargets.core = q.core ∧ q.deriveTargets.latches = q.latches
      ∧ q.deriveTargets.charge = q.charge := by
    fun_cases Kiln.deriveTargets q <;> exact ⟨rfl, rfl, rfl⟩
  have count : q.countElapsed.core = q.core := by
    simp [Kiln.core, Kiln.countElapsed, Kiln.index?, Function.comp_def]
  obtain ⟨a, b, c⟩ := fan q.countElapsed.deriveTargets.rampToStep
  obtain ⟨a', b', c'⟩ := ramp q.countElapsed.deriveTargets
  obtain ⟨a'', b'', c''⟩ := derive q.countElapsed
  exact ⟨((a.trans a').trans a'').trans count, (b.trans b').trans b'', (c.trans c').trans c''⟩

theorem Kiln.governed_core (q : Kiln) : q.governed.core = q.core ∧ q.governed.latches = q.latches
    ∧ q.governed.charge = q.charge := by
  have ramp (target : TempPair) (x y : Nat) : (q.rampTo target x y).core = q.core ∧ (q.rampTo target x y).latches = q.latches
      ∧ (q.rampTo target x y).charge = q.charge := by
    fun_cases Kiln.rampTo target x y q <;> exact ⟨rfl, rfl, rfl⟩
  fun_cases Kiln.governed q
  case case3 => exact ⟨rfl, rfl, rfl⟩
  all_goals exact ramp _ _ _

theorem State.Tends.minuteRun (h : s.Tends linked k n) : (s.minuteRun k).Tends linked k n := by
  unfold State.minuteRun
  split
  · next running =>
      have quiet : State.Quiet k s (s.modKiln k (fun q => q.countElapsed.deriveTargets.rampToStep.fanStep)) :=
        .modKiln s (fun q => q.runPart_core.1) (fun q => q.runPart_core.2.1) fun q => q.runPart_core.2.2
      exact ((h.quiet quiet).evaluateExit (quiet.state.trans running)).applyDeviation
  · exact h.quiet (.modKiln s (fun q => q.governed_core.1) (fun q => q.governed_core.2.1) fun q => q.governed_core.2.2)
  all_goals exact h

theorem State.Tends.minuteSilence (h : s.Tends linked k n) : (s.minuteSilence k).Tends linked k n := by
  have counted : (s.modKiln k (fun q => { q with silence := min 255 (q.silence + 1) })).Tends linked k n :=
    h.quiet (.modKiln s)
  unfold State.minuteSilence
  dsimp only
  split
  · exact counted.detect true .silent
  · exact counted

theorem State.Tends.minuteAgeing (h : s.Tends linked k n) : (s.minuteAgeing k).Tends linked k n := by
  unfold State.minuteAgeing
  split
  · exact (h.quiet (.modKiln s)).quiet (.testStatus _)
  · exact h.quiet (.modKiln s)

theorem State.Tends.kilnMinute (h : s.Tends linked k n) : (s.kilnMinute k).Tends linked k n := by
  have shape (q : Kiln) : { q with timer := some 0 }.minuteLimits.core = q.core
      ∧ { q with timer := some 0 }.minuteLimits.latches = q.latches
      ∧ { q with timer := some 0 }.minuteLimits.charge = q.charge := by
    rw [Kiln.minuteLimits_eq]
    exact ⟨rfl, rfl, rfl⟩
  have limits : State.Quiet k s (s.modKiln k (fun q => { q with timer := some 0 }.minuteLimits)) :=
    .modKiln s (fun q => (shape q).1) (fun q => (shape q).2.1) fun q => (shape q).2.2
  unfold State.kilnMinute
  exact ((((h.quiet limits).minuteAgeing.minuteSilence).minuteRun).quiet (.selfClear _)).quiet
    (.of_inner (State.produceSetpoint_inner k _))

/-! ### Arrivals (R50, R99) -/

theorem State.Tends.climateArrival (h : s.Tends linked k n) (x : List Byte) : (s.climateArrival k x).Tends linked k n := by
  have taken : (s.modKiln k (Kiln.takeClimate x)).Tends linked k n := h.quiet (.modKiln s)
  unfold State.climateArrival
  dsimp only
  split
  · exact h
  · refine State.Tends.quiet ?_ (.testStatus _)
    split
    · exact taken.detect false .range
    · exact taken

theorem State.Tends.probeArrival (h : s.Tends linked k n) (x : List Byte) : (s.probeArrival k x).Tends linked k n := by
  unfold State.probeArrival
  split
  · exact h
  · exact (h.quiet (.modKiln s)).quiet (.testStatus _)

end Sys2Proof.Machine
end

section
/-! PROOFS. The kiln units stay legal through every step: hold stacks, charge and timer, limits and setpoints (R79, R87, R91,
R104). -/

namespace Sys2Proof.Machine

/-! ### A kiln unit that holds a charge -/

theorem Kiln.Occupied.busy {q : Kiln} (h : q.Occupied) (busy : q.state ≠ .idle) : q.Busy where
  state := busy
  charge := Option.isSome_iff_ne_none.mpr fun none => busy (h.1.mpr none)
  position := Option.isSome_iff_ne_none.mpr fun none => busy (h.2.1.mpr none)
  timer := Option.isSome_iff_ne_none.mpr fun none => busy (h.2.2.mpr none)

theorem Kiln.Busy.occupied {q : Kiln} (h : q.Busy) : q.Occupied :=
  ⟨iff_of_false h.state (Option.isSome_iff_ne_none.mp h.charge), iff_of_false h.state (Option.isSome_iff_ne_none.mp h.position),
    iff_of_false h.state (Option.isSome_iff_ne_none.mp h.timer)⟩

theorem Kiln.SetpointsLegal.priced {q : Kiln} (h : q.SetpointsLegal) (busy : q.state ≠ .idle) : q.Priced :=
  ⟨h.1, h.2.1, h.2.2.2 busy⟩

theorem Kiln.Busy.setpointsLegal {q : Kiln} (h : q.Busy) (priced : q.Priced) : q.SetpointsLegal :=
  ⟨priced.written, priced.inUse, fun idle => absurd idle h.state, fun _ => priced.setpoints⟩

/-- Work after which a unit holds its charge keeps the unit's charge, and its setpoints within its limits. -/
theorem KilnDuty.retains {k : KilnId} {s t : State} (h : KilnDuty false k s t) (busy : (s.kiln k).Busy) :
    (s.kiln k).Retains (t.kiln k) := by
  have same {u v : State} (kiln : v.kiln k = u.kiln k) (hu : (u.kiln k).Busy) : (u.kiln k).Retains (v.kiln k) := by
    rw [kiln]
    exact .refl hu
  induction h with
  | refl s => exact .refl busy
  | trans _ _ first next => exact (first busy).trans (next (first busy).busy)
  | raise n s => exact same (State.raise_kiln n s k) busy
  | setpoint s => exact same (State.kiln_of_inner (State.produceSetpoint_inner k s) k) busy
  | withdraw s => exact same (State.kiln_of_inner (State.withdrawSetpoint_inner k s) k) busy
  | drew n s => exact .refl busy
  | kiln s _ duty =>
    rw [State.kiln_modKiln_self]
    exact duty rfl _ busy
  | charge s _ => exact same (State.modKilnCharge_kiln k _ s k) busy
  | unbind s => exact same (by fun_cases State.unbindKiln k s <;> rfl) busy

/-! ### Every kiln unit legal -/

/-- A kiln unit's hold stack, charge and timer are legal, and where `priced` asks so its limits and setpoints. -/
def Kiln.Legal (priced : Prop) (q : Kiln) : Prop := q.HoldsLegal ∧ q.Occupied ∧ (priced → q.SetpointsLegal)

def State.UnitsLegal (priced : Prop) (s : State) : Prop := ∀ k : KilnId, (s.kiln k).Legal priced

theorem State.unitsLegal_true (s : State) : s.UnitsLegal True ↔ s.HoldsLegal ∧ s.KilnsOccupied ∧ s.SetpointsLegal :=
  ⟨fun h => ⟨fun k => (h k).1, fun k => (h k).2.1, fun k => (h k).2.2 trivial⟩, fun ⟨holds, occupied, set⟩ k =>
    ⟨holds k, occupied k, fun _ => set k⟩⟩

theorem State.unitsLegal_false (s : State) : s.UnitsLegal False ↔ s.HoldsLegal ∧ s.KilnsOccupied :=
  ⟨fun h => ⟨fun k => (h k).1, fun k => (h k).2.1⟩, fun ⟨holds, occupied⟩ k => ⟨holds k, occupied k, False.elim⟩⟩

variable {priced : Prop}

theorem State.UnitsLegal.congr {s t : State} (hs : s.UnitsLegal priced) (kilns : t.kilns = s.kilns) : t.UnitsLegal priced := fun k => by
  rw [State.kiln_congr kilns k]
  exact hs k

theorem State.UnitsLegal.of_inner {s t : State} (hs : s.UnitsLegal priced) (h : t.inner = s.inner) :
    t.UnitsLegal priced :=
  hs.congr (congrArg State.kilns h :)

theorem State.UnitsLegal.of_beyond {s t : State} (hs : s.UnitsLegal priced) (h : t.beyond = s.beyond) :
    t.UnitsLegal priced :=
  hs.congr (congrArg State.kilns h :)

/-- One unit may change, into a legal one. -/
theorem State.UnitsLegal.of_one {s t : State} (hs : s.UnitsLegal priced) (k : KilnId) (others : ∀ j ≠ k, t.kiln j = s.kiln j)
    (legal : (t.kiln k).Legal priced) : t.UnitsLegal priced := fun j => by
  by_cases h : j = k
  · exact h ▸ legal
  · rw [others j h]
    exact hs j

/-- The work of a unit that holds a charge, where it keeps the hold stack legal. -/
theorem State.UnitsLegal.work {s t : State} (hs : s.UnitsLegal priced) {k : KilnId} (busy : (s.kiln k).state ≠ .idle)
    (work : KilnDuty false k s t) (tends : s.Tends False k 0 → t.Tends False k 0) : t.UnitsLegal priced := by
  obtain ⟨holds, occupied, set⟩ := hs k
  have retains := work.retains (occupied.busy busy)
  exact hs.of_one k (fun j hj => work.work.other j hj) ⟨(tends ⟨holds, False.elim⟩).holds, retains.busy.occupied,
    fun hp => retains.busy.setpointsLegal (retains.priced ((set hp).priced busy))⟩

theorem State.UnitsLegal.detect {s : State} (hs : s.UnitsLegal priced) (m : Bool) (f : FaultKind) (k : KilnId) :
    (s.detect m f k).UnitsLegal priced := by
  by_cases idle : (s.kiln k).state = .idle
  · rw [State.detect_ignored m f k s (.inr idle)]
    exact hs
  · exact hs.work idle (s.detect_work k m f) fun h => h.detect m f

theorem Kiln.Legal.tick {q : Kiln} (h : q.Legal priced) : ({ q with timer := tickCount q.timer } : Kiln).Legal priced := by
  obtain ⟨holds, ⟨charge, position, timer⟩, set⟩ := h
  refine ⟨holds, ⟨charge, position, timer.trans ?_⟩, set⟩
  cases q.timer <;> simp [tickCount]

/-- WRITE_KILN_LIMITS writes legal limits (R79, R80). -/
theorem Kiln.Legal.writeLimits {q : Kiln} (h : q.Legal priced) {l : Limits} (legal : l.Legal) : (q.writeLimits l).Legal priced := by
  obtain ⟨holds, occupied, set⟩ := h
  fun_cases Kiln.writeLimits l q
  case case1 state =>
    refine ⟨holds, occupied, fun hp => ?_⟩
    obtain ⟨-, -, idle, -⟩ := set hp
    exact ⟨legal, legal, idle, fun h => absurd state h⟩
  case case2 =>
    refine ⟨holds, occupied, fun hp => ?_⟩
    obtain ⟨-, inUse, idle, busy⟩ := set hp
    exact ⟨legal, inUse, idle, busy⟩

/-- A unit that takes a charge (R84). -/
theorem Kiln.Legal.load {q : Kiln} (h : q.Legal priced) (number : Nat) (args : List Byte) :
    ((q.load number args).markReported).Legal priced := by
  obtain ⟨-, -, set⟩ := h
  have busy : ((q.load number args).markReported).Busy := ⟨nofun, rfl, rfl, rfl⟩
  refine ⟨.of_empty rfl nofun, busy.occupied, fun hp => ?_⟩
  obtain ⟨written, inUse, -⟩ := set hp
  exact busy.setpointsLegal ⟨written, inUse, q.idlePair, rfl, inUse.admits_idle⟩

/-- A unit that gives up its charge (R102). -/
theorem Kiln.Legal.unload {q : Kiln} (h : q.Legal priced) : (q.unload.markReported).Legal priced := by
  obtain ⟨-, -, set⟩ := h
  refine ⟨.of_empty rfl nofun, ⟨iff_of_true rfl rfl, iff_of_true rfl rfl, iff_of_true rfl rfl⟩, fun hp => ?_⟩
  obtain ⟨written, -⟩ := set hp
  exact ⟨written, written, fun _ => rfl, fun busy => absurd rfl busy⟩

theorem Happens.unitsLegal {s t : State} (h : Happens true s t) (hs : s.UnitsLegal priced) : t.UnitsLegal priced := by
  cases h
  case reset straps eye encA encB _ =>
    exact fun k => ⟨State.holdsLegal_afterReset straps eye encA encB k, State.kilnsOccupied_afterReset straps eye encA encB k,
      fun _ => State.setpointsLegal_afterReset straps eye encA encB k⟩
  case tick =>
    intro k
    rw [State.kiln_tick]
    exact (hs k).tick
  case climate k x =>
    by_cases idle : (s.kiln k).state = .idle
    · rw [State.climateArrival, if_pos idle]
      exact hs
    · exact hs.work idle (s.climateArrival_work k x) fun h => h.climateArrival x
  case probe k x =>
    by_cases idle : (s.kiln k).state = .idle
    · rw [State.probeArrival, if_pos idle]
      exact hs
    · exact hs.work idle (s.probeArrival_work k x) fun h => h.probeArrival x
  case minute k busy => exact hs.work busy (s.kilnMinute_work k) fun h => h.kilnMinute
  case watchdog =>
    unfold State.expireWatchdog
    split
    · exact State.lapse_carries 0 (fun _ _ _ => hs.congr rfl) (fun u n hu => hu.of_inner (State.raise_inner n u))
        (fun k u hu => hu.detect false .supervisor k) fun n u hu => hu.congr rfl
    · exact hs
  case edit =>
    unfold State.expireEdit
    split
    · refine State.UnitsLegal.of_inner ?_ (State.raise_inner _ _)
      exact hs.congr rfl
    · exact hs
  case scan x => exact hs.of_beyond (State.scanArrival_beyond x s)
  case printDone x => exact hs.of_beyond (State.printDone_beyond x s)
  case encoder x y => exact hs.of_beyond (State.encoderChange_beyond x y s)
  case leading => exact hs.of_beyond (State.leadingEdge_beyond s)
  case trailing => exact hs.of_beyond (State.trailingEdge_beyond s)
  case label => exact hs.of_beyond (State.labelTimeout_beyond s)
  all_goals exact hs.congr rfl

theorem State.planerFeed_beyond (n : Nat) (s : State) : (s.planerFeed n).beyond = s.beyond := by
  have left : s.leaveInfeed.beyond = s.beyond := by
    unfold State.leaveInfeed
    split
    · exact State.modCharge_beyond _ _ s
    · rfl
  unfold State.planerFeed State.enterInfeed
  split
  · exact left
  · exact (State.modCharge_beyond n _ _).trans left

theorem State.writeStation_sides (d : StationId) (e : Station) (s : State) :
    (s.writeStation d e).kilns = s.kilns ∧ (s.writeStation d e).directory = s.directory := by
  have beyond := State.writeStation_beyond d e s
  rw [s.writeMap_eq d e] at beyond
  exact ⟨(congrArg State.kilns beyond :), (congrArg State.directory beyond :)⟩

theorem Effect.unitsLegal {kind : ReqKind} {r : Request} {s t : State} (h : Effect r s kind t) (hs : s.UnitsLegal priced) :
    t.UnitsLegal priced := by
  have runs {k : KilnId} (h : (s.kiln k).state = .running ∨ (s.kiln k).state = .held) : (s.kiln k).state ≠ .idle := by
    rcases h with h | h <;> rw [h] <;> decide
  cases h
  case heartbeat d =>
    exact State.heartbeat_carries d (fun _ _ _ => hs.congr rfl) (fun u n hu => hu.of_inner (State.raise_inner n u))
      (fun k u hu => hu.detect false .supervisor k) fun n u hu => hu.congr rfl
  case loadCharge k d g i _ _ _ _ _ _ =>
    refine hs.of_one k (fun j hj => State.loadCharge_other k d g i r.args s j hj) ?_
    rw [State.loadCharge_self]
    exact (hs k).load _ _
  case unload k reason _ _ =>
    refine hs.of_one k (fun j hj => (s.unloadKiln_work k reason).other j hj) ?_
    rw [State.unloadKiln_self]
    exact (hs k).unload
  case startKiln k p _ loaded pos =>
    exact hs.work (by rw [loaded]; decide) (s.startKiln_work k p) fun h => h.startKiln loaded pos
  case override k dry wet dr wr _ state room =>
    have admits : s.Admits k (.override dry wet dr wr) := ⟨nofun, nofun⟩
    exact hs.work (runs state) (s.pushHold_work k _ _) fun h => h.pushHold state room admits false
  case resume k top rest _ stack =>
    have held := (hs k).1.2.1.mp (by rw [stack]; exact List.cons_ne_nil _ _)
    exact hs.work (runs (.inr held)) (s.resumeEntry_work k _) fun h => h.resumeEntry stack
  case stop k _ state => exact hs.work (runs state) (s.stopKiln_work k _ _) fun h => h.stopKiln state false .request
  case restart k _ stopped =>
    exact hs.work (by rw [stopped]; decide) (s.restartKiln_work k) fun h => h.restartKiln stopped
  case feedNone => exact hs.of_beyond (State.planerFeed_beyond 0 s)
  case feed n _ _ _ _ => exact hs.of_beyond (State.planerFeed_beyond n s)
  case closePack bin p _ => exact hs.of_beyond (State.closePack_beyond bin p .forced s)
  case lineReset => exact hs.of_beyond (State.lineReset_beyond s)
  case writeStation d e _ _ => exact hs.congr (State.writeStation_sides d e s).1
  case clearPort p => exact hs.of_inner (State.modPort_inner p _ s)
  case writeKilnLimits k l _ legal =>
    refine hs.of_one k (fun j hj => State.kiln_modKiln_other k j hj _ s) ?_
    rw [State.kiln_modKiln_self]
    exact (hs k).writeLimits legal
  case writeFaultActions k x _ =>
    refine hs.of_one k (fun j hj => State.kiln_modKiln_other k j hj _ s) ?_
    rw [State.kiln_modKiln_self]
    exact hs k
  all_goals exact hs.congr rfl

theorem unitsLegal_kept : Kept (State.UnitsLegal priced) where
  congr h hs := hs.congr (congrArg State.kilns h :)
  event h hs := h.unitsLegal hs
  served h hs := h.unitsLegal hs

end Sys2Proof.Machine
end

section
/-! PROOFS. The books of the charge table (R127, R130, R133, R136): what the records, the reuse order, the boards, the open packs and
references in hand add up to. -/

namespace Sys2Proof.Machine

/-! ### Counting where one place changes -/

theorem countP_off {α : Type} {l : List α} {a : α} (absent : a ∉ l) {p q : α → Bool} (same : ∀ x, x ≠ a → p x = q x) :
    l.countP p = l.countP q :=
  List.countP_congr fun x hx => by rw [same x fun eq => absent (eq ▸ hx)]

/-- Two counts over distinct places that differ at one place at most. -/
theorem countP_change {α : Type} {l : List α} (distinct : l.Nodup) {a : α} (member : a ∈ l) {p q : α → Bool}
    (same : ∀ x, x ≠ a → p x = q x) : l.countP p + (q a).toNat = l.countP q + (p a).toNat := by
  induction l with
  | nil => exact absurd member List.not_mem_nil
  | cons x l ih =>
    obtain ⟨apart, distinct⟩ := List.nodup_cons.mp distinct
    have here (r : α → Bool) : (x :: l).countP r = l.countP r + (r x).toNat := by
      rw [List.countP_cons]
      cases r x <;> rfl
    rw [here p, here q]
    by_cases eq : x = a
    · subst eq
      rw [countP_off apart same]
      omega
    · have := ih distinct ((List.mem_cons.mp member).resolve_left (Ne.symm eq))
      rw [same x eq]
      omega

theorem countP_finRange_change {m : Nat} (a : Fin m) {p q : Fin m → Bool} (same : ∀ x, x ≠ a → p x = q x) :
    (List.finRange m).countP p + (q a).toNat = (List.finRange m).countP q + (p a).toNat :=
  countP_change (List.nodup_finRange m) (List.mem_finRange a) same

/-! ### What refers to a charge -/

theorem State.boardsOf_eq (s : State) (n : Nat) : s.boardsOf n = (s.line.queue.map Board.charge).count (some n) :=
  (count_charge n s.line.queue).symm

theorem State.packsOf_eq (s : State) (n : Nat) :
    s.packsOf n = (List.finRange 16).countP (fun b => s.bins[b].listed.contains (some n)) := by
  have same : s.bins.toList = (List.finRange 16).map (fun b => s.bins[b]) :=
    List.ext_getElem (by simp) (fun i hi _ => by simp)
  unfold State.packsOf
  rw [same, List.countP_map]
  rfl

/-- The references to a charge: its boards, the open packs that list it, and those in hand. -/
def State.refsTo (s : State) (hand : List (Option Nat)) (n : Nat) : Nat := s.boardsOf n + s.packsOf n + hand.count (some n)

/-- The states of a charge that a kiln holds (R77). -/
def ChargeState.inKiln (x : ChargeState) : Bool := x == .loaded || x == .drying || x == .dried

theorem ChargeState.not_inKiln_of_finishing {x : ChargeState} (h : x.finishing = true) : x.inKiln = false := by
  cases x with
  | stored => rfl
  | planed => rfl
  | planing => rfl
  | loaded => exact nomatch h
  | drying => exact nomatch h
  | dried => exact nomatch h
  | closed => rfl

/-- A record as the kilns' side reads it: its history, and where a kiln holds it its number, state, kiln and entry. -/
abbrev DrySide : Type := List HistoryEntry × Option (Nat × ChargeState × Option KilnId × Fin 32)

def Charge.drySide (c : Charge) : DrySide :=
  (c.history, if c.state.inKiln = true then some (c.number, c.state, c.kiln, c.entry) else none)

/-- The charge table in agreement, with references in hand; the kilns' side of its records is `dry`. -/
structure State.Books (dry : Fin 48 → DrySide) (hand : List (Option Nat)) (s : State) : Prop where
  live : ∀ i : Fin 48, s.charges[i].state ≠ .closed → s.charges[i].number ≠ 0
    ∧ ∀ j : Fin 48, s.charges[j].state ≠ .closed → s.charges[j].number = s.charges[i].number → j = i
  distinct : s.reuse.Nodup
  order : ∀ i : Fin 48, i ∈ s.reuse ↔ s.charges[i].state = .closed
  refs : ∀ i : Fin 48, s.charges[i].refs = if s.charges[i].state = .closed then 0 else s.refsTo hand s.charges[i].number
  known : ∀ n, 0 < s.refsTo hand n → s.HoldsLive n
  lists : ∀ b : Fin 16, s.bins[b].listed.Nodup
  infeed : ∀ n, s.line.infeed = some n ↔ ∃ i : Fin 48, s.charges[i].number = n ∧ s.charges[i].state = .planing
  dried : ∀ i : Fin 48, s.charges[i].drySide = dry i

theorem State.refsTo_pos (s : State) (hand : List (Option Nat)) (n : Nat) : 0 < s.refsTo hand n ↔
    (∃ b ∈ s.line.queue, b.charge = some n) ∨ (∃ b : Fin 16, some n ∈ s.bins[b].listed) ∨ some n ∈ hand := by
  have boards : 0 < s.boardsOf n ↔ ∃ b ∈ s.line.queue, b.charge = some n := by
    rw [State.boardsOf_eq, List.count_pos_iff, List.mem_map]
  have packs : 0 < s.packsOf n ↔ ∃ b : Fin 16, some n ∈ s.bins[b].listed := by
    rw [State.packsOf_eq, List.countP_pos_iff]
    simp
  rw [← boards, ← packs, ← List.count_pos_iff (l := hand)]
  unfold State.refsTo
  omega

theorem State.books_nil (s : State) (dry : Fin 48 → DrySide) :
    s.Books dry [] ↔ s.RecordsAgree ∧ ∀ i : Fin 48, s.charges[i].drySide = dry i := by
  have none (n : Nat) : s.refsTo [] n = s.boardsOf n + s.packsOf n := rfl
  constructor
  · intro h
    have known (n : Nat) (mentioned) := h.known n ((s.refsTo_pos [] n).mpr mentioned)
    refine ⟨⟨h.live, h.distinct, h.order, h.refs, fun b hb n hn => known n (.inl ⟨b, hb, hn⟩), fun b p hp => ?_, h.infeed⟩,
      h.dried⟩
    have listed : s.bins[b].listed = p.charges := by rw [Bin.listed, hp]; rfl
    exact ⟨listed ▸ h.lists b, fun n hn => known n (.inr (.inl ⟨b, listed ▸ hn⟩))⟩
  · rintro ⟨⟨live, distinct, order, refs, boards, packs, infeed⟩, dried⟩
    have listed (b : Fin 16) : s.bins[b].listed.Nodup ∧ ∀ n, some n ∈ s.bins[b].listed → s.HoldsLive n := by
      unfold Bin.listed
      cases hp : s.bins[b].pack with
      | none => exact ⟨List.nodup_nil, fun n h => absurd h List.not_mem_nil⟩
      | some p => exact packs b p hp
    refine ⟨live, distinct, order, refs, fun n some => ?_, fun b => (listed b).1, infeed, dried⟩
    rcases (s.refsTo_pos [] n).mp some with ⟨b, hb, hn⟩ | ⟨b, hb⟩ | h
    · exact boards b hb n hn
    · exact (listed b).2 n hb
    · exact absurd h List.not_mem_nil

/-! ### Moves of the books -/

variable {dry dry' : Fin 48 → DrySide} {hand hand' : List (Option Nat)} {s t : State}

namespace State.Books

/-- The record of a live number is found (R136). -/
theorem findLive (h : s.Books dry hand) {i : Fin 48} (live : s.charges[i].state ≠ .closed) :
    s.findLive s.charges[i].number = some i := by
  cases found : s.findLive s.charges[i].number with
  | some j =>
    obtain ⟨number, state⟩ := State.findLive_eq_some found
    rw [(h.live i live).2 j state number]
  | none =>
    unfold State.findLive at found
    split at found
    · next m hm =>
        obtain ⟨small, -⟩ := List.findIdx?_eq_some_iff_getElem.mp hm
        rw [Vector.length_toList] at small
        simp [index?, small] at found
    · next missing =>
        have absent := List.findIdx?_eq_none_iff.mp missing s.charges[i] (by simp)
        rw [beq_self_eq_true, Bool.true_and, bne_eq_false_iff_eq] at absent
        exact absurd absent live

/-- Numbers and the live records stay, and each record's count follows what refers to it. -/
theorem revise (h : s.Books dry hand) (number : ∀ i : Fin 48, t.charges[i].number = s.charges[i].number)
    (closed : ∀ i : Fin 48, t.charges[i].state = .closed ↔ s.charges[i].state = .closed)
    (dried : ∀ i : Fin 48, t.charges[i].drySide = dry' i) (reuse : t.reuse = s.reuse)
    (refs : ∀ i : Fin 48, t.charges[i].refs = if s.charges[i].state = .closed then 0 else t.refsTo hand' s.charges[i].number)
    (known : ∀ n, 0 < t.refsTo hand' n → s.HoldsLive n) (lists : ∀ b : Fin 16, t.bins[b].listed.Nodup)
    (infeed : ∀ n, t.line.infeed = some n ↔ ∃ i : Fin 48, t.charges[i].number = n ∧ t.charges[i].state = .planing) :
    t.Books dry' hand' where
  live i hi := by
    rw [Ne, closed] at hi
    obtain ⟨nonzero, unique⟩ := h.live i hi
    rw [number]
    refine ⟨nonzero, fun j hj same => ?_⟩
    rw [Ne, closed] at hj
    exact unique j hj ((number j).symm.trans same)
  distinct := reuse ▸ h.distinct
  order i := by rw [reuse, closed]; exact h.order i
  refs i := by
    rw [refs, number]
    exact if_congr (closed i).symm rfl rfl
  known n some := by
    obtain ⟨i, hn, live⟩ := known n some
    exact ⟨i, (number i).trans hn, fun h => live ((closed i).mp h)⟩
  lists := lists
  infeed := infeed
  dried := dried

/-- The records stay but for their statistics, and the references only change places. -/
theorem move (h : s.Books dry hand) (charges : ∀ i : Fin 48, { t.charges[i] with stats := {} } = { s.charges[i] with stats := {} })
    (reuse : t.reuse = s.reuse) (infeed : t.line.infeed = s.line.infeed) (refs : ∀ n, t.refsTo hand' n = s.refsTo hand n)
    (lists : ∀ b : Fin 16, t.bins[b].listed.Nodup) : t.Books dry hand' := by
  have number (i : Fin 48) : t.charges[i].number = s.charges[i].number := (congrArg Charge.number (charges i) :)
  have state (i : Fin 48) : t.charges[i].state = s.charges[i].state := (congrArg Charge.state (charges i) :)
  refine h.revise number (fun i => by rw [state]) (fun i => (congrArg Charge.drySide (charges i) :).trans (h.dried i)) reuse (fun i => ?_)
    (fun n some => h.known n (refs n ▸ some)) lists (fun n => ?_)
  · rw [refs]
    exact (congrArg Charge.refs (charges i) :).trans (h.refs i)
  · simp only [infeed, number, state]
    exact h.infeed n

theorem perm (h : s.Books dry hand) (perm : hand.Perm hand') : s.Books dry hand' :=
  h.move (fun _ => rfl) rfl rfl (fun n => by unfold State.refsTo; rw [perm.count_eq]) h.lists

/-- A record that is STORED or PLANED and to which nothing refers is closed (R131 to R133). -/
theorem closeRecord (h : s.Books dry hand) {i : Fin 48} (state : s.charges[i].state.finishing = true)
    (refs : s.charges[i].refs = 0) : (s.closeRecord i).Books dry hand := by
  have live : s.charges[i].state ≠ .closed := fun closed => by rw [closed] at state; exact nomatch state
  have entry (j : Fin 48) : (s.closeRecord i).charges[j] =
      if j = i then { s.charges[i] with state := .closed, closedStamp := some s.stamp } else s.charges[j] :=
    State.setCharge_entry s i j _
  have other {j : Fin 48} (open_ : (s.closeRecord i).charges[j].state ≠ .closed) : j ≠ i := fun eq => by
    rw [entry, if_pos eq] at open_
    exact open_ rfl
  have same {j : Fin 48} (apart : j ≠ i) : (s.closeRecord i).charges[j] = s.charges[j] := (entry j).trans (if_neg apart)
  have none : s.refsTo hand s.charges[i].number = 0 := by
    have := h.refs i
    rw [if_neg live, refs] at this
    exact this.symm
  refine ⟨fun j hj => ?_, ?_, fun j => ?_, fun j => ?_, fun n some => ?_, h.lists, fun n => ?_, fun j => ?_⟩
  · have apart := other hj
    rw [same apart] at hj ⊢
    obtain ⟨nonzero, unique⟩ := h.live j hj
    refine ⟨nonzero, fun k hk number => ?_⟩
    have apart' := other hk
    rw [same apart'] at hk number
    exact unique k hk number
  · refine List.nodup_append.mpr ⟨h.distinct, List.nodup_singleton i, fun a ha b hb eq => ?_⟩
    obtain rfl := List.mem_singleton.mp hb
    subst eq
    exact live ((h.order a).mp ha)
  · change j ∈ s.reuse ++ [i] ↔ _
    rw [List.mem_append, List.mem_singleton, h.order, entry]
    by_cases eq : j = i
    · simp [eq]
    · simp [eq]
  · rw [entry]
    split
    · exact refs
    · exact h.refs j
  · obtain ⟨j, number, open_⟩ := h.known n some
    have apart : j ≠ i := fun eq => by
      have here : 0 < s.refsTo hand n := some
      rw [← number, eq, none] at here
      exact Nat.lt_irrefl 0 here
    exact ⟨j, by rw [same apart]; exact number, by rw [same apart]; exact open_⟩
  · change s.line.infeed = some n ↔ _
    rw [h.infeed]
    refine exists_congr fun j => ?_
    by_cases eq : j = i
    · subst eq
      rw [entry, if_pos rfl]
      exact iff_of_false (fun ⟨_, planing⟩ => by rw [planing] at state; exact nomatch state) (fun ⟨_, planing⟩ => nomatch planing)
    · rw [same eq]
  · rw [entry]
    split
    · next eq =>
        subst eq
        rw [← h.dried]
        unfold Charge.drySide
        rw [if_neg (Bool.eq_false_iff.mp (ChargeState.not_inKiln_of_finishing state))]
        rfl
    · exact h.dried j

/-- One record's count follows what refers to it. -/
theorem recount (h : s.Books dry hand) {i : Fin 48} (live : s.charges[i].state ≠ .closed) {x : Nat}
    (count : x = s.refsTo hand' s.charges[i].number) (others : ∀ n, n ≠ s.charges[i].number → s.refsTo hand' n = s.refsTo hand n) :
    (s.setCharge i { s.charges[i] with refs := x }).Books dry hand' := by
  have entry (j : Fin 48) : (s.setCharge i { s.charges[i] with refs := x }).charges[j] =
      { s.charges[j] with refs := if j = i then x else s.charges[j].refs } := by
    rw [State.setCharge_entry]
    split
    · next eq => subst eq; rfl
    · rfl
  refine h.revise (fun j => by rw [entry]) (fun j => by rw [entry]) (fun j => by rw [entry]; exact h.dried j) rfl (fun j => ?_)
    (fun n some => ?_)
    h.lists (fun n => by simp only [entry]; exact h.infeed n)
  · rw [entry]
    change (if j = i then x else s.charges[j].refs) = if s.charges[j].state = .closed then 0 else s.refsTo hand' s.charges[j].number
    split
    · next eq => subst eq; rw [if_neg live, count]
    · next apart =>
        rw [h.refs j]
        split
        · rfl
        · next open_ => exact (others _ fun same => apart ((h.live i live).2 j open_ same)).symm
  · by_cases eq : n = s.charges[i].number
    · exact ⟨i, eq.symm, live⟩
    · exact h.known n (others n eq ▸ some)

/-- A reference is taken on a live charge (R127). -/
theorem takeRef (h : s.Books dry hand) {c : Option Nat} (live : ∀ n, c = some n → s.HoldsLive n) :
    (s.takeRef c).Books dry (c :: hand) := by
  cases c with
  | none =>
    refine h.move (fun _ => rfl) rfl rfl (fun n => ?_) h.lists
    unfold State.refsTo
    rw [List.count_cons_of_ne (by simp)]
    rfl
  | some n =>
    obtain ⟨i, rfl, open_⟩ := live n rfl
    rw [State.takeRef_found (h.findLive open_)]
    refine h.recount open_ ?_ (fun m other => ?_)
    · rw [h.refs i, if_neg open_]
      unfold State.refsTo
      rw [List.count_cons_self]
      rfl
    · unfold State.refsTo
      rw [List.count_cons_of_ne (fun eq => other (Option.some.inj eq).symm)]

/-- A reference in hand is given back (R127, R131). -/
theorem releaseRef {c : Option Nat} (h : s.Books dry (c :: hand)) : (s.releaseRef c).Books dry hand := by
  cases c with
  | none =>
    refine h.move (fun _ => rfl) rfl rfl (fun n => ?_) h.lists
    unfold State.refsTo
    rw [List.count_cons_of_ne (by simp)]
    rfl
  | some n =>
    obtain ⟨i, rfl, open_⟩ := h.known n ((s.refsTo_pos _ n).mpr (.inr (.inr List.mem_cons_self)))
    have counted := h.refs i
    rw [if_neg open_] at counted
    have least : s.refsTo (some s.charges[i].number :: hand) s.charges[i].number = s.refsTo hand s.charges[i].number + 1 := by
      unfold State.refsTo
      rw [List.count_cons_self]
      rfl
    have given : (s.setCharge i { s.charges[i] with refs := s.charges[i].refs - 1 }).Books dry hand := by
      refine h.recount open_ (by rw [counted, least]; rfl) (fun m other => ?_)
      unfold State.refsTo
      rw [List.count_cons_of_ne (fun eq => other (Option.some.inj eq).symm)]
    have entry : (s.setCharge i { s.charges[i] with refs := s.charges[i].refs - 1 }).charges[i] =
        { s.charges[i] with refs := s.charges[i].refs - 1 } := (State.setCharge_entry s i i _).trans (if_pos rfl)
    rw [State.releaseRef_found (h.findLive open_)]
    split
    · next last =>
        obtain ⟨planed, one⟩ := last
        exact given.closeRecord (by rw [entry, planed]; rfl) (by rw [entry, one])
    · exact given

theorem releaseRef_foldl {cs : List (Option Nat)} (h : s.Books dry (cs ++ hand)) :
    (cs.foldl (fun t c => t.releaseRef c) s).Books dry hand := by
  induction cs generalizing s with
  | nil => exact h
  | cons c cs ih => exact ih h.releaseRef

/-- References are given back in any order (R127, log 8). -/
theorem releaseRefs {cs : List (Option Nat)} (h : s.Books dry (cs ++ hand)) : (s.releaseRefs cs).Books dry hand := by
  have given := (h.perm (((s.freeOrder_perm cs).symm).append_right hand)).releaseRef_foldl
  unfold State.releaseRefs
  exact given.move (fun _ => rfl) rfl rfl (fun _ => rfl) given.lists

end State.Books

end Sys2Proof.Machine
end

section
/-! PROOFS. The finishing side keeps the books of the charge table (R127, R130, R131, R168). -/

namespace Sys2Proof.Machine

variable {dry : Fin 48 → DrySide} {hand hand' : List (Option Nat)} {s t : State}

/-! ### What the books read -/

/-- What the books read of a part: the records, the reuse order, the boards' charges, the infeed and the packs' lists. -/
def State.ledger (s : State) : Vector Charge 48 × List (Fin 48) × List (Option Nat) × Option Nat × (Fin 16 → List (Option Nat)) :=
  (s.charges, s.reuse, s.line.queue.map Board.charge, s.line.infeed, fun b => s.bins[b].listed)

theorem State.ledger_of_inner (h : t.inner = s.inner) : t.ledger = s.ledger := (congrArg State.ledger h :)

/-- The packs and records as they were, and the line tracker but for its line-hold. -/
theorem State.ledger_of_track (beside : t.beside = s.beside) (track : t.track = s.track) : t.ledger = s.ledger := by
  obtain ⟨-, -, bins, charges, reuse, -⟩ := State.beside_tables beside
  have boards : t.line.queue = s.line.queue := (congrArg Line.queue track :)
  have infeed : t.line.infeed = s.line.infeed := (congrArg Line.infeed track :)
  unfold State.ledger
  rw [bins, charges, reuse, boards, infeed]

theorem State.ledger_withLine {l : Line} (boards : l.queue.map Board.charge = s.line.queue.map Board.charge)
    (infeed : l.infeed = s.line.infeed) : ({ s with line := l } : State).ledger = s.ledger := by
  change (_, _, l.queue.map Board.charge, l.infeed, _) = _
  rw [boards, infeed]
  rfl

theorem State.evaluateHold_ledger (s : State) : s.evaluateHold.ledger = s.ledger :=
  State.ledger_of_track s.evaluateHold_beside s.evaluateHold_track

theorem State.startHead_ledger (s : State) : s.startHead.ledger = s.ledger :=
  State.ledger_of_track s.startHead_beside s.startHead_track

theorem State.handOff_ledger (p : Pack) (bin : Fin 16) (r : CloseReason) (s : State) : (s.handOff p bin r).ledger = s.ledger :=
  State.ledger_of_track (State.handOff_beside p bin r s) (State.handOff_track p bin r s)

theorem State.noted_ledger (bin : Fin 16) (p : Pack) (r : CloseReason) (s : State) : (s.noted bin p r).ledger = s.ledger :=
  (State.ledger_of_inner (State.noted_inner bin p r s)).trans (State.handOff_ledger p bin r s)

theorem State.finishHead_ledger (o : LabelOutcome) (s : State) : (s.finishHead o).ledger = s.ledger := by
  have failed (u : State) (n : Notice) : (if o = .printed then u else u.raise n).ledger = u.ledger := by
    split
    · rfl
    · exact State.ledger_of_inner (State.raise_inner n u)
  unfold State.finishHead
  split
  · rfl
  · dsimp only
    rw [State.startHead_ledger, State.evaluateHold_ledger]
    exact failed _ _

theorem State.printDone_ledger (x : List Byte) (s : State) : (s.printDone x).ledger = s.ledger := by
  unfold State.printDone
  split
  · exact State.finishHead_ledger _ s
  · rfl

theorem State.labelTimeout_ledger (s : State) : s.labelTimeout.ledger = s.ledger := by
  unfold State.labelTimeout
  split
  · exact State.finishHead_ledger _ s
  · rfl

theorem State.followPrinter_ledger (x y : Option StationId) (s : State) : (s.followPrinter x y).ledger = s.ledger := by
  fun_cases State.followPrinter x y s
  case case1 => exact s.startHead_ledger
  case case3 => exact State.ledger_of_inner s.produceRows_inner
  case case4 => exact s.startHead_ledger
  all_goals rfl

theorem State.writeStation_ledger (d : StationId) (e : Station) (s : State) : (s.writeStation d e).ledger = s.ledger := by
  have written : (s.writeMap d e).ledger = s.ledger := by
    rw [s.writeMap_eq d e]
    rfl
  have followed : ((s.writeMap d e).followActuator e.role e.side).inner = (s.writeMap d e).inner := by
    fun_cases State.followActuator e.role e.side (s.writeMap d e) <;> simp
  exact (State.followPrinter_ledger _ _ _).trans ((State.ledger_of_inner (State.produceNotices_inner _)).trans
    ((State.ledger_of_inner followed).trans written))

/-! ### A scan and the edges of the board-eye -/

theorem State.pairBoard_charge (x : List Byte) (b : Board) (s : State) : (s.pairBoard x b).charge = b.charge := by
  unfold State.pairBoard
  split <;> rfl

theorem matchBoards_charge {pair : Board → Board} (keeps : ∀ b, (pair b).charge = b.charge) (d : Nat) (l : List Board) :
    (matchBoards pair d l).map Board.charge = l.map Board.charge := by
  fun_induction matchBoards pair d l with
  | case1 => rfl
  | case2 b rest _ => rw [List.map_cons, keeps, List.map_cons]
  | case3 b rest _ _ ih => rw [List.map_cons, ih, List.map_cons]; rfl
  | case4 _ b rest _ ih => rw [List.map_cons, ih, List.map_cons]

theorem State.scanArrival_ledger (x : List Byte) (s : State) : (s.scanArrival x).ledger = s.ledger := by
  unfold State.scanArrival
  dsimp only
  split
  · rfl
  · exact State.ledger_withLine (matchBoards_charge (fun b => State.pairBoard_charge x b s) _ _) rfl

theorem clearFirst_charge (l : List Board) : (clearFirst l).map Board.charge = l.map Board.charge := by
  fun_induction clearFirst l with
  | case1 => rfl
  | case2 b rest _ => rfl
  | case3 b rest _ ih => rw [List.map_cons, ih, List.map_cons]

theorem Line.takeTrailing_charge (l : Line) : l.takeTrailing.queue.map Board.charge = l.queue.map Board.charge := by
  change (clearFirst l.queue.reverse).reverse.map Board.charge = _
  rw [List.map_reverse, clearFirst_charge, List.map_reverse, List.reverse_reverse]

theorem State.trailingEdge_ledger (s : State) : s.trailingEdge.ledger = s.ledger := by
  unfold State.trailingEdge
  dsimp only
  split
  · split
    · rfl
    · exact State.ledger_withLine (Line.takeTrailing_charge _) rfl
  · rfl

namespace State.Books

theorem of_ledger (h : s.Books dry hand) (same : t.ledger = s.ledger) : t.Books dry hand := by
  obtain ⟨charges, rest⟩ := Prod.mk.inj same
  obtain ⟨reuse, rest⟩ := Prod.mk.inj rest
  obtain ⟨boards, rest⟩ := Prod.mk.inj rest
  obtain ⟨infeed, packs⟩ := Prod.mk.inj rest
  have listed (b : Fin 16) : t.bins[b].listed = s.bins[b].listed := congrFun packs b
  refine h.move (fun i => by rw [charges]) reuse infeed (fun n => ?_) (fun b => listed b ▸ h.lists b)
  unfold State.refsTo
  rw [State.boardsOf_eq, State.boardsOf_eq, State.packsOf_eq, State.packsOf_eq, boards]
  simp only [listed]

/-! ### Packs (R164, R168, R170) -/

/-- A bin's list changes as the references in hand do. -/
theorem relist (h : s.Books dry hand) (bin : Fin 16) (f : Bin → Bin) (distinct : (f s.bins[bin]).listed.Nodup)
    (counts : ∀ n, hand'.count (some n) + (f s.bins[bin]).listed.count (some n)
      = hand.count (some n) + s.bins[bin].listed.count (some n)) : (s.modBin bin f).Books dry hand' := by
  have asCount {l : List (Option Nat)} (nodup : l.Nodup) (n : Nat) : (l.contains (some n)).toNat = l.count (some n) := by
    by_cases member : some n ∈ l
    · rw [List.contains_iff_mem.mpr member, List.count_eq_one_of_mem nodup member]
      rfl
    · rw [List.count_eq_zero_of_not_mem member]
      simp [member]
  refine h.move (fun _ => rfl) rfl rfl (fun n => ?_) (fun b => ?_)
  · have packs := countP_finRange_change bin (p := fun b => (s.modBin bin f).bins[b].listed.contains (some n))
      (q := fun b => s.bins[b].listed.contains (some n)) (fun b other => by rw [State.modBin_entry, if_neg other])
    rw [← State.packsOf_eq, ← State.packsOf_eq, State.modBin_entry, if_pos rfl, asCount distinct, asCount (h.lists bin)] at packs
    have boards : (s.modBin bin f).boardsOf n = s.boardsOf n := rfl
    have := counts n
    unfold State.refsTo
    omega
  · rw [State.modBin_entry]
    split
    · exact distinct
    · exact h.lists b

theorem releaseRefs_withBins (cs : List (Option Nat)) (s : State) (b : Vector Bin 16) :
    ({ s with bins := b } : State).releaseRefs cs = { s.releaseRefs cs with bins := b } := by
  have one (c : Option Nat) (u : State) : ({ u with bins := b } : State).releaseRef c = { u.releaseRef c with bins := b } := by
    cases c with
    | none => rfl
    | some n =>
      have found : ({ u with bins := b } : State).findLive n = u.findLive n := rfl
      unfold State.releaseRef
      dsimp only
      rw [found]
      cases u.findLive n with
      | none => rfl
      | some i =>
        dsimp only
        split <;> rfl
  have all (l : List (Option Nat)) (u : State) : l.foldl (fun t c => t.releaseRef c) ({ u with bins := b } : State)
      = { l.foldl (fun t c => t.releaseRef c) u with bins := b } := by
    induction l generalizing u with
    | nil => rfl
    | cons c l ih => rw [List.foldl_cons, one, ih, List.foldl_cons]
  unfold State.releaseRefs
  exact congrArg (fun u : State => u.drewFree cs.length) (all (s.freeOrder cs) s)

/-- A close gives back the references of the pack it takes from its bin (R168). -/
theorem closePack (h : s.Books dry hand) {bin : Fin 16} {p : Pack} (isOpen : s.bins[bin].pack = some p) (r : CloseReason) :
    (s.closePack bin p r).Books dry hand := by
  have noted := h.of_ledger (State.noted_ledger bin p r s)
  have bins : (s.noted bin p r).bins = s.bins := by
    obtain ⟨-, -, bins, -⟩ := State.inner_tables (State.noted_inner bin p r s)
    obtain ⟨-, -, handed, -⟩ := State.beside_tables (State.handOff_beside p bin r s)
    exact bins.trans handed
  have listed : (s.noted bin p r).bins[bin].listed = p.charges := by
    rw [bins, Bin.listed, isOpen]
    rfl
  have taken : ((s.noted bin p r).modBin bin (fun b => { b with pack := none })).Books dry (p.charges ++ hand) := by
    refine noted.relist bin _ List.nodup_nil fun n => ?_
    rw [listed, List.count_append]
    change _ + 0 = _
    omega
  have same : (((s.noted bin p r).releaseRefs p.charges).bins) = (s.noted bin p r).bins :=
    (State.releaseRef_foldl_rest _ _).2.2.2.1
  rw [State.closePack_noted, State.modBin_of_bins same, ← releaseRefs_withBins]
  exact taken.releaseRefs

/-- A board joins an open pack or opens one (R164, R168). -/
theorem addBoard (h : s.Books dry hand) {bin : Fin 16} {b : Board} {p : Pack} (listed : s.bins[bin].listed = p.charges)
    (live : ∀ n, b.charge = some n → s.HoldsLive n) : (s.addBoard bin b p).Books dry hand := by
  have listedAfter : (p.add b).charges = (p.takeCharge b.charge).charges := Pack.add_charges b p
  have joined : (s.joined bin b p.charges (p.add b)).Books dry hand := by
    unfold State.joined
    by_cases known : b.charge ∈ p.charges
    · have same : (p.add b).charges = p.charges := by
        rw [listedAfter, Pack.takeCharge, if_pos (List.contains_iff_mem.mpr known)]
      rw [if_pos known]
      refine h.relist bin _ ?_ fun n => ?_
      · change (p.add b).charges.Nodup
        rw [same, ← listed]
        exact h.lists bin
      · change _ + (p.add b).charges.count (some n) = _
        rw [same, listed]
    · have grown : (p.add b).charges = p.charges ++ [b.charge] := by
        rw [listedAfter, Pack.takeCharge, if_neg (fun c => known (List.contains_iff_mem.mp c))]
      have bins : (s.takeRef b.charge).bins = s.bins := State.bins_of_packSide (s.takeRef_packSide b.charge)
      rw [if_neg known]
      refine (h.takeRef live).relist bin _ ?_ fun n => ?_
      · change (p.add b).charges.Nodup
        rw [grown]
        refine List.nodup_append.mpr ⟨listed ▸ h.lists bin, List.nodup_singleton _, fun x hx y hy eq => ?_⟩
        rw [List.mem_singleton.mp hy] at eq
        exact known (eq ▸ hx)
      · change _ + (p.add b).charges.count (some n) = _
        rw [grown, bins, listed, List.count_append, List.count_cons, List.count_cons, List.count_nil]
        omega
  rw [State.addBoard_eq]
  split
  · exact joined.closePack (by rw [State.joined_bin]) .countReached
  · exact joined

theorem openWith (h : s.Books dry hand) {bin : Fin 16} {b : Board} (closed : s.bins[bin].pack = none)
    (live : ∀ n, b.charge = some n → s.HoldsLive n) : (s.openWith bin b).Books dry hand := by
  unfold State.openWith
  split
  · exact h.relist bin _ (h.lists bin) fun _ => rfl
  · have numbered : ({ s with nextPack := nextPackNumber s.nextPack } : State).Books dry hand := h.of_ledger rfl
    have listed : s.bins[bin].listed = [] := by
      rw [Bin.listed, closed]
      rfl
    exact numbered.addBoard listed live

/-- A charge to which a board in the tracking queue refers is live through a close. -/
theorem board_live (h : s.Books dry hand) {b : Board} (member : b.charge ∈ s.line.queue.map Board.charge) {n : Nat}
    (charge : b.charge = some n) : s.HoldsLive n := by
  obtain ⟨c, hc, same⟩ := List.mem_map.mp member
  exact h.known n ((s.refsTo_pos hand n).mpr (.inl ⟨c, hc, same.trans charge⟩))

theorem placeBoard (h : s.Books dry hand) {bin : Fin 16} {b : Board} (member : b.charge ∈ s.line.queue.map Board.charge) :
    (s.placeBoard bin b).Books dry hand := by
  unfold State.placeBoard
  split
  · next closed => exact h.openWith closed fun n => h.board_live member
  · next p isOpen =>
    have listed : s.bins[bin].listed = p.charges := by
      rw [Bin.listed, isOpen]
      rfl
    split
    · have after := h.closePack isOpen .chargeMix
      have queue : (s.closePack bin p .chargeMix).line.queue = s.line.queue :=
        (congrArg Line.queue (State.closePack_track bin p .chargeMix s) :)
      obtain ⟨-, -, -, bins⟩ := State.closePack_collections bin p .chargeMix s
      refine after.openWith ?_ fun n => after.board_live (by rw [queue]; exact member)
      rw [bins]
      simp
    · exact h.addBoard listed fun n => h.board_live member

theorem resetBin (h : s.Books dry hand) (bin : Fin 16) : (s.resetBin bin).Books dry hand := by
  cases isOpen : s.bins[bin].pack with
  | none =>
    rw [State.resetBin_none isOpen]
    exact h
  | some p =>
    rw [State.resetBin_some isOpen]
    exact h.closePack isOpen .lineReset

theorem resetBins (h : s.Books dry hand) : s.resetBins.Books dry hand := by
  have each (l : List (Fin 16)) (u : State) (hu : u.Books dry hand) : (l.foldl State.resetBin u).Books dry hand := by
    induction l generalizing u with
    | nil => exact hu
    | cons b l ih => exact ih _ (hu.resetBin b)
  refine (each (List.finRange 16) s h).of_ledger ?_
  unfold State.resetBins State.ledger
  simp [Bin.listed]

/-! ### Boards (R140, R152, R159) -/

/-- Boards leave the tracking queue or join it as the references in hand do. -/
theorem retag (h : s.Books dry hand) {l : Line} (infeed : l.infeed = s.line.infeed)
    (counts : ∀ n, hand'.count (some n) + (l.queue.map Board.charge).count (some n)
      = hand.count (some n) + (s.line.queue.map Board.charge).count (some n)) : ({ s with line := l } : State).Books dry hand' := by
  refine h.move (fun _ => rfl) rfl infeed (fun n => ?_) h.lists
  have packs : ({ s with line := l } : State).packsOf n = s.packsOf n := rfl
  have := counts n
  unfold State.refsTo
  rw [State.boardsOf_eq, State.boardsOf_eq, packs]
  change (l.queue.map Board.charge).count (some n) + _ + _ = _
  omega

theorem countInCharge (h : s.Books dry hand) (b : Board) : (s.countInCharge b).Books dry hand := by
  have kept (n : Nat) (f : Charge → Charge) (stats : ∀ c, { f c with stats := {} } = { c with stats := {} }) :
      (s.modCharge n f).Books dry hand := by
    have rest : (s.modCharge n f).line = s.line ∧ (s.modCharge n f).bins = s.bins ∧ (s.modCharge n f).reuse = s.reuse := by
      fun_cases State.modCharge n f s <;> exact ⟨rfl, rfl, rfl⟩
    obtain ⟨line, bins, reuse⟩ := rest
    refine h.move (fun i => ?_) reuse (congrArg Line.infeed line) (fun m => ?_) (fun c => bins ▸ h.lists c)
    · rw [State.modCharge_entry]
      split
      · exact stats _
      · rfl
    · unfold State.refsTo State.boardsOf State.packsOf
      rw [line, bins]
  unfold State.countInCharge
  split
  · exact kept _ _ fun _ => rfl
  · exact h

/-- A departure: the board is counted and placed, leaves the queue, and gives back its reference (R152). -/
theorem depart (h : s.Books dry hand) : s.depart.Books dry hand := by
  cases queue : s.line.queue with
  | nil =>
    unfold State.depart
    rw [queue]
    exact h
  | cons b rest =>
    have kept := b.settleAtDeparture_keeps.1
    have counted : (s.departing b).Books dry hand := by
      unfold State.departing
      refine countInCharge ?_ b.settleAtDeparture
      exact h.of_ledger (State.ledger_withLine rfl rfl)
    have boards : (s.departing b).line.queue = b :: rest := (congrArg Line.queue (State.departing_line b s)).trans queue
    have placed : (s.placing b).Books dry hand := counted.placeBoard (by rw [kept, boards]; exact List.mem_cons_self)
    have still : (s.placing b).line.queue = b :: rest := (congrArg Line.queue (State.placeBoard_track _ _ _) :).trans boards
    have left : ({ s.placing b with line := (s.placing b).line.dropHead } : State).Books dry (b.charge :: hand) := by
      refine placed.retag rfl fun n => ?_
      change _ + ((s.placing b).line.queue.tail.map Board.charge).count (some n) = _
      rw [still, List.tail_cons, List.map_cons, List.count_cons, List.count_cons]
      omega
    rw [State.depart_eq queue, ← State.releaseRef_withLine]
    exact left.releaseRef.of_ledger (State.evaluateHold_ledger _)

theorem departures (h : s.Books dry hand) : s.departures.Books dry hand := by
  rw [State.departures_eq]
  generalize (s.line.queue.takeWhile Board.reachedStacker).length = n
  induction n generalizing s with
  | zero => exact h
  | succ n ih => exact ih h.depart

theorem encoderChange (h : s.Books dry hand) (x y : Bool) : (s.encoderChange x y).Books dry hand := by
  cases moved : countDirection s.line.encA s.line.encB x y with
  | none =>
    rw [State.encoderChange_still moved]
    exact h.of_ledger rfl
  | some d =>
    rw [State.encoderChange_counts moved]
    refine departures (h.of_ledger (State.ledger_withLine ?_ rfl))
    rw [Line.counted_queue, List.map_map]
    rfl

/-- A board opens with a reference to the infeed charge (R140). -/
theorem openBoard (h : s.Books dry hand) : s.openBoard.Books dry hand := by
  unfold State.openBoard
  split
  · have live (n : Nat) (infeed : s.line.infeed = some n) : s.HoldsLive n := by
      obtain ⟨i, number, planing⟩ := (h.infeed n).mp infeed
      exact ⟨i, number, by rw [planing]; nofun⟩
    have same := (State.takeRef_line s.line.infeed s).1
    have opened : ({ s.takeRef s.line.infeed with line := s.line.opened } : State).Books dry hand := by
      refine (h.takeRef live).retag ?_ fun n => ?_
      · rw [same]
        rfl
      · rw [same]
        change _ + ((s.line.queue ++ [s.line.newBoard]).map Board.charge).count (some n) = _
        have tag : s.line.newBoard.charge = s.line.infeed := rfl
        rw [List.map_append, List.count_append, List.count_cons, List.map_singleton, tag, List.count_cons, List.count_nil]
        omega
    refine of_ledger ?_ (State.evaluateHold_ledger _)
    have commuted : (s.modLine Line.opened).takeRef s.line.infeed = { s.takeRef s.line.infeed with line := s.line.opened } :=
      State.takeRef_withLine s.line.infeed s s.line.opened
    rw [commuted]
    exact opened
  · refine h.of_ledger ?_
    unfold State.noteLost
    split
    · rfl
    · exact (State.ledger_of_inner (State.raise_inner _ _)).trans rfl

theorem leadingEdge (h : s.Books dry hand) : s.leadingEdge.Books dry hand := by
  have blocked : (s.modLine (fun l => { l with eyeBlocked := true })).Books dry hand := h.of_ledger rfl
  unfold State.leadingEdge
  dsimp only
  split
  · exact h
  · split
    · exact blocked.of_ledger rfl
    · unfold State.takeLeading
      split
      · next early =>
        split
        · exact blocked
        · refine openBoard (blocked.of_ledger (State.ledger_withLine ?_ ?_))
          · rw [Line.splitLast_eq early]
            unfold Line.flagged
            rw [List.map_map]
            refine List.map_congr_left fun b _ => ?_
            dsimp only [Function.comp]
            split
            · rw [Board.markSplit_eq]
              split <;> rfl
            · rfl
          · rw [Line.splitLast_eq early]
      · exact blocked.openBoard

theorem lineReset (h : s.Books dry hand) : s.lineReset.Books dry hand := by
  have taken : (s.modLine Line.discard).Books dry (s.line.queue.map Board.charge ++ hand) := by
    refine h.retag rfl fun n => ?_
    rw [List.count_append]
    change _ + 0 = _
    omega
  have released := taken.releaseRefs
  have discarded : s.discardBoards.Books dry hand := released.of_ledger (State.evaluateHold_ledger _)
  have zeroed {u : State} (hu : u.Books dry hand) : (u.modLine (fun l => { l with counters := {} })).Books dry hand :=
    hu.of_ledger rfl
  exact (zeroed discarded.resetBins).of_ledger (State.evaluateHold_ledger _)

end State.Books

end Sys2Proof.Machine
end

section
/-! PROOFS. PLANER_FEED and the books (R129, R130), and what the finishing side leaves the kilns (R62, R77). -/

namespace Sys2Proof.Machine

variable {dry : Fin 48 → DrySide} {hand : List (Option Nat)}
  {s t : State}

namespace State.Books

/-! ### PLANER_FEED (R130) -/

/-- The PLANING record is found by the infeed charge's number. -/
theorem infeed_found (h : s.Books dry hand) {n : Nat} (infeed : s.line.infeed = some n) (i : Fin 48) :
    s.findLive n = some i ↔ s.charges[i].state = .planing := by
  obtain ⟨j, number, planing⟩ := (h.infeed n).mp infeed
  have open_ : s.charges[j].state ≠ .closed := by rw [planing]; nofun
  have found : s.findLive n = some j := number ▸ h.findLive open_
  rw [found]
  refine ⟨fun same => Option.some.inj same ▸ planing, fun other => congrArg some ?_⟩
  have live : s.charges[i].state ≠ .closed := by rw [other]; nofun
  have again := (h.infeed s.charges[i].number).mpr ⟨i, rfl, other⟩
  exact ((h.live j open_).2 i live ((Option.some.inj (again.symm.trans infeed)).trans number.symm)).symm

theorem leaveInfeed_entry (h : s.Books dry hand) (i : Fin 48) : s.leaveInfeed.charges[i] =
    { s.charges[i] with state := if s.charges[i].state = .planing then .planed else s.charges[i].state } := by
  unfold State.leaveInfeed
  split
  · next n infeed =>
    rw [State.modCharge_entry]
    simp only [h.infeed_found infeed]
    split <;> rfl
  · next none =>
    have other : s.charges[i].state ≠ .planing := fun planing => by
      have := (h.infeed _).mpr ⟨i, rfl, planing⟩
      exact nomatch none.symm.trans this
    rw [if_neg other]

theorem leaveInfeed_bins (s : State) : s.leaveInfeed.bins = s.bins := by
  unfold State.leaveInfeed
  split
  · next n _ => fun_cases State.modCharge n _ s <;> rfl
  · rfl

/-- Records that move among STORED, PLANING and PLANED keep the kilns' side. -/
theorem drySide_finishing {c : Charge} {x : ChargeState} (old : c.state.inKiln = false) (new : x.inKiln = false) :
    ({ c with state := x } : Charge).drySide = c.drySide := by
  unfold Charge.drySide
  dsimp only
  rw [old, new]
  rfl

/-- The infeed is emptied. -/
theorem planerFeed_none (h : s.Books dry hand) : (s.planerFeed 0).Books dry hand := by
  obtain ⟨line, reuse⟩ := State.planerFeed_line 0 s
  have entry (i : Fin 48) : (s.planerFeed 0).charges[i] = _ := h.leaveInfeed_entry i
  have bins : (s.planerFeed 0).bins = s.bins := leaveInfeed_bins s
  have refs (n : Nat) : (s.planerFeed 0).refsTo hand n = s.refsTo hand n := by
    unfold State.refsTo State.boardsOf State.packsOf
    rw [line, bins]
  have closed (i : Fin 48) : (s.planerFeed 0).charges[i].state = .closed ↔ s.charges[i].state = .closed := by
    rw [entry]
    dsimp only
    split
    · next planing => exact iff_of_false nofun (by rw [planing]; nofun)
    · rfl
  refine h.revise (fun i => by rw [entry]) closed (fun i => ?_) reuse (fun i => ?_)
    (fun n some => h.known n (refs n ▸ some)) (fun b => by rw [bins]; exact h.lists b) (fun n => ?_)
  · rw [entry]
    split
    · next planing => exact (drySide_finishing (by rw [planing]; rfl) rfl).trans (h.dried i)
    · exact h.dried i
  · rw [entry, refs]
    exact h.refs i
  · rw [line]
    refine iff_of_false nofun fun ⟨i, _, planing⟩ => ?_
    rw [entry] at planing
    dsimp only at planing
    split at planing
    · exact nomatch planing
    · next other => exact other planing

/-- A STORED or PLANED record enters an empty infeed. -/
theorem enter (h : s.Books dry hand) (empty : s.line.infeed = none) {n : Nat} {i : Fin 48} (found : s.findLive n = some i)
    (state : s.charges[i].state.finishing = true) :
    ((s.modCharge n (fun c => { c with state := .planing })).modLine (fun l => { l with infeed := some n })).Books dry hand := by
  obtain ⟨number, open_⟩ := State.findLive_eq_some found
  have none (j : Fin 48) : s.charges[j].state ≠ .planing := fun planing => by
    have := (h.infeed _).mpr ⟨j, rfl, planing⟩
    exact nomatch empty.symm.trans this
  have whole : s.modCharge n (fun c => { c with state := .planing }) = s.setCharge i { s.charges[i] with state := .planing } := by
    unfold State.modCharge
    rw [found]
  have entry (j : Fin 48) : ((s.setCharge i { s.charges[i] with state := .planing }).modLine
      (fun l => { l with infeed := some n })).charges[j] =
        { s.charges[j] with state := if j = i then .planing else s.charges[j].state } := by
    refine (State.setCharge_entry s i j _).trans ?_
    split
    · next eq => subst eq; rfl
    · rfl
  rw [whole]
  refine h.revise (fun j => by rw [entry]) (fun j => ?_) (fun j => ?_) rfl (fun j => ?_) h.known h.lists (fun m => ?_)
  · rw [entry]
    dsimp only
    split
    · next eq => subst eq; exact iff_of_false nofun open_
    · rfl
  · rw [entry]
    split
    · next eq =>
        subst eq
        exact (drySide_finishing (ChargeState.not_inKiln_of_finishing state) rfl).trans (h.dried j)
    · exact h.dried j
  · rw [entry]
    exact h.refs j
  · simp only [entry]
    constructor
    · intro same
      exact ⟨i, number.trans (Option.some.inj same), if_pos rfl⟩
    · rintro ⟨j, hm, planing⟩
      split at planing
      · next eq =>
          subst eq
          exact congrArg some (number.symm.trans hm)
      · exact absurd planing (none j)

theorem planerFeed (h : s.Books dry hand) {n : Nat} {c : Charge} (nonzero : n ≠ 0) (found : s.charge? n = some c)
    (state : c.state.finishing = true) : (s.planerFeed n).Books dry hand := by
  obtain ⟨i, at_, rfl⟩ := Option.map_eq_some_iff.mp found
  obtain ⟨number, open_⟩ := State.findLive_eq_some at_
  have emptied := h.planerFeed_none
  have same : (s.planerFeed 0).charges[i] = s.charges[i] := by
    have other : s.charges[i].state ≠ .planing := fun planing => by
      rw [planing] at state
      exact nomatch state
    refine (h.leaveInfeed_entry i).trans ?_
    rw [if_neg other]
  have found₀ : (s.planerFeed 0).findLive n = some i := by
    rw [← number, ← same]
    exact emptied.findLive (by rw [same]; exact open_)
  have split_ : s.planerFeed n = ((s.planerFeed 0).modCharge n (fun c => { c with state := .planing })).modLine
      (fun l => { l with infeed := some n }) := by
    have commuted := State.modCharge_withLine n (fun c => { c with state := .planing }) s.leaveInfeed
      { s.leaveInfeed.line with infeed := none }
    have zero : s.planerFeed 0 = { s.leaveInfeed with line := { s.leaveInfeed.line with infeed := none } } := rfl
    have line := (State.modCharge_sides n (fun c : Charge => { c with state := .planing }) s.leaveInfeed).1
    rw [zero, commuted]
    refine (if_neg nonzero).trans ?_
    unfold State.modLine
    rw [line]
  rw [split_]
  refine emptied.enter ?_ found₀ (by rw [same]; exact state)
  exact congrArg Line.infeed (State.planerFeed_line 0 s).1

end State.Books

end Sys2Proof.Machine
end

section
/-! PROOFS. The kilns and the charge table (R62, R77, R95): what one kiln unit's change must keep. -/

namespace Sys2Proof.Machine

variable {dry dry' : Fin 48 → DrySide} {hand hand' : List (Option Nat)}
  {s t : State} {k : KilnId} {i : Fin 48}

/-! ### A kiln and its record -/

/-- A kiln and a charge record name each other and agree. -/
structure State.Links (s : State) (k : KilnId) (i : Fin 48) : Prop where
  charge : (s.kiln k).charge = some s.charges[i].number
  kiln : s.charges[i].kiln = some k
  fits : ∃ p, (s.kiln k).Fits s.charges[i] p

theorem State.kilnAgrees_iff (s : State) (k : KilnId) : s.KilnAgrees k ↔ ((s.kiln k).state ≠ .idle → ∃ i, s.Links k i) := by
  have index (q : Kiln) (n : Nat) : q.index? = some n ↔ ∃ p, q.position = some p ∧ p.index = n := Option.map_eq_some_iff
  refine imp_congr_right fun _ => exists_congr fun i => ⟨?_, ?_⟩
  · rintro ⟨p, charge, state, kiln, position, history, most, below, entered, pending⟩
    exact ⟨charge, kiln, p.index, state, (index _ _).mpr ⟨p, position, rfl⟩, history, most, below, entered, pending⟩
  · rintro ⟨charge, kiln, n, fits⟩
    obtain ⟨p, position, rfl⟩ := (index _ _).mp fits.index
    exact ⟨p, charge, fits.state, kiln, position, fits.history, fits.most, fits.below, fits.entered, fits.pending⟩

theorem KilnState.chargeState_inKiln {x : KilnState} {c : ChargeState} (h : x.chargeState = some c) : c.inKiln = true := by
  cases x with
  | idle => exact nomatch h
  | done => obtain rfl := Option.some.inj h; rfl
  | loaded => obtain rfl := Option.some.inj h; rfl
  | running => obtain rfl := Option.some.inj h; rfl
  | held => obtain rfl := Option.some.inj h; rfl
  | stopped => obtain rfl := Option.some.inj h; rfl

theorem ChargeState.inKiln_iff (x : ChargeState) : x.inKiln = true ↔ x = .loaded ∨ x = .drying ∨ x = .dried := by
  cases x <;> decide

theorem ChargeState.live_of_inKiln {x : ChargeState} (h : x.inKiln = true) : x ≠ .closed ∧ x ≠ .planing := by
  constructor <;> rintro rfl <;> exact nomatch h

namespace State.Links

theorem inKiln (h : s.Links k i) : s.charges[i].state.inKiln = true := by
  obtain ⟨p, fits⟩ := h.fits
  exact KilnState.chargeState_inKiln fits.state

theorem live (h : s.Links k i) : s.charges[i].state ≠ .closed := (ChargeState.live_of_inKiln h.inKiln).1

theorem busy (h : s.Links k i) : (s.kiln k).state ≠ .idle := fun idle => by
  obtain ⟨p, fits⟩ := h.fits
  have agrees := fits.state
  rw [idle] at agrees
  exact nomatch agrees

/-- The record's number leads to the record. -/
theorem kilnCharge (h : s.Links k i) (books : s.Books dry hand) : s.kilnCharge k = some s.charges[i] := by
  unfold State.kilnCharge State.charge?
  rw [h.charge]
  dsimp only
  rw [books.findLive h.live]
  rfl

end State.Links

/-! ### The kilns bound to an entry (R62) -/

/-- A kiln counts in an entry's in-use count. -/
def State.bound (s : State) (d : Fin 32) (k : KilnId) : Bool :=
  (s.kiln k).state.binds && (s.kilnCharge k).elim false (fun c => c.entry == d)

theorem State.kilnsOn_eq (s : State) (d : Fin 32) : s.kilnsOn d = (List.finRange 16).countP (s.bound d) := rfl

theorem State.bound_idle (h : (s.kiln k).state = .idle) (d : Fin 32) : s.bound d k = false := by
  unfold State.bound
  rw [h]
  rfl

theorem State.Links.bound (h : s.Links k i) (books : s.Books dry hand) (d : Fin 32) :
    s.bound d k = ((s.kiln k).state.binds && s.charges[i].entry == d) := by
  unfold State.bound
  rw [h.kilnCharge books]
  rfl

/-! ### What the finishing side leaves -/

/-- Where a record is held by a kiln, its kilns' side is its number, state, kiln and entry. -/
theorem Charge.drySide_held {c d : Charge} (same : d.drySide = c.drySide) (held : c.state.inKiln = true) :
    d.history = c.history ∧ d.number = c.number ∧ d.state = c.state ∧ d.kiln = c.kiln ∧ d.entry = c.entry := by
  unfold Charge.drySide at same
  rw [if_pos held] at same
  obtain ⟨history, rest⟩ := Prod.mk.inj same
  split at rest
  · obtain ⟨number, rest⟩ := Prod.mk.inj (Option.some.inj rest)
    obtain ⟨state, rest⟩ := Prod.mk.inj rest
    obtain ⟨kiln, entry⟩ := Prod.mk.inj rest
    exact ⟨history, number, state, kiln, entry⟩
  · exact nomatch rest

theorem Charge.inKiln_of_drySide {c d : Charge} (same : d.drySide = c.drySide) : d.state.inKiln = c.state.inKiln := by
  have second := congrArg (fun x => x.2.isSome) same
  unfold Charge.drySide at second
  revert second
  cases d.state.inKiln <;> cases c.state.inKiln <;> simp

theorem State.Links.of_dry (h : s.Links k i) (same : t.charges[i].drySide = s.charges[i].drySide)
    (core : (t.kiln k).core = (s.kiln k).core) (charge : (t.kiln k).charge = (s.kiln k).charge) : t.Links k i := by
  obtain ⟨history, number, state, kiln, -⟩ := Charge.drySide_held same h.inKiln
  obtain ⟨p, fits⟩ := h.fits
  exact ⟨by rw [charge, number]; exact h.charge, kiln.trans h.kiln, p, fits.congr core state (by rw [history])⟩

/-- The kilns agree still where they, their records and the in-use counts stay. -/
theorem State.KilnsAgree.of_dry (h : s.KilnsAgree) (before : s.Books dry hand) (after : t.Books dry hand')
    (kilns : ∀ k, (t.kiln k).core = (s.kiln k).core ∧ (t.kiln k).charge = (s.kiln k).charge)
    (directory : ∀ d : Fin 32, t.directory[d].inUse = s.directory[d].inUse
      ∧ (s.directory[d].inUse ≠ 0 → s.directory[d].valid = true → t.directory[d].valid = true)) : t.KilnsAgree := by
  obtain ⟨agrees, held, history, counts⟩ := h
  have same (i : Fin 48) : t.charges[i].drySide = s.charges[i].drySide := (after.dried i).trans (before.dried i).symm
  have state (k : KilnId) : (t.kiln k).state = (s.kiln k).state := (Kiln.core_eq_iff.mp (kilns k).1).1
  have links (k : KilnId) (busy : (s.kiln k).state ≠ .idle) : ∃ i, s.Links k i ∧ t.Links k i := by
    obtain ⟨i, l⟩ := (s.kilnAgrees_iff k).mp (agrees k) busy
    exact ⟨i, l, l.of_dry (same i) (kilns k).1 (kilns k).2⟩
  refine ⟨fun k => (t.kilnAgrees_iff k).mpr fun busy => ?_, fun i hi => ?_, fun i => ?_, fun d => ?_⟩
  · obtain ⟨i, -, l⟩ := links k (state k ▸ busy)
    exact ⟨i, l⟩
  · have inKiln := Charge.inKiln_of_drySide (same i)
    rw [(ChargeState.inKiln_iff _).mpr hi] at inKiln
    obtain ⟨-, number, -, kiln, -⟩ := Charge.drySide_held (same i) inKiln.symm
    obtain ⟨k, hk, charge⟩ := held i ((ChargeState.inKiln_iff _).mp inKiln.symm)
    exact ⟨k, kiln.trans hk, by rw [(kilns k).2, number]; exact charge⟩
  · have listed : t.charges[i].history = s.charges[i].history := (congrArg Prod.fst (same i) :)
    rw [listed]
    exact history i
  · obtain ⟨inUse, valid⟩ := directory d
    obtain ⟨count, used⟩ := counts d
    have bound : t.kilnsOn d = s.kilnsOn d := by
      rw [State.kilnsOn_eq, State.kilnsOn_eq]
      refine List.countP_congr fun k _ => ?_
      by_cases idle : (s.kiln k).state = .idle
      · rw [State.bound_idle idle, State.bound_idle ((state k).trans idle)]
      · obtain ⟨i, l, m⟩ := links k idle
        rw [l.bound before, m.bound after, state k, (Charge.drySide_held (same i) l.inKiln).2.2.2.2]
    rw [inUse, bound]
    exact ⟨count, fun some => valid some (used some)⟩

/-! ### What one kiln unit's change must keep -/

/-- One kiln and one record change, which no other kiln and no other record have to do with. -/
theorem State.KilnsAgree.change (h : s.KilnsAgree) (before : s.Books dry hand) (after : t.Books dry' hand')
    (kilns : ∀ j ≠ k, t.kiln j = s.kiln j) (records : ∀ j ≠ i, t.charges[j] = s.charges[j])
    (apart : ∀ j ≠ k, ¬ s.Links j i)
    (own : ∀ j ≠ i, s.charges[j].state.inKiln = true → (s.kiln k).charge ≠ some s.charges[j].number)
    (links : (t.kiln k).state ≠ .idle → t.Links k i) (rests : (t.kiln k).state = .idle → t.charges[i].state.inKiln = false)
    (history : t.charges[i].history.length ≤ 24)
    (counts : ∀ d : Fin 32, t.directory[d].inUse + (s.bound d k).toNat = s.directory[d].inUse + (t.bound d k).toNat)
    (valid : ∀ d : Fin 32, t.directory[d].inUse ≠ 0 → t.directory[d].valid = true) : t.KilnsAgree := by
  obtain ⟨agrees, held, histories, directory⟩ := h
  have other (j : KilnId) (hj : j ≠ k) (busy : (s.kiln j).state ≠ .idle) : ∃ m, s.Links j m ∧ t.Links j m
      ∧ t.charges[m] = s.charges[m] := by
    obtain ⟨m, l⟩ := (s.kilnAgrees_iff j).mp (agrees j) busy
    have same := records m fun eq => apart j hj (eq ▸ l)
    refine ⟨m, l, ⟨?_, ?_, ?_⟩, same⟩ <;> rw [same]
    · rw [kilns j hj]; exact l.charge
    · exact l.kiln
    · rw [kilns j hj]; exact l.fits
  refine ⟨fun j => (t.kilnAgrees_iff j).mpr fun busy => ?_, fun j hj => ?_, fun j => ?_, fun d => ⟨?_, valid d⟩⟩
  · by_cases eq : j = k
    · subst eq
      exact ⟨i, links busy⟩
    · rw [kilns j eq] at busy
      obtain ⟨m, -, l, -⟩ := other j eq busy
      exact ⟨m, l⟩
  · have inKiln := (ChargeState.inKiln_iff _).mpr hj
    by_cases eq : j = i
    · subst eq
      have busy : (t.kiln k).state ≠ .idle := fun idle => nomatch inKiln.symm.trans (rests idle)
      exact ⟨k, (links busy).kiln, (links busy).charge⟩
    · rw [records j eq] at hj inKiln ⊢
      obtain ⟨m, kiln, charge⟩ := held j hj
      have ne : m ≠ k := fun same => own j eq inKiln (same ▸ charge)
      exact ⟨m, kiln, by rw [kilns m ne]; exact charge⟩
  · by_cases eq : j = i
    · exact eq ▸ history
    · rw [records j eq]
      exact histories j
  · have change := countP_finRange_change k (p := t.bound d) (q := s.bound d) fun j hj => by
      by_cases idle : (s.kiln j).state = .idle
      · rw [State.bound_idle idle, State.bound_idle (by rw [kilns j hj]; exact idle)]
      · obtain ⟨m, l, l', same⟩ := other j hj idle
        rw [l.bound before, l'.bound after, kilns j hj, same]
    have count := (directory d).1
    have := counts d
    rw [State.kilnsOn_eq] at count ⊢
    omega

end Sys2Proof.Machine
end

section
/-! PROOFS. The work of a kiln unit and the charge table (R62, R77, R95, R102): the unit, its record and its entry stay in agreement. -/

namespace Sys2Proof.Machine

variable {dry : Fin 48 → DrySide} {hand : List (Option Nat)}
  {s t u : State} {k : KilnId} {i : Fin 48} {n : Nat}

/-! ### What a kiln unit's work reaches -/

/-- Of the charge table and the directory, only one record and its entry's in-use count change. -/
structure State.Confined (i : Fin 48) (s t : State) : Prop where
  others : ∀ j ≠ i, t.charges[j] = s.charges[j]
  kiln : t.charges[i].kiln = s.charges[i].kiln
  entry : t.charges[i].entry = s.charges[i].entry
  planing : s.charges[i].state ≠ .planing → t.charges[i].state ≠ .planing
  elsewhere : ∀ d : Fin 32, d ≠ s.charges[i].entry → t.directory[d] = s.directory[d]
  fewer : ∀ d : Fin 32, t.directory[d].inUse ≤ s.directory[d].inUse

namespace State.Confined

theorem of_same (charges : t.charges = s.charges) (directory : t.directory = s.directory) : State.Confined i s t where
  others j _ := by rw [charges]
  kiln := by rw [charges]
  entry := by rw [charges]
  planing := by rw [charges]; exact id
  elsewhere d _ := by rw [directory]
  fewer d := by rw [directory]

theorem of_inner (h : t.inner = s.inner) : State.Confined i s t :=
  of_same (State.charges_of_inner h) (congrArg State.directory h :)

theorem trans (first : State.Confined i s t) (next : State.Confined i t u) : State.Confined i s u where
  others j hj := (next.others j hj).trans (first.others j hj)
  kiln := next.kiln.trans first.kiln
  entry := next.entry.trans first.entry
  planing h := next.planing (first.planing h)
  elsewhere d hd := (next.elsewhere d (first.entry.symm ▸ hd)).trans (first.elsewhere d hd)
  fewer d := (next.fewer d).trans (first.fewer d)

end State.Confined

/-- Work after which the unit holds its charge still reaches that charge's record and its entry's count alone. -/
theorem KilnDuty.confined (h : KilnDuty false k s t) (busy : (s.kiln k).Busy) (charge : (s.kiln k).charge = some n)
    (found : s.findLive n = some i) : State.Confined i s t := by
  induction h with
  | refl s => exact .of_same rfl rfl
  | trans first _ one two =>
    have retains := first.retains busy
    refine (one busy charge found).trans (two retains.busy (retains.charge.trans charge) ?_)
    rw [State.findLive_of_ledger first.work.ledger, found]
  | raise n s => exact .of_inner (State.raise_inner n s)
  | setpoint s => exact .of_inner (State.produceSetpoint_inner k s)
  | withdraw s => exact .of_inner (State.withdrawSetpoint_inner k s)
  | drew n s => exact .of_same rfl rfl
  | kiln s _ _ => exact .of_same rfl rfl
  | charge s keeps =>
    next f =>
    have whole : s.modKilnCharge k f = s.modCharge n f := by
      unfold State.modKilnCharge
      rw [charge]
    have entry (j : Fin 48) : (s.modKilnCharge k f).charges[j] = if j = i then f s.charges[i] else s.charges[j] := by
      rw [whole, State.modCharge_entry, found]
      by_cases eq : j = i
      · subst eq; rw [if_pos rfl, if_pos rfl]
      · rw [if_neg eq, if_neg fun same => eq (Option.some.inj same).symm]
    obtain ⟨-, -, -, kiln, bound, -, planing⟩ := keeps s.charges[i]
    refine ⟨fun j hj => (entry j).trans (if_neg hj), ?_, ?_, ?_, fun d _ => ?_, fun d => ?_⟩
    · rw [entry, if_pos rfl]; exact kiln
    · rw [entry, if_pos rfl]; exact bound
    · rw [entry, if_pos rfl]; exact planing
    · rw [State.modKilnCharge_directory]
    · rw [State.modKilnCharge_directory]
  | unbind s =>
    have record : s.kilnCharge k = some s.charges[i] := by
      unfold State.kilnCharge State.charge?
      rw [charge]
      dsimp only
      rw [found]
      rfl
    have whole : s.unbindKiln k = s.unbindEntry s.charges[i].entry := by
      unfold State.unbindKiln
      rw [record]
    rw [whole]
    have entry (d : Fin 32) : (s.unbindEntry s.charges[i].entry).directory[d] =
        if d = s.charges[i].entry then { s.directory[s.charges[i].entry] with inUse := s.directory[s.charges[i].entry].inUse - 1 }
        else s.directory[d] := State.modEntry_entry s _ d _
    refine ⟨fun _ _ => rfl, rfl, rfl, id, fun d hd => (entry d).trans (if_neg hd), fun d => ?_⟩
    rw [entry]
    split
    · next eq => subst eq; exact Nat.sub_le _ _
    · exact le_rfl

theorem KilnDuty.valid (h : KilnWork k s t) (d : Fin 32) : t.directory[d].valid = s.directory[d].valid :=
  (congrArg DirEntry.valid (congrFun h.committed d) :)

/-- A kiln unit's work keeps the books where its record is not PLANING. -/
theorem State.Books.work (h : s.Books dry hand) (work : KilnWork k s t) (others : ∀ j ≠ i, t.charges[j] = s.charges[j])
    (before : s.charges[i].state ≠ .planing) (after : t.charges[i].state ≠ .planing) :
    t.Books (fun j => t.charges[j].drySide) hand := by
  have line : t.line = s.line := (congrArg State.line work.aside :)
  have bins : t.bins = s.bins := (congrArg State.bins work.aside :)
  have ledger (j : Fin 48) : t.charges[j].number = s.charges[j].number ∧ t.charges[j].refs = s.charges[j].refs
      ∧ (t.charges[j].state = .closed ↔ s.charges[j].state = .closed) := by
    obtain ⟨number, rest⟩ := Prod.mk.inj (work.ledger j)
    obtain ⟨refs, rest⟩ := Prod.mk.inj rest
    obtain ⟨-, closed⟩ := Prod.mk.inj rest
    exact ⟨number, refs, beq_iff_eq.symm.trans ((Bool.eq_iff_iff.mp closed).trans beq_iff_eq)⟩
  have refs (m : Nat) : t.refsTo hand m = s.refsTo hand m := by
    unfold State.refsTo State.boardsOf State.packsOf
    rw [line, bins]
  refine h.revise (fun j => (ledger j).1) (fun j => (ledger j).2.2) (fun _ => rfl) (congrArg State.reuse work.aside :)
    (fun j => ?_) (fun m some => h.known m (refs m ▸ some)) (fun b => by rw [bins]; exact h.lists b) (fun m => ?_)
  · rw [refs, (ledger j).2.1]
    exact h.refs j
  · rw [line, h.infeed]
    refine exists_congr fun j => ?_
    by_cases eq : j = i
    · subst eq
      exact iff_of_false (fun same => before same.2) fun same => after same.2
    · rw [others j eq]

/-! ### A kiln unit's part in the agreement -/

theorem State.UnitsLegal.occupied {p : Prop} (h : s.UnitsLegal p) (k : KilnId) : (s.kiln k).Occupied := (h k).2.1

/-- A kiln and its record are apart from the other kilns and records. -/
theorem State.Links.own (h : s.Links k i) (books : s.Books dry hand) {j : Fin 48} (apart : j ≠ i)
    (held : s.charges[j].state.inKiln = true) : (s.kiln k).charge ≠ some s.charges[j].number := fun same => by
  have number := Option.some.inj (same.symm.trans h.charge)
  exact apart ((books.live i h.live).2 j (ChargeState.live_of_inKiln held).1 number)

theorem State.Links.apart (h : s.Links k i) {j : KilnId} (other : j ≠ k) : ¬ s.Links j i := fun l =>
  other (Option.some.inj (l.kiln.symm.trans h.kiln))

/-- A kiln is among those that its entry counts (R62). -/
theorem State.Links.counted (h : s.Links k i) (books : s.Books dry hand) (agree : s.KilnsAgree) :
    (s.kiln k).state.binds.toNat ≤ s.directory[s.charges[i].entry].inUse := by
  obtain ⟨-, -, -, counts⟩ := agree
  rw [(counts _).1]
  cases binds : (s.kiln k).state.binds with
  | false => exact Nat.zero_le _
  | true =>
    rw [State.kilnsOn_eq]
    refine List.countP_pos_iff.mpr ⟨k, List.mem_finRange k, ?_⟩
    rw [h.bound books, binds]
    simp

/-- What the agreement says of one kiln unit's record, beside the other kilns of its entry. -/
theorem State.Links.tends (h : s.Links k i) (books : s.Books dry hand) (agree : s.KilnsAgree) (holds : (s.kiln k).HoldsLegal)
    (committed : s.CommittedLegal) :
    s.Tends True k (s.directory[s.charges[i].entry].inUse - (s.kiln k).state.binds.toNat) := by
  refine ⟨holds, fun _ => ?_⟩
  obtain ⟨p, fits⟩ := h.fits
  refine ⟨s.charges[i], p, h.kilnCharge books, fits, ?_, (committed s.charges[i].entry).1⟩
  have counted := h.counted books agree
  cases binds : (s.kiln k).state.binds with
  | false => rfl
  | true =>
    rw [binds] at counted
    exact (Nat.sub_add_cancel counted).symm

/-- Work of a unit that holds its charge still keeps the agreement. -/
theorem State.KilnsAgree.work (agree : s.KilnsAgree) (books : s.Books dry hand) (links : s.Links k i)
    (occupied : (s.kiln k).Occupied) (holds : (s.kiln k).HoldsLegal) (committed : s.CommittedLegal)
    (duty : KilnDuty false k s t) (tends : ∀ m, s.Tends True k m → t.Tends True k m) :
    t.Books (fun j => t.charges[j].drySide) hand ∧ t.KilnsAgree := by
  have busy := occupied.busy links.busy
  have retains := duty.retains busy
  have confined := duty.confined busy links.charge (books.findLive links.live)
  have before := (ChargeState.live_of_inKiln links.inKiln).2
  have after := books.work duty.work confined.others before (confined.planing before)
  have number : t.charges[i].number = s.charges[i].number := (congrArg Prod.fst (duty.work.ledger i) :)
  have charge : (t.kiln k).charge = some t.charges[i].number := by rw [retains.charge, number, links.charge]
  have live : t.charges[i].state ≠ .closed := fun closed => links.live <| by
    have same : (t.charges[i].state == .closed) = (s.charges[i].state == .closed) :=
      (congrArg (fun x => x.2.2.2) (duty.work.ledger i) :)
    rw [closed] at same
    exact beq_iff_eq.mp same.symm
  have record : t.kilnCharge k = some t.charges[i] := by
    unfold State.kilnCharge State.charge?
    rw [charge]
    dsimp only
    rw [after.findLive live]
    rfl
  obtain ⟨c, p, hc, fits, uses, -⟩ := (tends _ (links.tends books agree holds committed)).fits trivial
  obtain rfl := Option.some.inj (record.symm.trans hc)
  have linked : t.Links k i := ⟨charge, confined.kiln.trans links.kiln, p, fits⟩
  refine ⟨after, agree.change books after (fun j hj => duty.work.other j hj) confined.others (fun j hj => links.apart hj)
    (fun j hj => links.own books hj) (fun _ => linked) (fun idle => absurd idle linked.busy) (fits.history.trans fits.most)
    (fun d => ?_) (fun d used => ?_)⟩
  · rw [links.bound books, linked.bound after, confined.entry]
    by_cases eq : d = s.charges[i].entry
    · have counted := links.counted books agree
      rw [confined.entry] at uses
      rw [eq, beq_self_eq_true, Bool.and_true, Bool.and_true, uses]
      have asNat (b : Bool) : (if b = true then 1 else 0) = b.toNat := by cases b <;> rfl
      rw [asNat]
      omega
    · have other : (s.charges[i].entry == d) = false := beq_eq_false_iff_ne.mpr (Ne.symm eq)
      rw [other, Bool.and_false, Bool.and_false, confined.elsewhere d eq]
  · rw [duty.work.valid]
    obtain ⟨-, -, -, counts⟩ := agree
    exact (counts d).2 fun none => used (Nat.le_zero.mp (none ▸ confined.fewer d))

end Sys2Proof.Machine
end

section
/-! PROOFS. LOAD_CHARGE and UNLOAD_CHARGE keep the charge table in agreement (R83, R84, R102, R133). -/

namespace Sys2Proof.Machine

variable {dry : Fin 48 → DrySide} {hand : List (Option Nat)}
  {s t : State} {k : KilnId} {i : Fin 48}

/-! ### A record taken (R83, R133) -/

theorem State.Books.unknown (h : s.Books dry hand) {n : Nat} (absent : s.findLive n = none) : ¬ s.HoldsLive n := by
  rintro ⟨i, rfl, live⟩
  exact nomatch absent.symm.trans (h.findLive live)

/-- A CLOSED record is taken for a charge whose number is not known. -/
theorem State.Books.openRecord (h : s.Books dry hand) (closed : i ∈ s.reuse) {c : Charge} (nonzero : c.number ≠ 0)
    (inKiln : c.state.inKiln = true) (unreferenced : c.refs = 0) (absent : s.findLive c.number = none)
    (entry : ∀ j : Fin 48, t.charges[j] = if j = i then c else s.charges[j]) (reuse : t.reuse = s.reuse.erase i)
    (line : t.line = s.line) (bins : t.bins = s.bins) : t.Books (fun j => t.charges[j].drySide) hand := by
  have unknown := h.unknown absent
  have was := (h.order i).mp closed
  have here : t.charges[i] = c := (entry i).trans (if_pos rfl)
  have same {j : Fin 48} (apart : j ≠ i) : t.charges[j] = s.charges[j] := (entry j).trans (if_neg apart)
  have apart {j : Fin 48} (live : s.charges[j].state ≠ .closed) : j ≠ i := fun eq => live (eq ▸ was)
  obtain ⟨live, notPlaning⟩ := ChargeState.live_of_inKiln inKiln
  have refs (n : Nat) : t.refsTo hand n = s.refsTo hand n := by
    unfold State.refsTo State.boardsOf State.packsOf
    rw [line, bins]
  refine ⟨fun j hj => ?_, reuse ▸ h.distinct.erase i, fun j => ?_, fun j => ?_, fun n some => ?_, fun b => bins ▸ h.lists b,
    fun n => ?_, fun _ => rfl⟩
  · by_cases eq : j = i
    · subst eq
      rw [here]
      refine ⟨nonzero, fun m hm number => ?_⟩
      by_contra other
      rw [same other] at hm number
      exact unknown ⟨m, number, hm⟩
    · rw [same eq] at hj ⊢
      obtain ⟨nonzero', unique⟩ := h.live j hj
      refine ⟨nonzero', fun m hm number => ?_⟩
      by_cases eq' : m = i
      · subst eq'
        rw [here] at number
        exact absurd ⟨j, number.symm, hj⟩ unknown
      · rw [same eq'] at hm number
        exact unique m hm number
  · rw [reuse, h.distinct.mem_erase_iff]
    by_cases eq : j = i
    · subst eq
      rw [here]
      exact iff_of_false (fun both => both.1 rfl) live
    · rw [same eq, h.order]
      exact and_iff_right eq
  · rw [refs]
    by_cases eq : j = i
    · subst eq
      rw [here, unreferenced, if_neg live]
      exact (Nat.eq_zero_of_not_pos fun some => unknown (h.known _ some)).symm
    · rw [same eq]
      exact h.refs j
  · obtain ⟨j, number, hj⟩ := h.known n (refs n ▸ some)
    refine ⟨j, ?_, ?_⟩ <;> rw [same (apart hj)]
    · exact number
    · exact hj
  · rw [line, h.infeed]
    refine exists_congr fun j => ?_
    by_cases eq : j = i
    · subst eq
      rw [here, was]
      exact iff_of_false (fun planing => nomatch planing.2) fun planing => notPlaning planing.2
    · rw [same eq]

/-- The checks of an accepted load: an unknown number, and a position within the entry's steps (R81, R82). -/
theorem State.loadRefusal_none {d : Fin 32} {g : Fin 16} {a : List Byte} (h : s.loadRefusal d g a = none) :
    s.findLive (u16 a 1) = none ∧ (resumeGiven a = true → u8 a 8 < s.directory[d].header.count) := by
  unfold State.loadRefusal at h
  split at h
  · exact nomatch h
  · next absent =>
    split at h
    · exact nomatch h
    · split at h
      · exact nomatch h
      · split at h
        · exact nomatch h
        · next fits =>
          refine ⟨by simpa using absent, fun given => ?_⟩
          rw [given] at fits
          simp only [Bool.true_and, Bool.not_eq_true', Bool.not_eq_false, Bool.and_eq_true, decide_eq_true_eq] at fits
          exact fits.1

theorem State.bindRefusal_none {d : Fin 32} {g : Fin 16} (h : s.bindRefusal k d g = none) : s.directory[d].valid = true := by
  unfold State.bindRefusal at h
  dsimp only at h
  split at h
  · exact nomatch h
  · next valid => simpa using valid

/-- The unit's part of a load agrees with the record taken. -/
theorem Kiln.load_fits (q : Kiln) (a : List Byte) {c : Charge} (state : c.state = .loaded) (history : c.history = [])
    (below : resumeGiven a = true → u8 a 8 < 24) : ∃ p, ((q.load (u16 a 1) a).markReported).Fits c p := by
  refine ⟨if resumeGiven a = true then u8 a 8 else 0, congrArg some state.symm, ?_, ?_, ?_, fun _ _ => ?_, fun _ => rfl, nofun⟩
  · unfold Kiln.index?
    rw [Kiln.load_eq]
    dsimp only
    split <;> rfl
  · rw [history]
    exact Nat.zero_le _
  · split
    · next given => exact (below given).le
    · exact Nat.zero_le _
  · split
    · next given => exact below given
    · decide

theorem State.KilnsAgree.loadCharge (agree : s.KilnsAgree) (books : s.Books dry hand) (committed : s.CommittedLegal)
    (occupied : (s.kiln k).Occupied) {d : Fin 32} {g : Fin 16} {a : List Byte} (fits : loadFits a = true)
    (idle : (s.kiln k).state = .idle) (bind : s.bindRefusal k d g = none) (load : s.loadRefusal d g a = none)
    (record : s.recordToTake = some i) :
    (s.loadCharge k d g i a).Books (fun j => (s.loadCharge k d g i a).charges[j].drySide) hand
      ∧ (s.loadCharge k d g i a).KilnsAgree := by
  obtain ⟨-, nonzero, -⟩ := (loadFits_iff a).mp fits
  obtain ⟨absent, below⟩ := State.loadRefusal_none load
  have closed := (State.recordToTake_firstOldest record).mem
  have was := (books.order i).mp closed
  obtain ⟨charges, directory⟩ := State.loadCharge_sides k d g i a s
  obtain ⟨reuse, -, line, bins, -⟩ := State.aside_tables (State.loadCharge_aside k d g i a s)
  have self := State.loadCharge_self k d g i a s
  obtain ⟨c, records, number, state, kiln, entry, history, refs⟩ : ∃ c : Charge,
      (∀ j : Fin 48, (s.loadCharge k d g i a).charges[j] = if j = i then c else s.charges[j]) ∧ c.number = u16 a 1
        ∧ c.state = .loaded ∧ c.kiln = some k ∧ c.entry = d ∧ c.history = [] ∧ c.refs = 0 :=
    ⟨_, fun j => by rw [charges]; exact State.setCharge_entry s i j _, rfl, rfl, rfl, rfl, rfl, rfl⟩
  have entries (e : Fin 32) : (s.loadCharge k d g i a).directory[e] =
      if e = d then { s.directory[d] with inUse := s.directory[d].inUse + 1 } else s.directory[e] := by
    rw [directory]
    exact State.modEntry_entry s d e fun x => { x with inUse := x.inUse + 1 }
  have here : (s.loadCharge k d g i a).charges[i] = c := (records i).trans (if_pos rfl)
  have after : (s.loadCharge k d g i a).Books (fun j => (s.loadCharge k d g i a).charges[j].drySide) hand :=
    books.openRecord closed (number ▸ nonzero) (by rw [state]; rfl) refs (number ▸ absent) records reuse line bins
  have linked : (s.loadCharge k d g i a).Links k i := by
    refine ⟨by rw [self, here, number]; rfl, by rw [here, kiln], ?_⟩
    rw [self, here]
    exact Kiln.load_fits _ a state history fun given => (below given).trans_le (committed d).1
  refine ⟨after, agree.change books after (fun j hj => State.loadCharge_other k d g i a s j hj)
    (fun j hj => (records j).trans (if_neg hj)) (fun j _ l => l.live was)
    (fun j _ _ => by rw [occupied.1.mp idle]; nofun) (fun _ => linked) (fun rests => absurd rests linked.busy)
    (by rw [here, history]; exact Nat.zero_le _) (fun e => ?_) (fun e used => ?_)⟩
  · rw [State.bound_idle idle, linked.bound after, entries, here, entry, self]
    by_cases eq : e = d
    · subst eq
      rw [if_pos rfl, beq_self_eq_true]
      rfl
    · rw [if_neg eq, beq_eq_false_iff_ne.mpr (Ne.symm eq), Bool.and_false]
  · obtain ⟨-, -, -, counts⟩ := agree
    rw [entries] at used ⊢
    split
    · next eq => subst eq; exact State.bindRefusal_none bind
    · next other =>
      rw [if_neg other] at used
      exact (counts e).2 used

/-! ### A record given up (R102) -/

theorem State.KilnsAgree.unloadKiln (agree : s.KilnsAgree) (books : s.Books dry hand) (links : s.Links k i)
    (occupied : (s.kiln k).Occupied) {reason : EndReason} (state : (s.kiln k).state.unloadReason = some reason) :
    (s.unloadKiln k reason).Books (fun j => (s.unloadKiln k reason).charges[j].drySide) hand
      ∧ (s.unloadKiln k reason).KilnsAgree := by
  have work := s.unloadKiln_work k reason
  have duty : KilnDuty false k s ((s.releaseEntry k).modKilnCharge k (fun c => { c with state := .stored, endReason := some reason })) :=
    (s.releaseEntry_work k).thenCharge (Charge.keepsLedger_stored reason)
  have found := books.findLive links.live
  have confined := duty.confined (occupied.busy links.busy) links.charge found
  have charges : (s.unloadKiln k reason).charges =
      ((s.releaseEntry k).modKilnCharge k (fun c => { c with state := .stored, endReason := some reason })).charges :=
    (State.raiseStatus_sides k _).2.1.trans (State.withdrawSetpoint_charges k _)
  obtain ⟨stored, directory⟩ := State.unloadKiln_sides reason links.charge
    (show s.charge? s.charges[i].number = some s.charges[i] by unfold State.charge?; rw [found]; rfl)
  have others (j : Fin 48) (hj : j ≠ i) : (s.unloadKiln k reason).charges[j] = s.charges[j] := by
    rw [charges]
    exact confined.others j hj
  have before := (ChargeState.live_of_inKiln links.inKiln).2
  have after := books.work work others before (by rw [charges]; exact confined.planing before)
  have here : (s.unloadKiln k reason).charges[i] = { s.charges[i] with state := .stored, endReason := some reason } := by
    unfold State.charge? at stored
    rw [State.findLive_of_ledger work.ledger, found] at stored
    exact Option.some.inj stored
  have idle : ((s.unloadKiln k reason).kiln k).state = .idle := by
    rw [State.unloadKiln_self]
    rfl
  have counted := links.counted books agree
  obtain ⟨-, -, histories, counts⟩ := id agree
  have binds : (s.kiln k).state.binds = !decide ((s.kiln k).state = .done) := by
    revert state
    cases (s.kiln k).state <;> simp [KilnState.unloadReason, KilnState.binds]
  have entries (d : Fin 32) : (s.unloadKiln k reason).directory[d].inUse + (s.bound d k).toNat = s.directory[d].inUse := by
    rw [links.bound books, directory, binds]
    rw [binds] at counted
    by_cases done : (s.kiln k).state = .done
    · rw [if_pos done, decide_eq_true done]
      rfl
    · rw [decide_eq_false done] at counted ⊢
      rw [if_neg done]
      by_cases eq : d = s.charges[i].entry
      · subst eq
        have self : (s.directory.set s.charges[i].entry { s.directory[s.charges[i].entry] with
            inUse := s.directory[s.charges[i].entry].inUse - 1 })[s.charges[i].entry] = { s.directory[s.charges[i].entry] with
            inUse := s.directory[s.charges[i].entry].inUse - 1 } := Vector.getElem_set_self ..
        rw [self, beq_self_eq_true]
        exact Nat.sub_add_cancel counted
      · have other : (s.directory.set s.charges[i].entry { s.directory[s.charges[i].entry] with
            inUse := s.directory[s.charges[i].entry].inUse - 1 })[d] = s.directory[d] :=
          Vector.getElem_set_ne _ _ fun same => eq (Fin.ext same.symm)
        rw [other, beq_eq_false_iff_ne.mpr (Ne.symm eq)]
        rfl
  refine ⟨after, agree.change books after (fun j hj => work.other j hj) others (fun j hj => links.apart hj)
    (fun j hj => links.own books hj) (fun busy => absurd idle busy) (fun _ => by rw [here]; rfl)
    (by rw [here]; exact histories i) (fun d => ?_) (fun d used => ?_)⟩
  · rw [State.bound_idle idle, entries]
    rfl
  · rw [work.valid]
    exact (counts d).2 fun none => used (by have := entries d; omega)

end Sys2Proof.Machine
end

section
/-! PROOFS. Every step keeps the kiln units, the charge table and the kilns' charges in agreement: the statement
StepsKeepTheKilnsLegal. -/

namespace Sys2Proof.Machine

variable {s t : State} {k : KilnId}

/-- The charge table and the kilns agree, over legal kiln units and legal schedules. -/
structure State.Linked (s : State) : Prop where
  records : s.RecordsAgree
  kilns : s.KilnsAgree
  units : s.UnitsLegal False
  schedules : s.SchedulesLegal

namespace State.Linked

theorem books (h : s.Linked) : s.Books (fun j => s.charges[j].drySide) [] := (s.books_nil _).mpr ⟨h.records, fun _ => rfl⟩

/-- What keeps the books with the kilns' side, the kilns' charges and the in-use counts keeps the agreement. -/
theorem agree_of_books (h : s.Linked) (books : t.Books (fun j => s.charges[j].drySide) [])
    (kilns : ∀ k, (t.kiln k).core = (s.kiln k).core ∧ (t.kiln k).charge = (s.kiln k).charge)
    (directory : ∀ d : Fin 32, t.directory[d].inUse = s.directory[d].inUse
      ∧ (s.directory[d].inUse ≠ 0 → s.directory[d].valid = true → t.directory[d].valid = true)) :
    t.RecordsAgree ∧ t.KilnsAgree :=
  ⟨((t.books_nil _).mp books).1, h.kilns.of_dry h.books books kilns directory⟩

/-- The same where no kiln and no directory entry changes. -/
theorem agree_beside (h : s.Linked) (books : t.Books (fun j => s.charges[j].drySide) []) (kilns : t.kilns = s.kilns)
    (directory : t.directory = s.directory) : t.RecordsAgree ∧ t.KilnsAgree := by
  refine h.agree_of_books books (fun k => ?_) fun d => ?_
  · rw [State.kiln_congr kilns]
    exact ⟨rfl, rfl⟩
  · rw [directory]
    exact ⟨rfl, fun _ => id⟩

theorem agree_beyond (h : s.Linked) (books : t.Books (fun j => s.charges[j].drySide) []) (beyond : t.beyond = s.beyond) :
    t.RecordsAgree ∧ t.KilnsAgree :=
  h.agree_beside books (congrArg State.kilns beyond :) (congrArg State.directory beyond :)

theorem agree_of_ledger (h : s.Linked) (ledger : t.ledger = s.ledger) (kilns : t.kilns = s.kilns)
    (directory : t.directory = s.directory) : t.RecordsAgree ∧ t.KilnsAgree :=
  h.agree_beside (h.books.of_ledger ledger) kilns directory

theorem congr (h : s.Linked) (ledger : t.ledger = s.ledger) (kilns : t.kilns = s.kilns) (directory : t.directory = s.directory)
    (staging : t.staging = s.staging) : t.Linked := by
  obtain ⟨records, agree⟩ := h.agree_of_ledger ledger kilns directory
  refine ⟨records, agree, h.units.congr kilns, h.schedules.congr ?_⟩
  unfold State.schedules State.committed
  rw [directory, staging]

theorem of_inner (h : s.Linked) (inner : t.inner = s.inner) : t.Linked :=
  h.congr (State.ledger_of_inner inner) (congrArg State.kilns inner :) (congrArg State.directory inner :)
    (congrArg State.staging inner :)

/-- One kiln unit changes outside what the agreement reads. -/
theorem agree_modKiln (h : s.Linked) {f : Kiln → Kiln} (keeps : ∀ q, (f q).core = q.core ∧ (f q).charge = q.charge) :
    (s.modKiln k f).RecordsAgree ∧ (s.modKiln k f).KilnsAgree := by
  refine h.agree_of_books (h.books.of_ledger rfl) (fun j => ?_) fun _ => ⟨rfl, fun _ => id⟩
  by_cases eq : j = k
  · subst eq
    rw [State.kiln_modKiln_self]
    exact keeps _
  · rw [State.kiln_modKiln_other k j eq]
    exact ⟨rfl, rfl⟩

/-- Work of a kiln unit that holds its charge still. -/
theorem work (h : s.Linked) (busy : (s.kiln k).state ≠ .idle) (duty : KilnDuty false k s t)
    (tends : ∀ {p : Prop} {m : Nat}, s.Tends p k m → t.Tends p k m) : t.Linked := by
  obtain ⟨agrees, -⟩ := id h.kilns
  obtain ⟨i, links⟩ := (s.kilnAgrees_iff k).mp (agrees k) busy
  obtain ⟨holds, occupied, -⟩ := h.units k
  obtain ⟨books, kilns⟩ := h.kilns.work h.books links occupied holds h.schedules.1 duty fun _ => tends
  exact ⟨((t.books_nil _).mp books).1, kilns, h.units.work busy duty tends, h.schedules.congr duty.work.schedules⟩

theorem detect (h : s.Linked) (m : Bool) (f : FaultKind) (k : KilnId) : (s.detect m f k).Linked := by
  by_cases idle : (s.kiln k).state = .idle
  · rw [State.detect_ignored m f k s (.inr idle)]
    exact h
  · exact h.work idle (s.detect_work k m f) fun tends => tends.detect m f

end State.Linked

theorem Happens.linked (h : Happens true s t) (hs : s.Linked) : t.RecordsAgree ∧ t.KilnsAgree := by
  cases h
  case reset straps eye encA encB _ =>
    exact ⟨State.recordsAgree_afterReset straps eye encA encB, State.kilnsAgree_afterReset straps eye encA encB⟩
  case tick =>
    refine hs.agree_of_books (hs.books.of_ledger rfl) (fun k => ?_) fun _ => ⟨rfl, fun _ => id⟩
    rw [State.kiln_tick]
    exact ⟨rfl, rfl⟩
  case climate k x =>
    by_cases idle : (s.kiln k).state = .idle
    · rw [State.climateArrival, if_pos idle]
      exact ⟨hs.records, hs.kilns⟩
    · have after := hs.work idle (s.climateArrival_work k x) fun h => h.climateArrival x
      exact ⟨after.records, after.kilns⟩
  case probe k x =>
    by_cases idle : (s.kiln k).state = .idle
    · rw [State.probeArrival, if_pos idle]
      exact ⟨hs.records, hs.kilns⟩
    · have after := hs.work idle (s.probeArrival_work k x) fun h => h.probeArrival x
      exact ⟨after.records, after.kilns⟩
  case minute k busy =>
    have after := hs.work busy (s.kilnMinute_work k) fun h => h.kilnMinute
    exact ⟨after.records, after.kilns⟩
  case watchdog =>
    unfold State.expireWatchdog
    split
    · have after : (s.lapse 0).Linked := State.lapse_carries 0 (fun _ _ _ => hs.congr rfl rfl rfl rfl)
        (fun u n hu => hu.of_inner (State.raise_inner n u)) (fun k u hu => hu.detect false .supervisor k)
        fun n u hu => hu.congr rfl rfl rfl rfl
      exact ⟨after.records, after.kilns⟩
    · exact ⟨hs.records, hs.kilns⟩
  case edit =>
    unfold State.expireEdit
    split
    · exact hs.agree_of_ledger ((State.ledger_of_inner (State.raise_inner _ _)).trans rfl)
        ((congrArg State.kilns (State.raise_inner _ _) :).trans rfl) ((congrArg State.directory (State.raise_inner _ _) :).trans rfl)
    · exact ⟨hs.records, hs.kilns⟩
  case scan x => exact hs.agree_beyond (hs.books.of_ledger (State.scanArrival_ledger x s)) (State.scanArrival_beyond x s)
  case printDone x => exact hs.agree_beyond (hs.books.of_ledger (State.printDone_ledger x s)) (State.printDone_beyond x s)
  case encoder x y => exact hs.agree_beyond (hs.books.encoderChange x y) (State.encoderChange_beyond x y s)
  case leading => exact hs.agree_beyond hs.books.leadingEdge (State.leadingEdge_beyond s)
  case trailing => exact hs.agree_beyond (hs.books.of_ledger s.trailingEdge_ledger) (State.trailingEdge_beyond s)
  case label => exact hs.agree_beyond (hs.books.of_ledger s.labelTimeout_ledger) (State.labelTimeout_beyond s)
  all_goals exact hs.agree_of_ledger rfl rfl rfl

theorem Effect.linked {kind : ReqKind} {r : Request} (h : Effect r s kind t) (hs : s.Linked) : t.RecordsAgree ∧ t.KilnsAgree := by
  have runs {k : KilnId} (h : (s.kiln k).state = .running ∨ (s.kiln k).state = .held) : (s.kiln k).state ≠ .idle := by
    rcases h with h | h <;> rw [h] <;> decide
  have both {u : State} (hu : u.Linked) : u.RecordsAgree ∧ u.KilnsAgree := ⟨hu.records, hu.kilns⟩
  have given {u : State} (hu : u.Books (fun j => u.charges[j].drySide) [] ∧ u.KilnsAgree) : u.RecordsAgree ∧ u.KilnsAgree :=
    ⟨((u.books_nil _).mp hu.1).1, hu.2⟩
  cases h
  case heartbeat d =>
    exact both (State.heartbeat_carries d (fun _ _ _ => hs.congr rfl rfl rfl rfl)
      (fun u n hu => hu.of_inner (State.raise_inner n u)) (fun k u hu => hu.detect false .supervisor k)
      fun n u hu => hu.congr rfl rfl rfl rfl)
  case loadCharge k d g i _ fits idle bind load record =>
    exact given (hs.kilns.loadCharge hs.books hs.schedules.1 (hs.units.occupied k) fits idle bind load record)
  case unload k reason _ state =>
    have busy : (s.kiln k).state ≠ .idle := fun idle => by
      rw [idle] at state
      exact nomatch state
    obtain ⟨agrees, -⟩ := id hs.kilns
    obtain ⟨i, links⟩ := (s.kilnAgrees_iff k).mp (agrees k) busy
    exact given (hs.kilns.unloadKiln hs.books links (hs.units.occupied k) state)
  case startKiln k p _ loaded pos =>
    exact both (hs.work (by rw [loaded]; decide) (s.startKiln_work k p) fun h => h.startKiln loaded pos)
  case override k dry wet dr wr _ state room =>
    have admits : s.Admits k (.override dry wet dr wr) := ⟨nofun, nofun⟩
    exact both (hs.work (runs state) (s.pushHold_work k _ _) fun h => h.pushHold state room admits false)
  case resume k top rest _ stack =>
    have held := (hs.units k).1.2.1.mp (by rw [stack]; exact List.cons_ne_nil _ _)
    exact both (hs.work (runs (.inr held)) (s.resumeEntry_work k _) fun h => h.resumeEntry stack)
  case stop k _ state => exact both (hs.work (runs state) (s.stopKiln_work k _ _) fun h => h.stopKiln state false .request)
  case restart k _ stopped =>
    exact both (hs.work (by rw [stopped]; decide) (s.restartKiln_work k) fun h => h.restartKiln stopped)
  case feedNone => exact hs.agree_beyond hs.books.planerFeed_none (State.planerFeed_beyond 0 s)
  case feed n c nonzero found state =>
    exact hs.agree_beyond (hs.books.planerFeed nonzero found state) (State.planerFeed_beyond n s)
  case release n i found state unreferenced =>
    exact hs.agree_beside (hs.books.closeRecord state unreferenced) rfl rfl
  case closePack bin p isOpen => exact hs.agree_beyond (hs.books.closePack isOpen .forced) (State.closePack_beyond bin p .forced s)
  case lineReset => exact hs.agree_beyond hs.books.lineReset (State.lineReset_beyond s)
  case editCommit e _ _ =>
    have committed (f : DirEntry → DirEntry) (inUse : ∀ x, (f x).inUse = x.inUse) (valid : ∀ x, (f x).valid = true) (d : Fin 32) :
        (s.modEntry e.target f).directory[d].inUse = s.directory[d].inUse
          ∧ (s.directory[d].inUse ≠ 0 → s.directory[d].valid = true → (s.modEntry e.target f).directory[d].valid = true) := by
      rw [State.modEntry_entry]
      split
      · next eq => subst eq; exact ⟨inUse _, fun _ _ => valid _⟩
      · exact ⟨rfl, fun _ => id⟩
    exact hs.agree_of_books (hs.books.of_ledger rfl) (fun _ => ⟨rfl, rfl⟩) (committed (fun x => { x with
      valid := true, generation := nextGeneration s.directory[e.target].generation, header := e.header, steps := e.steps })
      (fun _ => rfl) fun _ => rfl)
  case entryDelete d unused =>
    refine hs.agree_of_books (hs.books.of_ledger rfl) (fun _ => ⟨rfl, rfl⟩) fun e => ?_
    rw [State.modEntry_entry]
    split
    · next eq =>
      subst eq
      exact ⟨unused.symm, fun used => absurd unused used⟩
    · exact ⟨rfl, fun _ => id⟩
  case writeStation d e _ _ =>
    obtain ⟨kilns, directory⟩ := State.writeStation_sides d e s
    exact hs.agree_of_ledger (State.writeStation_ledger d e s) kilns directory
  case clearPort p => exact both (hs.of_inner (State.modPort_inner p _ s))
  case writeKilnLimits k l _ _ =>
    exact hs.agree_modKiln fun q => by fun_cases Kiln.writeLimits l q <;> exact ⟨rfl, rfl⟩
  case writeFaultActions k x _ => exact hs.agree_modKiln fun _ => ⟨rfl, rfl⟩
  case writeBin i target kind => exact hs.agree_beside (hs.books.relist i _ (hs.books.lists i) fun _ => rfl) rfl rfl
  all_goals exact hs.agree_of_ledger rfl rfl rfl

theorem linked_kept : Kept State.Linked where
  congr h hs := hs.congr (congrArg State.ledger h :) (congrArg State.kilns h :) (congrArg State.directory h :)
    (congrArg State.staging h :)
  event h hs := ⟨(h.linked hs).1, (h.linked hs).2, h.unitsLegal hs.units, h.schedulesLegal hs.schedules⟩
  served h hs := ⟨(h.linked hs).1, (h.linked hs).2, h.unitsLegal hs.units, h.schedulesLegal hs.schedules⟩

/-- Settles O58: the kiln units by their own invariant, the charge table by the books that records, boards, packs and kilns keep. -/
theorem stepsKeepTheKilnsLegal : Obligations.StepsKeepTheKilnsLegal := by
  refine ⟨fun s t holds occupied setpoints h => ?_, fun s t records kilns holds occupied committed staged h => ?_⟩
  · exact t.unitsLegal_true.mp (unitsLegal_kept.step (s.unitsLegal_true.mpr ⟨holds, occupied, setpoints⟩) h)
  · have after := linked_kept.step ⟨records, kilns, s.unitsLegal_false.mpr ⟨holds, occupied⟩, committed, staged⟩ h
    exact ⟨after.records, after.kilns⟩

end Sys2Proof.Machine
end
